-- ==== Sys2Proof/Word.lean ====
section
/-! DEFINITION. The plain types of bits and tables that every other file uses. -/

namespace Sys2Proof

/-- An instruction word (R174). -/
abbrev Word := BitVec 32

/-- A 64-bit scalar register, vector lane, control register or address. -/
abbrev Dword := BitVec 64

/-- One byte. -/
abbrev Byte := BitVec 8

/-- A set of lanes of a group, bit ℓ for lane ℓ. -/
abbrev LaneMask := BitVec 32

/-- A vector register: lane ℓ is bits [64ℓ+63 : 64ℓ], and element e of width w is bits [we+w−1 : we] (R8). -/
abbrev VReg := BitVec 2048

/-- A table keyed by number: keys strictly rising, a key that is absent holds the table's default. -/
abbrev NMap (α : Type) := List (Nat × α)

end Sys2Proof
end

