-- ==== Sys2Proof/Syntax.lean ====
section
/-! DEFINITION. The ONE instruction type: one constructor per row of the table of operations and events
(spec/opcode_table.json). A row with an encoding carries its fields, at their widths and under the table's names;
a row without one (an event, R9 and chapter "What each step holds") carries the plain data that names where it happens. -/

namespace Sys2Proof

/-- The rows of the table: instruction words of group streams, tile streams, Muovo routines and firmware, and the events. -/
inductive Instr where
  /-- NOP (R178): Word with bits [30:0] zero; belongs to no pipe and has no effect. -/
  | nop (c : BitVec 1)
  /-- ADD (R197): Vector integer wrapping add of A and vector B. -/
  | add (c : BitVec 1) (k : BitVec 1) (t : BitVec 3) (d : BitVec 6) (a : BitVec 6) (b : BitVec 6)
  /-- ADD_SCALAR (R197): Vector integer wrapping add with scalar B. -/
  | addScalar (c : BitVec 1) (k : BitVec 1) (t : BitVec 3) (d : BitVec 6) (a : BitVec 6) (s : BitVec 6)
  /-- SUB (R197): Vector integer wrapping subtract. -/
  | sub (c : BitVec 1) (k : BitVec 1) (t : BitVec 3) (d : BitVec 6) (a : BitVec 6) (b : BitVec 6)
  /-- SUB_SCALAR (R197): Vector integer wrapping subtract of a scalar. -/
  | subScalar (c : BitVec 1) (k : BitVec 1) (t : BitVec 3) (d : BitVec 6) (a : BitVec 6) (s : BitVec 6)
  /-- ADDS (R197): Vector integer saturating add raising SA on clamp. -/
  | adds (c : BitVec 1) (k : BitVec 1) (t : BitVec 3) (d : BitVec 6) (a : BitVec 6) (b : BitVec 6)
  /-- ADDS_SCALAR (R197): Vector integer saturating add of a scalar. -/
  | addsScalar (c : BitVec 1) (k : BitVec 1) (t : BitVec 3) (d : BitVec 6) (a : BitVec 6) (s : BitVec 6)
  /-- SUBS (R197): Vector integer saturating subtract. -/
  | subs (c : BitVec 1) (k : BitVec 1) (t : BitVec 3) (d : BitVec 6) (a : BitVec 6) (b : BitVec 6)
  /-- SUBS_SCALAR (R197): Vector integer saturating subtract of a scalar. -/
  | subsScalar (c : BitVec 1) (k : BitVec 1) (t : BitVec 3) (d : BitVec 6) (a : BitVec 6) (s : BitVec 6)
  /-- MUL (R197): Vector integer wrapping multiply. -/
  | mul (c : BitVec 1) (k : BitVec 1) (t : BitVec 3) (d : BitVec 6) (a : BitVec 6) (b : BitVec 6)
  /-- MUL_SCALAR (R197): Vector integer wrapping multiply by a scalar. -/
  | mulScalar (c : BitVec 1) (k : BitVec 1) (t : BitVec 3) (d : BitVec 6) (a : BitVec 6) (s : BitVec 6)
  /-- MULH (R197): Upper half of the exact vector integer product. -/
  | mulh (c : BitVec 1) (k : BitVec 1) (t : BitVec 3) (d : BitVec 6) (a : BitVec 6) (b : BitVec 6)
  /-- MULH_SCALAR (R197): Upper half of the product with a scalar. -/
  | mulhScalar (c : BitVec 1) (k : BitVec 1) (t : BitVec 3) (d : BitVec 6) (a : BitVec 6) (s : BitVec 6)
  /-- MAD (R197): Vector integer multiply-add into D, wrapping. -/
  | mad (c : BitVec 1) (k : BitVec 1) (t : BitVec 3) (d : BitVec 6) (a : BitVec 6) (b : BitVec 6)
  /-- MAD_SCALAR (R197): Vector integer multiply-add with a scalar. -/
  | madScalar (c : BitVec 1) (k : BitVec 1) (t : BitVec 3) (d : BitVec 6) (a : BitVec 6) (s : BitVec 6)
  /-- DOT2 (R199): Pairwise products accumulated with saturation into double-width elements. -/
  | dot2 (c : BitVec 1) (k : BitVec 1) (t : BitVec 3) (d : BitVec 6) (a : BitVec 6) (b : BitVec 6)
  /-- DOT2_SCALAR (R199): Pairwise dot2 accumulation with a scalar operand. -/
  | dot2Scalar (c : BitVec 1) (k : BitVec 1) (t : BitVec 3) (d : BitVec 6) (a : BitVec 6) (s : BitVec 6)
  /-- MIN (R197): Vector integer minimum. -/
  | min (c : BitVec 1) (k : BitVec 1) (t : BitVec 3) (d : BitVec 6) (a : BitVec 6) (b : BitVec 6)
  /-- MIN_SCALAR (R197): Vector integer minimum with a scalar. -/
  | minScalar (c : BitVec 1) (k : BitVec 1) (t : BitVec 3) (d : BitVec 6) (a : BitVec 6) (s : BitVec 6)
  /-- MAX (R197): Vector integer maximum. -/
  | max (c : BitVec 1) (k : BitVec 1) (t : BitVec 3) (d : BitVec 6) (a : BitVec 6) (b : BitVec 6)
  /-- MAX_SCALAR (R197): Vector integer maximum with a scalar. -/
  | maxScalar (c : BitVec 1) (k : BitVec 1) (t : BitVec 3) (d : BitVec 6) (a : BitVec 6) (s : BitVec 6)
  /-- ABSD (R197): Vector integer absolute difference. -/
  | absd (c : BitVec 1) (k : BitVec 1) (t : BitVec 3) (d : BitVec 6) (a : BitVec 6) (b : BitVec 6)
  /-- ABSD_SCALAR (R197): Absolute difference with a scalar. -/
  | absdScalar (c : BitVec 1) (k : BitVec 1) (t : BitVec 3) (d : BitVec 6) (a : BitVec 6) (s : BitVec 6)
  /-- AND (R197): Bitwise and. -/
  | and (c : BitVec 1) (k : BitVec 1) (t : BitVec 3) (d : BitVec 6) (a : BitVec 6) (b : BitVec 6)
  /-- AND_SCALAR (R197): Bitwise and with a scalar. -/
  | andScalar (c : BitVec 1) (k : BitVec 1) (t : BitVec 3) (d : BitVec 6) (a : BitVec 6) (s : BitVec 6)
  /-- OR (R197): Bitwise or. -/
  | or (c : BitVec 1) (k : BitVec 1) (t : BitVec 3) (d : BitVec 6) (a : BitVec 6) (b : BitVec 6)
  /-- OR_SCALAR (R197): Bitwise or with a scalar. -/
  | orScalar (c : BitVec 1) (k : BitVec 1) (t : BitVec 3) (d : BitVec 6) (a : BitVec 6) (s : BitVec 6)
  /-- XOR (R197): Bitwise exclusive or. -/
  | xor (c : BitVec 1) (k : BitVec 1) (t : BitVec 3) (d : BitVec 6) (a : BitVec 6) (b : BitVec 6)
  /-- XOR_SCALAR (R197): Bitwise exclusive or with a scalar. -/
  | xorScalar (c : BitVec 1) (k : BitVec 1) (t : BitVec 3) (d : BitVec 6) (a : BitVec 6) (s : BitVec 6)
  /-- ANDN (R197): A and not B. -/
  | andn (c : BitVec 1) (k : BitVec 1) (t : BitVec 3) (d : BitVec 6) (a : BitVec 6) (b : BitVec 6)
  /-- ANDN_SCALAR (R197): A and not scalar B. -/
  | andnScalar (c : BitVec 1) (k : BitVec 1) (t : BitVec 3) (d : BitVec 6) (a : BitVec 6) (s : BitVec 6)
  /-- SHL (R197): Shift left by the whole count element. -/
  | shl (c : BitVec 1) (k : BitVec 1) (t : BitVec 3) (d : BitVec 6) (a : BitVec 6) (b : BitVec 6)
  /-- SHL_SCALAR (R197): Shift left by a scalar count. -/
  | shlScalar (c : BitVec 1) (k : BitVec 1) (t : BitVec 3) (d : BitVec 6) (a : BitVec 6) (s : BitVec 6)
  /-- SHR (R197): Arithmetic or logical shift right by type. -/
  | shr (c : BitVec 1) (k : BitVec 1) (t : BitVec 3) (d : BitVec 6) (a : BitVec 6) (b : BitVec 6)
  /-- SHR_SCALAR (R197): Shift right by a scalar count. -/
  | shrScalar (c : BitVec 1) (k : BitVec 1) (t : BitVec 3) (d : BitVec 6) (a : BitVec 6) (s : BitVec 6)
  /-- SHRR (R197): Rounding shift right. -/
  | shrr (c : BitVec 1) (k : BitVec 1) (t : BitVec 3) (d : BitVec 6) (a : BitVec 6) (b : BitVec 6)
  /-- SHRR_SCALAR (R197): Rounding shift right by a scalar count. -/
  | shrrScalar (c : BitVec 1) (k : BitVec 1) (t : BitVec 3) (d : BitVec 6) (a : BitVec 6) (s : BitVec 6)
  /-- ROTL (R197): Rotate left by count modulo width. -/
  | rotl (c : BitVec 1) (k : BitVec 1) (t : BitVec 3) (d : BitVec 6) (a : BitVec 6) (b : BitVec 6)
  /-- ROTL_SCALAR (R197): Rotate left by a scalar count. -/
  | rotlScalar (c : BitVec 1) (k : BitVec 1) (t : BitVec 3) (d : BitVec 6) (a : BitVec 6) (s : BitVec 6)
  /-- CEQ (R197): Element compare equal giving all ones or zero. -/
  | ceq (c : BitVec 1) (k : BitVec 1) (t : BitVec 3) (d : BitVec 6) (a : BitVec 6) (b : BitVec 6)
  /-- CEQ_SCALAR (R197): Compare equal with a scalar. -/
  | ceqScalar (c : BitVec 1) (k : BitVec 1) (t : BitVec 3) (d : BitVec 6) (a : BitVec 6) (s : BitVec 6)
  /-- CLT (R197): Element compare less than. -/
  | clt (c : BitVec 1) (k : BitVec 1) (t : BitVec 3) (d : BitVec 6) (a : BitVec 6) (b : BitVec 6)
  /-- CLT_SCALAR (R197): Compare less than a scalar. -/
  | cltScalar (c : BitVec 1) (k : BitVec 1) (t : BitVec 3) (d : BitVec 6) (a : BitVec 6) (s : BitVec 6)
  /-- CLE (R197): Element compare less or equal. -/
  | cle (c : BitVec 1) (k : BitVec 1) (t : BitVec 3) (d : BitVec 6) (a : BitVec 6) (b : BitVec 6)
  /-- CLE_SCALAR (R197): Compare less or equal to a scalar. -/
  | cleScalar (c : BitVec 1) (k : BitVec 1) (t : BitVec 3) (d : BitVec 6) (a : BitVec 6) (s : BitVec 6)
  /-- BFX (R198): Bit field extract with position and length from B. -/
  | bfx (c : BitVec 1) (k : BitVec 1) (t : BitVec 3) (d : BitVec 6) (a : BitVec 6) (b : BitVec 6)
  /-- BFX_SCALAR (R198): Bit field extract with scalar position and length. -/
  | bfxScalar (c : BitVec 1) (k : BitVec 1) (t : BitVec 3) (d : BitVec 6) (a : BitVec 6) (s : BitVec 6)
  /-- BFI (R198): Bit field insert into the old D. -/
  | bfi (c : BitVec 1) (k : BitVec 1) (t : BitVec 3) (d : BitVec 6) (a : BitVec 6) (b : BitVec 6)
  /-- BFI_SCALAR (R198): Bit field insert with scalar position and length. -/
  | bfiScalar (c : BitVec 1) (k : BitVec 1) (t : BitVec 3) (d : BitVec 6) (a : BitVec 6) (s : BitVec 6)
  /-- POPC (R197): Population count per element. -/
  | popc (c : BitVec 1) (k : BitVec 1) (t : BitVec 3) (d : BitVec 6) (a : BitVec 6)
  /-- CLZ (R197): Count leading zeros per element. -/
  | clz (c : BitVec 1) (k : BitVec 1) (t : BitVec 3) (d : BitVec 6) (a : BitVec 6)
  /-- BREV (R197): Bit reverse per element. -/
  | brev (c : BitVec 1) (k : BitVec 1) (t : BitVec 3) (d : BitVec 6) (a : BitVec 6)
  /-- SEL (R197): Select A where old D is non-zero, else B. -/
  | sel (c : BitVec 1) (k : BitVec 1) (t : BitVec 3) (d : BitVec 6) (a : BitVec 6) (b : BitVec 6)
  /-- SEL_SCALAR (R197): Select A or scalar B by old D. -/
  | selScalar (c : BitVec 1) (k : BitVec 1) (t : BitVec 3) (d : BitVec 6) (a : BitVec 6) (s : BitVec 6)
  /-- AVG (R197): Rounded-up average. -/
  | avg (c : BitVec 1) (k : BitVec 1) (t : BitVec 3) (d : BitVec 6) (a : BitVec 6) (b : BitVec 6)
  /-- AVG_SCALAR (R197): Rounded-up average with a scalar. -/
  | avgScalar (c : BitVec 1) (k : BitVec 1) (t : BitVec 3) (d : BitVec 6) (a : BitVec 6) (s : BitVec 6)
  /-- FADD (R209): Float add, rounded. -/
  | fadd (c : BitVec 1) (k : BitVec 1) (t : BitVec 3) (d : BitVec 6) (a : BitVec 6) (b : BitVec 6)
  /-- FADD_SCALAR (R209): Float add with a scalar operand. -/
  | faddScalar (c : BitVec 1) (k : BitVec 1) (t : BitVec 3) (d : BitVec 6) (a : BitVec 6) (s : BitVec 6)
  /-- FSUB (R209): Float subtract, rounded. -/
  | fsub (c : BitVec 1) (k : BitVec 1) (t : BitVec 3) (d : BitVec 6) (a : BitVec 6) (b : BitVec 6)
  /-- FSUB_SCALAR (R209): Float subtract of a scalar. -/
  | fsubScalar (c : BitVec 1) (k : BitVec 1) (t : BitVec 3) (d : BitVec 6) (a : BitVec 6) (s : BitVec 6)
  /-- FMUL (R209): Float multiply, rounded. -/
  | fmul (c : BitVec 1) (k : BitVec 1) (t : BitVec 3) (d : BitVec 6) (a : BitVec 6) (b : BitVec 6)
  /-- FMUL_SCALAR (R209): Float multiply by a scalar. -/
  | fmulScalar (c : BitVec 1) (k : BitVec 1) (t : BitVec 3) (d : BitVec 6) (a : BitVec 6) (s : BitVec 6)
  /-- FMA (R209): Fused a×b+d rounded once. -/
  | fma (c : BitVec 1) (k : BitVec 1) (t : BitVec 3) (d : BitVec 6) (a : BitVec 6) (b : BitVec 6)
  /-- FMA_SCALAR (R209): Fused multiply-add with a scalar. -/
  | fmaScalar (c : BitVec 1) (k : BitVec 1) (t : BitVec 3) (d : BitVec 6) (a : BitVec 6) (s : BitVec 6)
  /-- FMS (R209): Fused a×b−d rounded once. -/
  | fms (c : BitVec 1) (k : BitVec 1) (t : BitVec 3) (d : BitVec 6) (a : BitVec 6) (b : BitVec 6)
  /-- FMS_SCALAR (R209): Fused multiply-subtract with a scalar. -/
  | fmsScalar (c : BitVec 1) (k : BitVec 1) (t : BitVec 3) (d : BitVec 6) (a : BitVec 6) (s : BitVec 6)
  /-- FNMA (R209): Fused d−a×b rounded once. -/
  | fnma (c : BitVec 1) (k : BitVec 1) (t : BitVec 3) (d : BitVec 6) (a : BitVec 6) (b : BitVec 6)
  /-- FNMA_SCALAR (R209): Fused negated multiply-add with a scalar. -/
  | fnmaScalar (c : BitVec 1) (k : BitVec 1) (t : BitVec 3) (d : BitVec 6) (a : BitVec 6) (s : BitVec 6)
  /-- FMIN (R211): Float minimum, NaN gives canonical NaN. -/
  | fmin (c : BitVec 1) (k : BitVec 1) (t : BitVec 3) (d : BitVec 6) (a : BitVec 6) (b : BitVec 6)
  /-- FMIN_SCALAR (R211): Float minimum with a scalar. -/
  | fminScalar (c : BitVec 1) (k : BitVec 1) (t : BitVec 3) (d : BitVec 6) (a : BitVec 6) (s : BitVec 6)
  /-- FMAX (R211): Float maximum, NaN gives canonical NaN. -/
  | fmax (c : BitVec 1) (k : BitVec 1) (t : BitVec 3) (d : BitVec 6) (a : BitVec 6) (b : BitVec 6)
  /-- FMAX_SCALAR (R211): Float maximum with a scalar. -/
  | fmaxScalar (c : BitVec 1) (k : BitVec 1) (t : BitVec 3) (d : BitVec 6) (a : BitVec 6) (s : BitVec 6)
  /-- FMINM (R211): Float minimum returning the non-NaN operand. -/
  | fminm (c : BitVec 1) (k : BitVec 1) (t : BitVec 3) (d : BitVec 6) (a : BitVec 6) (b : BitVec 6)
  /-- FMINM_SCALAR (R211): fminm with a scalar. -/
  | fminmScalar (c : BitVec 1) (k : BitVec 1) (t : BitVec 3) (d : BitVec 6) (a : BitVec 6) (s : BitVec 6)
  /-- FMAXM (R211): Float maximum returning the non-NaN operand. -/
  | fmaxm (c : BitVec 1) (k : BitVec 1) (t : BitVec 3) (d : BitVec 6) (a : BitVec 6) (b : BitVec 6)
  /-- FMAXM_SCALAR (R211): fmaxm with a scalar. -/
  | fmaxmScalar (c : BitVec 1) (k : BitVec 1) (t : BitVec 3) (d : BitVec 6) (a : BitVec 6) (s : BitVec 6)
  /-- FABS (R209): Clear the sign, exact. -/
  | fabs (c : BitVec 1) (k : BitVec 1) (t : BitVec 3) (d : BitVec 6) (a : BitVec 6)
  /-- FNEG (R209): Invert the sign, exact. -/
  | fneg (c : BitVec 1) (k : BitVec 1) (t : BitVec 3) (d : BitVec 6) (a : BitVec 6)
  /-- FCEQ (R212): Float compare equal. -/
  | fceq (c : BitVec 1) (k : BitVec 1) (t : BitVec 3) (d : BitVec 6) (a : BitVec 6) (b : BitVec 6)
  /-- FCEQ_SCALAR (R212): Float compare equal with a scalar. -/
  | fceqScalar (c : BitVec 1) (k : BitVec 1) (t : BitVec 3) (d : BitVec 6) (a : BitVec 6) (s : BitVec 6)
  /-- FCLT (R212): Float compare less than. -/
  | fclt (c : BitVec 1) (k : BitVec 1) (t : BitVec 3) (d : BitVec 6) (a : BitVec 6) (b : BitVec 6)
  /-- FCLT_SCALAR (R212): Float compare less than a scalar. -/
  | fcltScalar (c : BitVec 1) (k : BitVec 1) (t : BitVec 3) (d : BitVec 6) (a : BitVec 6) (s : BitVec 6)
  /-- FCLE (R212): Float compare less or equal. -/
  | fcle (c : BitVec 1) (k : BitVec 1) (t : BitVec 3) (d : BitVec 6) (a : BitVec 6) (b : BitVec 6)
  /-- FCLE_SCALAR (R212): Float compare less or equal to a scalar. -/
  | fcleScalar (c : BitVec 1) (k : BitVec 1) (t : BitVec 3) (d : BitVec 6) (a : BitVec 6) (s : BitVec 6)
  /-- FCUN (R212): Float compare unordered. -/
  | fcun (c : BitVec 1) (k : BitVec 1) (t : BitVec 3) (d : BitVec 6) (a : BitVec 6) (b : BitVec 6)
  /-- FCUN_SCALAR (R212): Float compare unordered with a scalar. -/
  | fcunScalar (c : BitVec 1) (k : BitVec 1) (t : BitVec 3) (d : BitVec 6) (a : BitVec 6) (s : BitVec 6)
  /-- FCLS (R212): Classify the float pattern into a one-hot mask. -/
  | fcls (c : BitVec 1) (k : BitVec 1) (t : BitVec 3) (d : BitVec 6) (a : BitVec 6)
  /-- FRND (R209): Round to an integral value under FPC.RM. -/
  | frnd (c : BitVec 1) (k : BitVec 1) (t : BitVec 3) (d : BitVec 6) (a : BitVec 6)
  /-- FCOPYSIGN (R209): Magnitude of A with the sign bit of B. -/
  | fcopysign (c : BitVec 1) (k : BitVec 1) (t : BitVec 3) (d : BitVec 6) (a : BitVec 6) (b : BitVec 6)
  /-- FCOPYSIGN_SCALAR (R209): fcopysign with a scalar sign source. -/
  | fcopysignScalar (c : BitVec 1) (k : BitVec 1) (t : BitVec 3) (d : BitVec 6) (a : BitVec 6) (s : BitVec 6)
  /-- FSCALE (R209): Multiply by 2 to the signed integer in B, rounded. -/
  | fscale (c : BitVec 1) (k : BitVec 1) (t : BitVec 3) (d : BitVec 6) (a : BitVec 6) (b : BitVec 6)
  /-- FSCALE_SCALAR (R209): fscale with a scalar exponent. -/
  | fscaleScalar (c : BitVec 1) (k : BitVec 1) (t : BitVec 3) (d : BitVec 6) (a : BitVec 6) (s : BitVec 6)
  /-- FDOT2 (R210): Pairs of bf16 or f16 products accumulated into f32. -/
  | fdot2 (c : BitVec 1) (k : BitVec 1) (t : BitVec 3) (d : BitVec 6) (a : BitVec 6) (b : BitVec 6)
  /-- FDOT2_SCALAR (R210): fdot2 with a scalar operand. -/
  | fdot2Scalar (c : BitVec 1) (k : BitVec 1) (t : BitVec 3) (d : BitVec 6) (a : BitVec 6) (s : BitVec 6)
  /-- CVT (R214): Convert each slot between integer and float types. -/
  | cvt (c : BitVec 1) (k : BitVec 1) (t : BitVec 3) (d : BitVec 6) (a : BitVec 6) (u : BitVec 1) (y : BitVec 4)
  /-- PACK (R215): Narrow two registers with saturation into one. -/
  | pack (c : BitVec 1) (k : BitVec 1) (t : BitVec 3) (d : BitVec 6) (a : BitVec 6) (b : BitVec 6)
  /-- UNPACK_LO (R215): Widen the low half of each lane. -/
  | unpackLo (c : BitVec 1) (k : BitVec 1) (t : BitVec 3) (d : BitVec 6) (a : BitVec 6)
  /-- UNPACK_HI (R215): Widen the high half of each lane. -/
  | unpackHi (c : BitVec 1) (k : BitVec 1) (t : BitVec 3) (d : BitVec 6) (a : BitVec 6)
  /-- RCP (R220): Reciprocal approximation. -/
  | rcp (c : BitVec 1) (k : BitVec 1) (t : BitVec 3) (d : BitVec 6) (a : BitVec 6)
  /-- RSQRT (R220): Reciprocal square root approximation. -/
  | rsqrt (c : BitVec 1) (k : BitVec 1) (t : BitVec 3) (d : BitVec 6) (a : BitVec 6)
  /-- SQRT (R218): Correctly rounded square root. -/
  | sqrt (c : BitVec 1) (k : BitVec 1) (t : BitVec 3) (d : BitVec 6) (a : BitVec 6)
  /-- EXP2 (R220): Base-2 exponential approximation. -/
  | exp2 (c : BitVec 1) (k : BitVec 1) (t : BitVec 3) (d : BitVec 6) (a : BitVec 6)
  /-- LOG2 (R220): Base-2 logarithm approximation. -/
  | log2 (c : BitVec 1) (k : BitVec 1) (t : BitVec 3) (d : BitVec 6) (a : BitVec 6)
  /-- SIN (R220): Sine approximation. -/
  | sin (c : BitVec 1) (k : BitVec 1) (t : BitVec 3) (d : BitVec 6) (a : BitVec 6)
  /-- COS (R220): Cosine approximation. -/
  | cos (c : BitVec 1) (k : BitVec 1) (t : BitVec 3) (d : BitVec 6) (a : BitVec 6)
  /-- TANH (R220): Hyperbolic tangent approximation. -/
  | tanh (c : BitVec 1) (k : BitVec 1) (t : BitVec 3) (d : BitVec 6) (a : BitVec 6)
  /-- QUANT (R216): Quantise f32 slots to a storage format under e8 scales. -/
  | quant (c : BitVec 1) (k : BitVec 1) (t : BitVec 3) (d : BitVec 6) (a : BitVec 6) (b : BitVec 6)
  /-- DEQUANT (R216): Expand storage codes to f32 under e8 scales. -/
  | dequant (c : BitVec 1) (k : BitVec 1) (t : BitVec 3) (d : BitVec 6) (a : BitVec 6) (b : BitVec 6)
  /-- CBK (R217): Look up c4 codes in a 16-entry bf16 codebook. -/
  | cbk (c : BitVec 1) (k : BitVec 1) (d : BitVec 6) (a : BitVec 6) (b : BitVec 6)
  /-- FDIV (R218): Correctly rounded float division. -/
  | fdiv (c : BitVec 1) (k : BitVec 1) (t : BitVec 3) (d : BitVec 6) (a : BitVec 6) (b : BitVec 6)
  /-- IDIV (R219): Vector integer division; lanes with zero divisor fault 0x0D8. -/
  | idiv (c : BitVec 1) (k : BitVec 1) (t : BitVec 3) (d : BitVec 6) (a : BitVec 6) (b : BitVec 6)
  /-- IREM (R219): Vector integer remainder; lanes with zero divisor fault. -/
  | irem (c : BitVec 1) (k : BitVec 1) (t : BitVec 3) (d : BitVec 6) (a : BitVec 6) (b : BitVec 6)
  /-- SHFL (R223): Select source elements by per-element index. -/
  | shfl (c : BitVec 1) (k : BitVec 1) (t : BitVec 3) (d : BitVec 6) (a : BitVec 6) (b : BitVec 6)
  /-- SLIDE_UP (R224): Move elements up one, filling from the top of B. -/
  | slideUp (c : BitVec 1) (k : BitVec 1) (t : BitVec 3) (d : BitVec 6) (a : BitVec 6) (b : BitVec 6)
  /-- SLIDE_DN (R224): Move elements down one, filling from element 0 of B. -/
  | slideDn (c : BitVec 1) (k : BitVec 1) (t : BitVec 3) (d : BitVec 6) (a : BitVec 6) (b : BitVec 6)
  /-- BCAST (R223): Broadcast the element indexed by B element 0. -/
  | bcast (c : BitVec 1) (k : BitVec 1) (t : BitVec 3) (d : BitVec 6) (a : BitVec 6) (b : BitVec 6)
  /-- RED_ADD (R225): Integer add reduction over a fixed tree. -/
  | redAdd (c : BitVec 1) (k : BitVec 1) (t : BitVec 3) (d : BitVec 6) (a : BitVec 6)
  /-- RED_MIN (R225): Integer minimum reduction. -/
  | redMin (c : BitVec 1) (k : BitVec 1) (t : BitVec 3) (d : BitVec 6) (a : BitVec 6)
  /-- RED_MAX (R225): Integer maximum reduction. -/
  | redMax (c : BitVec 1) (k : BitVec 1) (t : BitVec 3) (d : BitVec 6) (a : BitVec 6)
  /-- RED_FADD (R225): Float add reduction with one rounding per node. -/
  | redFadd (c : BitVec 1) (k : BitVec 1) (t : BitVec 3) (d : BitVec 6) (a : BitVec 6)
  /-- SCAN_ADD (R226): Inclusive prefix sum over active elements. -/
  | scanAdd (c : BitVec 1) (k : BitVec 1) (t : BitVec 3) (d : BitVec 6) (a : BitVec 6)
  /-- VOTE_ANY (R227): All ones if any active lane of A is non-zero. -/
  | voteAny (c : BitVec 1) (k : BitVec 1) (d : BitVec 6) (a : BitVec 6)
  /-- VOTE_ALL (R227): All ones if every active lane of A is non-zero. -/
  | voteAll (c : BitVec 1) (k : BitVec 1) (d : BitVec 6) (a : BitVec 6)
  /-- BALLOT (R227): Mask of active lanes with non-zero A. -/
  | ballot (c : BitVec 1) (k : BitVec 1) (d : BitVec 6) (a : BitVec 6)
  /-- SP24 (R228): Pack A into 2:4 sparse form with metadata nibbles. -/
  | sp24 (c : BitVec 1) (k : BitVec 1) (t : BitVec 1) (d : BitVec 6) (a : BitVec 6)
  /-- SORT8 (R229): Sort each group of eight elements. -/
  | sort8 (c : BitVec 1) (k : BitVec 1) (t : BitVec 3) (d : BitVec 6) (a : BitVec 6)
  /-- MATCH (R230): Count earlier active elements with the same pattern. -/
  | matchEq (c : BitVec 1) (k : BitVec 1) (t : BitVec 3) (d : BitVec 6) (a : BitVec 6)
  /-- COMPRESS (R231): Pack selected active elements to the front. -/
  | compress (c : BitVec 1) (k : BitVec 1) (t : BitVec 3) (d : BitVec 6) (a : BitVec 6) (b : BitVec 6)
  /-- EXPAND (R231): Spread leading elements to selected positions. -/
  | expand (c : BitVec 1) (k : BitVec 1) (t : BitVec 3) (d : BitVec 6) (a : BitVec 6) (b : BitVec 6)
  /-- TRANSP (R232): Transpose k×k blocks across lanes. -/
  | transp (c : BitVec 1) (k : BitVec 1) (t : BitVec 3) (d : BitVec 6) (a : BitVec 6)
  /-- MERGE2 (R229): Merge pairs of runs of length 2^rx. -/
  | merge2 (c : BitVec 1) (k : BitVec 1) (t : BitVec 3) (d : BitVec 6) (a : BitVec 6) (b : BitVec 6)
  /-- ADDI (R200): Add a sign-extended immediate. -/
  | addi (c : BitVec 1) (k : BitVec 1) (d : BitVec 6) (a : BitVec 6) (w : BitVec 2) (i : BitVec 8)
  /-- MULI (R200): Multiply by an immediate. -/
  | muli (c : BitVec 1) (k : BitVec 1) (d : BitVec 6) (a : BitVec 6) (w : BitVec 2) (i : BitVec 8)
  /-- ANDI (R200): And with an immediate pattern. -/
  | andi (c : BitVec 1) (k : BitVec 1) (d : BitVec 6) (a : BitVec 6) (w : BitVec 2) (i : BitVec 8)
  /-- ORI (R200): Or with an immediate pattern. -/
  | ori (c : BitVec 1) (k : BitVec 1) (d : BitVec 6) (a : BitVec 6) (w : BitVec 2) (i : BitVec 8)
  /-- XORI (R200): Exclusive or with an immediate pattern. -/
  | xori (c : BitVec 1) (k : BitVec 1) (d : BitVec 6) (a : BitVec 6) (w : BitVec 2) (i : BitVec 8)
  /-- SHLI (R200): Shift left by an immediate. -/
  | shli (c : BitVec 1) (k : BitVec 1) (d : BitVec 6) (a : BitVec 6) (w : BitVec 2) (i : BitVec 8)
  /-- SHRI (R200): Logical shift right by an immediate. -/
  | shri (c : BitVec 1) (k : BitVec 1) (d : BitVec 6) (a : BitVec 6) (w : BitVec 2) (i : BitVec 8)
  /-- SRAI (R200): Arithmetic shift right by an immediate. -/
  | srai (c : BitVec 1) (k : BitVec 1) (d : BitVec 6) (a : BitVec 6) (w : BitVec 2) (i : BitVec 8)
  /-- SHRRI (R200): Signed rounding shift right by an immediate. -/
  | shrri (c : BitVec 1) (k : BitVec 1) (d : BitVec 6) (a : BitVec 6) (w : BitVec 2) (i : BitVec 8)
  /-- CEQI (R200): Compare equal with an immediate. -/
  | ceqi (c : BitVec 1) (k : BitVec 1) (d : BitVec 6) (a : BitVec 6) (w : BitVec 2) (i : BitVec 8)
  /-- CLTI (R200): Signed compare less than an immediate. -/
  | clti (c : BitVec 1) (k : BitVec 1) (d : BitVec 6) (a : BitVec 6) (w : BitVec 2) (i : BitVec 8)
  /-- SLIDEI (R201): Slide elements by an immediate count with zero fill. -/
  | slidei (c : BitVec 1) (k : BitVec 1) (d : BitVec 6) (a : BitVec 6) (w : BitVec 2) (i : BitVec 8)
  /-- MINI (R200): Signed minimum with an immediate. -/
  | mini (c : BitVec 1) (k : BitVec 1) (d : BitVec 6) (a : BitVec 6) (w : BitVec 2) (i : BitVec 8)
  /-- MAXI (R200): Signed maximum with an immediate. -/
  | maxi (c : BitVec 1) (k : BitVec 1) (d : BitVec 6) (a : BitVec 6) (w : BitVec 2) (i : BitVec 8)
  /-- SADD (R203): Scalar 64-bit add, register or immediate. -/
  | sadd (c : BitVec 1) (d : BitVec 6) (a : BitVec 6) (i : BitVec 1) (b : BitVec 8)
  /-- SSUB (R203): Scalar subtract. -/
  | ssub (c : BitVec 1) (d : BitVec 6) (a : BitVec 6) (i : BitVec 1) (b : BitVec 8)
  /-- SMUL (R203): Scalar multiply. -/
  | smul (c : BitVec 1) (d : BitVec 6) (a : BitVec 6) (i : BitVec 1) (b : BitVec 8)
  /-- SMULH (R203): Scalar signed high product. -/
  | smulh (c : BitVec 1) (d : BitVec 6) (a : BitVec 6) (i : BitVec 1) (b : BitVec 8)
  /-- SAND (R203): Scalar and. -/
  | sand (c : BitVec 1) (d : BitVec 6) (a : BitVec 6) (i : BitVec 1) (b : BitVec 8)
  /-- SOR (R203): Scalar or. -/
  | sor (c : BitVec 1) (d : BitVec 6) (a : BitVec 6) (i : BitVec 1) (b : BitVec 8)
  /-- SXOR (R203): Scalar exclusive or. -/
  | sxor (c : BitVec 1) (d : BitVec 6) (a : BitVec 6) (i : BitVec 1) (b : BitVec 8)
  /-- SSHL (R203): Scalar shift left. -/
  | sshl (c : BitVec 1) (d : BitVec 6) (a : BitVec 6) (i : BitVec 1) (b : BitVec 8)
  /-- SSHR (R203): Scalar logical shift right. -/
  | sshr (c : BitVec 1) (d : BitVec 6) (a : BitVec 6) (i : BitVec 1) (b : BitVec 8)
  /-- SSRA (R203): Scalar arithmetic shift right. -/
  | ssra (c : BitVec 1) (d : BitVec 6) (a : BitVec 6) (i : BitVec 1) (b : BitVec 8)
  /-- SMIN (R203): Scalar signed minimum. -/
  | smin (c : BitVec 1) (d : BitVec 6) (a : BitVec 6) (i : BitVec 1) (b : BitVec 8)
  /-- SMAX (R203): Scalar signed maximum. -/
  | smax (c : BitVec 1) (d : BitVec 6) (a : BitVec 6) (i : BitVec 1) (b : BitVec 8)
  /-- SCEQ (R203): Scalar compare equal giving 1 or 0. -/
  | sceq (c : BitVec 1) (d : BitVec 6) (a : BitVec 6) (i : BitVec 1) (b : BitVec 8)
  /-- SCLT (R203): Scalar signed less than giving 1 or 0. -/
  | sclt (c : BitVec 1) (d : BitVec 6) (a : BitVec 6) (i : BitVec 1) (b : BitVec 8)
  /-- SCLTN (R203): Scalar unsigned less than giving 1 or 0. -/
  | scltn (c : BitVec 1) (d : BitVec 6) (a : BitVec 6) (i : BitVec 1) (b : BitVec 8)
  /-- SSEL (R203): Scalar select by the old SD. -/
  | ssel (c : BitVec 1) (d : BitVec 6) (a : BitVec 6) (i : BitVec 1) (b : BitVec 8)
  /-- SBFX (R203): Scalar bit field extract. -/
  | sbfx (c : BitVec 1) (d : BitVec 6) (a : BitVec 6) (i : BitVec 1) (b : BitVec 8)
  /-- SBFI (R203): Scalar bit field insert into old SD. -/
  | sbfi (c : BitVec 1) (d : BitVec 6) (a : BitVec 6) (i : BitVec 1) (b : BitVec 8)
  /-- SPOPC (R203): Scalar population count. -/
  | spopc (c : BitVec 1) (d : BitVec 6) (a : BitVec 6)
  /-- SCLZ (R203): Scalar count leading zeros. -/
  | sclz (c : BitVec 1) (d : BitVec 6) (a : BitVec 6)
  /-- VTOS (R204): Copy one vector lane and its tag into an s-register. -/
  | vtos (c : BitVec 1) (d : BitVec 6) (a : BitVec 6) (i : BitVec 1) (b : BitVec 8)
  /-- STOV (R204): Copy an s-register and its tag into one lane of the entry. -/
  | stov (c : BitVec 1) (d : BitVec 6) (a : BitVec 6) (i : BitVec 1) (b : BitVec 8)
  /-- SDIV (R205): Scalar signed divide; zero divisor faults every lane of the entry. -/
  | sdiv (c : BitVec 1) (d : BitVec 6) (a : BitVec 6) (i : BitVec 1) (b : BitVec 8)
  /-- SREM (R205): Scalar signed remainder; zero divisor faults. -/
  | srem (c : BitVec 1) (d : BitVec 6) (a : BitVec 6) (i : BitVec 1) (b : BitVec 8)
  /-- LI_S (R206): Load a shifted 16-bit immediate into an s-register. -/
  | liS (c : BitVec 1) (d : BitVec 6) (h : BitVec 2) (i : BitVec 16)
  /-- LIK_S (R206): Replace 16 bits of an s-register with an immediate. -/
  | likS (c : BitVec 1) (d : BitVec 6) (h : BitVec 2) (i : BitVec 16)
  /-- LI_V (R206): Load a shifted 16-bit immediate into active vector lanes. -/
  | liV (c : BitVec 1) (k : BitVec 1) (d : BitVec 6) (h : BitVec 2) (i : BitVec 16)
  /-- LIK_V (R206): Replace 16 bits of each active vector lane. -/
  | likV (c : BitVec 1) (k : BitVec 1) (d : BitVec 6) (h : BitVec 2) (i : BitVec 16)
  /-- LD (R237): Vector load from global memory per lane. -/
  | ld (c : BitVec 1) (d : BitVec 6) (s : BitVec 6) (m : BitVec 3) (w : BitVec 2) (o : BitVec 5)
  /-- ST (R237): Vector store to global memory, tagged for tagged 64-bit lanes. -/
  | st (c : BitVec 1) (d : BitVec 6) (s : BitVec 6) (m : BitVec 3) (w : BitVec 2) (o : BitVec 5)
  /-- LDTM (R239): Vector load from team memory. -/
  | ldtm (c : BitVec 1) (d : BitVec 6) (s : BitVec 6) (m : BitVec 3) (w : BitVec 2) (o : BitVec 5)
  /-- STTM (R239): Vector store to team memory. -/
  | sttm (c : BitVec 1) (d : BitVec 6) (s : BitVec 6) (m : BitVec 3) (w : BitVec 2) (o : BitVec 5)
  /-- LDACC (R240): Load a 64-column accumulator row segment. -/
  | ldacc (c : BitVec 1) (d : BitVec 6) (s : BitVec 6)
  /-- STACC (R240): Store a 64-column accumulator row segment. -/
  | stacc (c : BitVec 1) (d : BitVec 6) (s : BitVec 6)
  /-- LDNT (R237): Non-temporal vector load read at the home. -/
  | ldnt (c : BitVec 1) (d : BitVec 6) (s : BitVec 6) (m : BitVec 3) (w : BitVec 2) (o : BitVec 5)
  /-- STNT (R237): Non-temporal vector store. -/
  | stnt (c : BitVec 1) (d : BitVec 6) (s : BitVec 6) (m : BitVec 3) (w : BitVec 2) (o : BitVec 5)
  /-- LDS (R238): Load one element into an s-register, once for the bundle. -/
  | lds (c : BitVec 1) (d : BitVec 6) (s : BitVec 6) (m : BitVec 3) (w : BitVec 2) (o : BitVec 5)
  /-- STS (R238): Store one element from an s-register. -/
  | sts (c : BitVec 1) (d : BitVec 6) (s : BitVec 6) (m : BitVec 3) (w : BitVec 2) (o : BitVec 5)
  /-- PREF (R241): Prefetch footprint lines into L1, never faults. -/
  | pref (c : BitVec 1) (s : BitVec 6) (m : BitVec 3) (o : BitVec 5)
  /-- LDG (R243): Gather from global memory by index vector. -/
  | ldg (c : BitVec 1) (d : BitVec 6) (a : BitVec 6) (s : BitVec 6) (w : BitVec 2) (x : BitVec 2)
  /-- STG (R243): Scatter to global memory by index vector. -/
  | stg (c : BitVec 1) (d : BitVec 6) (a : BitVec 6) (s : BitVec 6) (w : BitVec 2) (x : BitVec 2)
  /-- LDGTM (R243): Gather from team memory. -/
  | ldgtm (c : BitVec 1) (d : BitVec 6) (a : BitVec 6) (s : BitVec 6) (w : BitVec 2) (x : BitVec 2)
  /-- STGTM (R243): Scatter to team memory. -/
  | stgtm (c : BitVec 1) (d : BitVec 6) (a : BitVec 6) (s : BitVec 6) (w : BitVec 2) (x : BitVec 2)
  /-- BRA (R246): Branch lanes whose predicate bit is 1. -/
  | bra (p : BitVec 4) (o : BitVec 18)
  /-- BRN (R246): Branch lanes whose predicate bit is 0. -/
  | brn (p : BitVec 4) (o : BitVec 18)
  /-- JMP (R246): Move all lanes of the entry to the target. -/
  | jmp (o : BitVec 18)
  /-- CALL (R247): Write the return address to v54 and jump. -/
  | call (o : BitVec 18)
  /-- JMPI (R247): Jump to the uniform address in an s-register. -/
  | jmpi (a : BitVec 6)
  /-- RET (R247): Move each lane to the address in its v54 lane. -/
  | ret
  /-- JOIN (R248): Push a landing awaiting the entry's lanes. -/
  | join (j : BitVec 12) (o : BitVec 10)
  /-- LOOP (R249): Start a hardware loop counted from an s-register. -/
  | loop (l : BitVec 2) (s : BitVec 6) (n : BitVec 8)
  /-- EXIT (R250): End every lane of the entry. -/
  | exit
  /-- BRA_ANY (R246): Branch the whole entry if any active predicate bit is 1. -/
  | braAny (p : BitVec 4) (o : BitVec 18)
  /-- BRA_ALL (R246): Branch the whole entry if every active predicate bit is 1. -/
  | braAll (p : BitVec 4) (o : BitVec 18)
  /-- TRAPC (R251): Raise user trap on lanes whose predicate bit is 1. -/
  | trapc (p : BitVec 4) (c : BitVec 12)
  /-- AMOADD (R254): Atomic add at the home returning the old value. -/
  | amoadd (c : BitVec 1) (s : BitVec 3) (o : BitVec 2) (d : BitVec 6) (a : BitVec 6) (l : BitVec 1) (w : BitVec 2)
  /-- AMOMIN (R254): Atomic minimum, signed or unsigned. -/
  | amomin (c : BitVec 1) (s : BitVec 3) (o : BitVec 2) (d : BitVec 6) (a : BitVec 6) (u : BitVec 1) (l : BitVec 1) (w : BitVec 2)
  /-- AMOMAX (R254): Atomic maximum, signed or unsigned. -/
  | amomax (c : BitVec 1) (s : BitVec 3) (o : BitVec 2) (d : BitVec 6) (a : BitVec 6) (u : BitVec 1) (l : BitVec 1) (w : BitVec 2)
  /-- AMOAND (R254): Atomic and. -/
  | amoand (c : BitVec 1) (s : BitVec 3) (o : BitVec 2) (d : BitVec 6) (a : BitVec 6) (l : BitVec 1) (w : BitVec 2)
  /-- AMOOR (R254): Atomic or. -/
  | amoor (c : BitVec 1) (s : BitVec 3) (o : BitVec 2) (d : BitVec 6) (a : BitVec 6) (l : BitVec 1) (w : BitVec 2)
  /-- AMOXOR (R254): Atomic exclusive or. -/
  | amoxor (c : BitVec 1) (s : BitVec 3) (o : BitVec 2) (d : BitVec 6) (a : BitVec 6) (l : BitVec 1) (w : BitVec 2)
  /-- AMOSWAP (R254): Atomic swap. -/
  | amoswap (c : BitVec 1) (s : BitVec 3) (o : BitVec 2) (d : BitVec 6) (a : BitVec 6) (l : BitVec 1) (w : BitVec 2)
  /-- AMOCAS (R255): Atomic compare and swap with D and D+1. -/
  | amocas (c : BitVec 1) (s : BitVec 3) (o : BitVec 2) (d : BitVec 6) (a : BitVec 6) (l : BitVec 1) (w : BitVec 2)
  /-- AMOINC (R254): Atomic wrapping increment bounded by v. -/
  | amoinc (c : BitVec 1) (s : BitVec 3) (o : BitVec 2) (d : BitVec 6) (a : BitVec 6) (l : BitVec 1) (w : BitVec 2)
  /-- AMOFADD (R254): Atomic float add rounded RNE. -/
  | amofadd (c : BitVec 1) (s : BitVec 3) (o : BitVec 2) (d : BitVec 6) (a : BitVec 6) (l : BitVec 1) (w : BitVec 1)
  /-- LR (R256): Load and place a per-lane reservation. -/
  | lr (c : BitVec 1) (s : BitVec 3) (o : BitVec 2) (d : BitVec 6) (a : BitVec 6) (l : BitVec 1) (w : BitVec 2)
  /-- SC (R256): Store conditionally on an intact reservation. -/
  | sc (c : BitVec 1) (s : BitVec 3) (o : BitVec 2) (d : BitVec 6) (a : BitVec 6) (l : BitVec 1) (w : BitVec 2)
  /-- FENCE (R258): Order the lane's accesses at a scope. -/
  | fence (c : BitVec 1) (s : BitVec 3) (o : BitVec 2)
  /-- PUB (R138): Publish objects reachable from a root and store the reference. -/
  | pub (c : BitVec 1) (s : BitVec 3) (d : BitVec 6) (a : BitVec 6)
  /-- LDREF (R136): Load a word setting the lane tag from its RT bit. -/
  | ldref (c : BitVec 1) (s : BitVec 3) (o : BitVec 2) (d : BitVec 6) (a : BitVec 6)
  /-- STREF (R137): Store a reference with RT=1 after checking its referent. -/
  | stref (c : BitVec 1) (s : BitVec 3) (o : BitVec 2) (d : BitVec 6) (a : BitVec 6)
  /-- XPUB (R144): Publish a code range through states D, T, X. -/
  | xpub (c : BitVec 1) (s : BitVec 3) (d : BitVec 6) (a : BitVec 6)
  /-- ARRIVE (R260): Add an amount to an arrival object, advancing its generation on match. -/
  | arrive (c : BitVec 1) (s : BitVec 3) (o : BitVec 2) (d : BitVec 6) (a : BitVec 6)
  /-- AWAIT (R261): Wait until an arrival object reaches a generation or faults. -/
  | await (c : BitVec 1) (s : BitVec 3) (o : BitVec 2) (d : BitVec 6) (a : BitVec 6)
  /-- BAR (R262): Team barrier among live groups. -/
  | bar (c : BitVec 1) (s : BitVec 3) (o : BitVec 2)
  /-- TAGQ (R263): Write each active lane's tag bit as 0 or 1. -/
  | tagq (c : BitVec 1) (d : BitVec 6) (a : BitVec 6)
  /-- UNTAG (R263): Clear the tag bits of active lanes. -/
  | untag (c : BitVec 1) (d : BitVec 6)
  /-- XCPY (R273): Hand a copy request from team memory to the copy engine. -/
  | xcpy (c : BitVec 1) (a : BitVec 6)
  /-- XNBMV (R273): Hand a near-bank request to the near-bank port. -/
  | xnbmv (c : BitVec 1) (a : BitVec 6)
  /-- XWAIT (R274): Wait until at most n of the group's engine requests are unfinished. -/
  | xwait (c : BitVec 1) (n : BitVec 9)
  /-- NBAR_ARRIVE (R293): Release at .tm and arrive once on a numbered barrier. -/
  | nbarArrive (c : BitVec 1) (n : BitVec 5) (k : BitVec 4)
  /-- NBAR_WAIT (R294): Wait for a numbered barrier generation. -/
  | nbarWait (c : BitVec 1) (a : BitVec 6) (k : BitVec 4)
  /-- TSTART (R277): Restart the tile sequencer at a new stream offset. -/
  | tstart (c : BitVec 1) (a : BitVec 6)
  /-- LAUNCH (R275): Ask the dispatcher to accept a child grid. -/
  | launch (c : BitVec 1) (a : BitVec 6)
  /-- LWAIT (R276): Wait until at most n child grids are unretired. -/
  | lwait (c : BitVec 1) (n : BitVec 9)
  /-- PRIO (R50): Set the block priority of the entry's lanes. -/
  | prio (c : BitVec 1) (p : BitVec 12)
  /-- RSYS (R266): Read a system register into an s-register. -/
  | rsys (d : BitVec 6) (i : BitVec 12)
  /-- WSYS (R266): Write a system register from an s-register. -/
  | wsys (a : BitVec 6) (i : BitVec 12)
  /-- TRAP (R267): Raise user trap on every lane of the entry. -/
  | trap (c : BitVec 12)
  /-- ERET (R267): Raises privileged instruction in a group stream. -/
  | eret
  /-- PHASE (R265): Team leader sets PHASE, reported to power control. -/
  | phase (p : BitVec 12)
  /-- TOKQ (R268): Read a token counter of the quadrant or sequencer. -/
  | tokq (d : BitVec 6) (s : BitVec 3)
  /-- CLOCK (R268): Wait for earlier words, then read CLOCK or TIME. -/
  | clock (d : BitVec 6) (s : BitVec 1)
  /-- YIELD (R269): Make the entry ineligible for 16 cycles. -/
  | yield
  /-- SLEEP (R269): Make the entry ineligible for 64×imm16 cycles. -/
  | sleep (n : BitVec 16)
  /-- BRK (R267): Raise breakpoint on every lane of the entry. -/
  | brk (c : BitVec 12)
  /-- UDF (R178): Always raises unassigned FN 0x00F. -/
  | udf (c : BitVec 1) (k : BitVec 1) (x : BitVec 21)
  /-- TSLOT (R298): Bind a tile slot from a descriptor in team memory. -/
  | tslot (n : BitVec 5) (o : BitVec 14)
  /-- TMMA (R304): Dense tile multiply of one K block into an accumulator tile. -/
  | tmma (a : BitVec 5) (b : BitVec 5) (r : BitVec 2) (c : BitVec 2) (i : BitVec 1) (k : BitVec 6)
  /-- TMMAS (R305): 2:4 sparse tile multiply using a popped metadata entry. -/
  | tmmas (a : BitVec 5) (b : BitVec 5) (r : BitVec 2) (c : BitVec 2) (i : BitVec 1) (q : BitVec 2) (k : BitVec 4)
  /-- TZERO (R306): Set an accumulator tile to +0. -/
  | tzero (r : BitVec 2) (c : BitVec 2)
  /-- TSCALE (R306): Multiply an accumulator tile by the slot's tensor scale. -/
  | tscale (n : BitVec 5) (r : BitVec 2) (c : BitVec 2)
  /-- TCVT (R306): Convert an accumulator tile into a slot's type. -/
  | tcvt (n : BitVec 5) (r : BitVec 2) (c : BitVec 2)
  /-- TACC (R306): Add a slot tile into an accumulator tile. -/
  | tacc (n : BitVec 5) (r : BitVec 2) (c : BitVec 2)
  /-- TWAIT (R308): Stop sequencer fetch until a barrier generation. -/
  | twait (k : BitVec 4) (g : BitVec 16)
  /-- TARRIVE_BARRIER (R308): Task that arrives on a numbered barrier after all earlier tasks retire. -/
  | tarriveBarrier (k : BitVec 4) (n : BitVec 5)
  /-- TARRIVE_OBJECT (R308): Task that updates a slot's arrival object and flushes flags. -/
  | tarriveObject (n : BitVec 5)
  /-- TLOOP (R309): Repeat the next len tile words count times. -/
  | tloop (c : BitVec 9) (l : BitVec 8)
  /-- TEND (R309): Stop sequencer fetch. -/
  | tend
  /-- TCBK (R307): Copy 32 bytes of team memory into a codebook. -/
  | tcbk (n : BitVec 3) (o : BitVec 14)
  /-- RFETCH (R398): Take one entry from a hardware event ring into the Atrium. -/
  | rfetch (b : BitVec 5) (a : BitVec 5) (d : BitVec 5)
  /-- XHALL_BFX (R397): Firmware bit field extract. -/
  | xhallBfx (b : BitVec 5) (a : BitVec 5) (d : BitVec 5)
  /-- SWAIT (R399): Wait until an Atrium word differs from a value. -/
  | swait (b : BitVec 5) (a : BitVec 5) (d : BitVec 5)
  /-- DISP (R400): Hand a 64-byte command to the dispatcher and wait. -/
  | disp (a : BitVec 5) (d : BitVec 5)
  /-- MUOVO_NOP (R356): Muovo no operation. -/
  | muovoNop
  /-- MUOVO_LI (R356): Load sign-extended immediate. -/
  | muovoLi (d : BitVec 4) (i : BitVec 18)
  /-- MUOVO_MOV (R356): Copy a register. -/
  | muovoMov (d : BitVec 4) (a : BitVec 4)
  /-- MUOVO_ADD (R356): Add modulo 2^64. -/
  | muovoAdd (d : BitVec 4) (a : BitVec 4) (b : BitVec 4)
  /-- MUOVO_SUB (R356): Subtract. -/
  | muovoSub (d : BitVec 4) (a : BitVec 4) (b : BitVec 4)
  /-- MUOVO_MUL (R356): Multiply. -/
  | muovoMul (d : BitVec 4) (a : BitVec 4) (b : BitVec 4)
  /-- MUOVO_AND (R356): Bitwise and. -/
  | muovoAnd (d : BitVec 4) (a : BitVec 4) (b : BitVec 4)
  /-- MUOVO_OR (R356): Bitwise or. -/
  | muovoOr (d : BitVec 4) (a : BitVec 4) (b : BitVec 4)
  /-- MUOVO_XOR (R356): Bitwise exclusive or. -/
  | muovoXor (d : BitVec 4) (a : BitVec 4) (b : BitVec 4)
  /-- MUOVO_SHL (R356): Shift left. -/
  | muovoShl (d : BitVec 4) (a : BitVec 4) (b : BitVec 4)
  /-- MUOVO_SHR (R356): Logical shift right. -/
  | muovoShr (d : BitVec 4) (a : BitVec 4) (b : BitVec 4)
  /-- MUOVO_MIN (R356): Unsigned minimum. -/
  | muovoMin (d : BitVec 4) (a : BitVec 4) (b : BitVec 4)
  /-- MUOVO_MAX (R356): Unsigned maximum. -/
  | muovoMax (d : BitVec 4) (a : BitVec 4) (b : BitVec 4)
  /-- MUOVO_SLT (R356): Set if unsigned less than. -/
  | muovoSlt (d : BitVec 4) (a : BitVec 4) (b : BitVec 4)
  /-- MUOVO_SLE (R356): Set if unsigned less or equal. -/
  | muovoSle (d : BitVec 4) (a : BitVec 4) (b : BitVec 4)
  /-- MUOVO_SEQ (R356): Set if equal. -/
  | muovoSeq (d : BitVec 4) (a : BitVec 4) (b : BitVec 4)
  /-- MUOVO_SEL (R356): Select by the old wd. -/
  | muovoSel (d : BitVec 4) (a : BitVec 4) (b : BitVec 4)
  /-- MUOVO_ADDI (R356): Add a sign-extended immediate. -/
  | muovoAddi (d : BitVec 4) (a : BitVec 4) (i : BitVec 18)
  /-- MUOVO_LDC (R349): Read an architected counter. -/
  | muovoLdc (d : BitVec 4) (i : BitVec 18)
  /-- MUOVO_LDA (R356): Load a word from scratch or the Atrium window. -/
  | muovoLda (d : BitVec 4) (a : BitVec 4) (s : BitVec 1) (o : BitVec 17)
  /-- MUOVO_STA (R356): Store a word to scratch or the Atrium window. -/
  | muovoSta (d : BitVec 4) (a : BitVec 4) (s : BitVec 1) (o : BitVec 17)
  /-- MUOVO_LDP (R348): Read a decision or candidate parameter. -/
  | muovoLdp (d : BitVec 4) (a : BitVec 4) (f : BitVec 8)
  /-- MUOVO_STDEC (R350): Write a decision register. -/
  | muovoStdec (a : BitVec 4) (r : BitVec 18)
  /-- MUOVO_BF (R356): Forward branch if zero. -/
  | muovoBf (a : BitVec 4) (k : BitVec 18)
  /-- MUOVO_BT (R356): Forward branch if non-zero. -/
  | muovoBt (a : BitVec 4) (k : BitVec 18)
  /-- MUOVO_JF (R356): Unconditional forward jump. -/
  | muovoJf (k : BitVec 18)
  /-- MUOVO_LOOP (R357): Counted loop over the next len words. -/
  | muovoLoop (l : BitVec 8) (n : BitVec 8)
  /-- MUOVO_RET (R356): End the decision. -/
  | muovoRet
  /-- ABORT_TEAM (R400): Dispatcher ends every live lane of a team with 0x146. -/
  | abortTeam (grid : BitVec 32) (team : Nat)
  /-- ABORT_GRID (R400): Dispatcher cancels a grid with 0x146. -/
  | abortGrid (grid : BitVec 32)
  /-- SWAIT_END (R399): The awaited Atrium word changes or an interrupt becomes pending. -/
  | swaitEnd (f : Nat) (irq : Option Nat)
  /-- FAIRNESS_PROMOTION (R68): An entry eligible 2,048 cycles without issue is promoted. -/
  | fairnessPromotion (gk : Nat) (idx : Nat)
  /-- SAVING_ENTRY (R85): Starvation count reaches 256 and the quadrant enters saving. -/
  | savingEntry (core : Nat) (quad : Nat)
  /-- SEQUENCER_SAVING_ENTRY (R84): Tile sequencer starvation count reaches 256 and it enters saving. -/
  | sequencerSavingEntry (core : Nat)
  /-- RESERVATION_LAPSE (R71): A reservation is lost 4,096 cycles after its lr. -/
  | reservationLapse (gk : Nat) (lane : Nat)
  /-- SLEEP_EXPIRY (R269): The ineligible time of yield or sleep ends. -/
  | sleepExpiry (gk : Nat) (idx : Nat)
  /-- ARCADE_RING_CYCLE (R76): Governor expires OLD, injects FRESH; flits move one hop. -/
  | arcadeRingCycle (die : Nat)
  /-- GBUDGET_WRITE (R75): Die budget write is clamped and INJ recomputed. -/
  | gbudgetWrite (die : Nat) (x : BitVec 64)
  /-- BYTE_BUDGET_INTERVAL (R90): Each 1 µs interval renews cluster byte budgets and serves waiting lines. -/
  | byteBudgetInterval
  /-- MEMORY_ACCESS_PERFORMED (R108): An access reaches its home slice and is performed there. -/
  | memoryAccessPerformed (gk : Nat) (idx : Nat)
  /-- LOAD_DATA_RETURN (R237): A load's last element returns and its destination becomes ready. -/
  | loadDataReturn (gk : Nat) (n : Nat)
  /-- INSTRUCTION_FETCH (R145): A fetch that misses reads the home line and fills or faults by code state. -/
  | instructionFetch (gk : Nat) (idx : Nat)
  /-- WALK (R138): A walk takes its turn, traces, seals and stores the reference. -/
  | walk (gk : Nat) (idx : Nat)
  /-- AWAIT_END (R261): Every lane's arrival object meets the generation or shows a fault. -/
  | awaitEnd (gk : Nat) (idx : Nat)
  /-- BAR_COMPLETE (R262): Every live group has arrived; waiting entries become eligible. -/
  | barComplete (tk : Nat)
  /-- XWAIT_END (R274): Enough of the group's engine requests have finished. -/
  | xwaitEnd (gk : Nat) (idx : Nat)
  /-- NBAR_WAIT_END (R294): The numbered barrier reaches the wanted generation or breaks. -/
  | nbarWaitEnd (gk : Nat) (idx : Nat)
  /-- LWAIT_END (R276): Enough child grids have retired. -/
  | lwaitEnd (gk : Nat) (idx : Nat)
  /-- LAUNCH_DECIDED (R275): The dispatcher accepts or refuses the child grid. -/
  | launchDecided (gk : Nat) (idx : Nat)
  /-- CLOCK_COMPLETE (R268): Earlier words complete and clock writes CLOCK or TIME. -/
  | clockComplete (gk : Nat) (idx : Nat)
  /-- COPY_UNIT_DELIVER (R283): The copy engine claims, converts and writes one unit of a request. -/
  | copyUnitDeliver (n : Nat)
  /-- METADATA_ENTRY_PUSH (R283): A kind 3 request pushes 512 B into a metadata queue when room exists. -/
  | metadataEntryPush (n : Nat)
  /-- CODEBOOK_WRITE (R283): A kind 4 request writes a codebook once no task reads it. -/
  | codebookWrite (n : Nat)
  /-- PEER_LINE_ACK (R283): The peer device acknowledges a kind 6 line as delivered. -/
  | peerLineAck (n : Nat) (ok : Bool)
  /-- NEAR_BANK_TRANSLATE (R286): A near-bank request translates all of B before delivering. -/
  | nearBankTranslate (n : Nat)
  /-- NEAR_BANK_ROW_DELIVER (R286): A near-bank unit delivers result units in row order. -/
  | nearBankRowDeliver (n : Nat)
  /-- ARRIVAL_OBJECT_UPDATE (R288): A request ends and updates its arrival object once. -/
  | arrivalObjectUpdate (n : Nat)
  /-- TILE_TASK_ISSUE (R301): The sequencer issues a ready, affordable task. -/
  | tileTaskIssue (core : Nat) (n : Nat)
  /-- TILE_TASK_RETIRE (R302): A task's effects are all performed and it retires. -/
  | tileTaskRetire (core : Nat) (n : Nat)
  /-- TEAM_END (R310): The team's last group stops being live and tasks, walks and requests finish. -/
  | teamEnd (tk : Nat)
  /-- GRID_RETIRE (R27): All teams and child grids have ended and the grid retires. -/
  | gridRetire (grid : BitVec 32)
  /-- NOTIFY_WRITE (R326): A 64-byte write to a notify slot delivers a packet or is dropped. -/
  | notifyWrite (fn : Nat) (off : Nat) (size : Nat) (data : BitVec 512)
  /-- BADPKT (R333): A packet with invalid TYPE or fields is refused with 0x02. -/
  | badpkt (q : Nat)
  /-- LAUNCH_PACKET (R329): Host LAUNCH packet starts a depth-0 grid. -/
  | launchPacket (q : Nat)
  /-- COPY_PACKET (R330): Queue copy engine copies LEN bytes in the AQI's context. -/
  | copyPacket (q : Nat) (n : Nat)
  /-- QUEUE_COPY_COMPLETE (R330): The queue copy ends and updates AOVA. -/
  | queueCopyComplete (n : Nat)
  /-- SIGNAL_PACKET (R329): Arrive on an arrival object as a release at .sy. -/
  | signalPacket (q : Nat)
  /-- WAIT_PACKET (R329): Hold later packets until an object reaches a generation. -/
  | waitPacket (q : Nat)
  /-- WAIT_CONDITION_MET (R329): The WAIT condition holds and later packets may start. -/
  | waitConditionMet (n : Nat)
  /-- POLICY_LOAD (R360): Read, verify and install a Muovo routine. -/
  | policyLoad (q : Nat)
  /-- POLICY_LOAD_INSTALLED (R360): Every engine of the scope has switched and the packet completes. -/
  | policyLoadInstalled (n : Nat)
  /-- FAULT_REPLY (R332): Cancel or replay the parked sub-groups of a group. -/
  | faultReply (q : Nat)
  /-- PUBLISH_CODE (R331): Queue copy engine makes a code range executable. -/
  | publishCode (q : Nat) (n : Nat)
  /-- PUBLISH_CODE_COMPLETE (R331): Every line reaches X or the work stops on a fault. -/
  | publishCodeComplete (n : Nat)
  /-- COMPLETION_RECORD_WRITE (R334): A completion record is written to an event ring when room exists. -/
  | completionRecordWrite (fn : Nat) (ring : Nat)
  /-- EVENT_RING_TIME_TRIGGER (R336): CTIM µs pass since the oldest pending record and the ring interrupts. -/
  | eventRingTimeTrigger (fn : Nat) (ring : Nat)
  /-- LOAD_AQI (R325): CFGCMD OP 1 starts reassigning an AQI. -/
  | loadAqi (q : Nat)
  /-- LOAD_AQI_COMPLETE (R325): Old packets complete and the new AQI entry takes effect. -/
  | loadAqiComplete
  /-- INV_PASID (R342): CFGCMD OP 2 or FINV revokes a PASID, optionally killing its grids. -/
  | invPasid (finv : Bool) (fn : Nat) (pasid : BitVec 20) (kill : Bool)
  /-- INV_PASID_COMPLETE (R342): No work of the context remains; cached translations drop and BUSY falls. -/
  | invPasidComplete (finv : Bool) (fn : Nat)
  /-- INV_S2 (R323): CFGCMD OP 3 drops stage-2 translations of a function. -/
  | invS2 (fn : Nat)
  /-- INV_S2_COMPLETE (R323): In-flight uses end and the stage-2 entries are dropped. -/
  | invS2Complete
  /-- INV_IRTE (R323): CFGCMD OP 4 reloads one remapping entry. -/
  | invIrte (i : Nat)
  /-- LOAD_POOL (R323): CFGCMD OP 5 reloads a cloister pool, refusing overlap. -/
  | loadPool (i : Nat)
  /-- LOAD_PEER (R323): CFGCMD OP 6 reloads one peer entry. -/
  | loadPeer (i : Nat)
  /-- CFGCMD_BAD_OP (R323): A CFGCMD with another OP or bad ARG completes with RES 1. -/
  | cfgcmdBadOp (x : BitVec 64)
  /-- ERCTL_WRITE (R321): Writing ERCTL or ERBASE resets the ring's HEAD, TAIL and PEND. -/
  | erctlWrite (fn : Nat) (ring : Nat) (base : Bool) (x : BitVec 64)
  /-- FQCTL_WRITE (R321): Writing FQBASE or FQCTL resets the fault queue indices; OVF is W1C. -/
  | fqctlWrite (fn : Nat) (base : Bool) (x : BitVec 64)
  /-- FDROP_READ (R321): Reading FDROP returns and clears the drop count. -/
  | fdropRead (fn : Nat)
  /-- IRBLK_READ (R321): Reading IRBLK returns and clears the blocked-interrupt count. -/
  | irblkRead
  /-- REGISTER_WRITE (R9): Write of a register with no behaviour of its own sets its RW fields. -/
  | registerWrite (fn : Nat) (off : Nat) (x : BitVec 64)
  /-- FUNCTION_LEVEL_RESET (R343): FLR latches, completes accepted packets with RESET and resets the function. -/
  | functionLevelReset (fn : Nat)
  /-- HOST_CXL_MEM_ACCESS (R319): A host CXL.mem access is performed at the home slice. -/
  | hostCxlMemAccess (h : Nat) (write : Bool) (caching : Bool) (bytes : BitVec 64) (data : BitVec 512)
  /-- BISNP_RESPONSE (R319): The host answers a back-invalidate snoop and the device write proceeds. -/
  | bisnpResponse (line : Nat)
  /-- HOST_PORT_TRAINED (R318): UCIe link training ends with one or two modules. -/
  | hostPortTrained (modules : Nat)
  /-- SCALEUP_PORT_TRAINED (R340): A UALink port trains and the device becomes scale-up attached. -/
  | scaleupPortTrained (port : Nat)
  /-- SCALEUP_PORT_FAILED (R340): A port fails and requests using it stop with peer unavailable. -/
  | scaleupPortFailed (port : Nat)
  /-- PEER_LINE_INBOUND (R340): A line from a peer is translated and written or refused. -/
  | peerLineInbound (d : Nat) (va : BitVec 64) (size : Nat) (data : BitVec 512)
  /-- ENQ_DECISION (R346): ENQ routine sets a new grid's MASK and PRIO. -/
  | enqDecision (k : Nat)
  /-- HYP_PICK_DECISION (R346): Hypervisor engine chooses the tenant to admit on a cluster. -/
  | hypPickDecision
  /-- PICK_DECISION (R351): Cluster engine chooses a grid whose next team is admitted. -/
  | pickDecision (k : Nat)
  /-- TICK_DECISION (R346): Tenant TICK routine sets the next slice. -/
  | tickDecision (k : Nat)
  /-- HYP_TICK_DECISION (R364): Hypervisor TICK sets a tenant's cluster mask and slice. -/
  | hypTickDecision
  /-- BLOCK_DECISION (R351): BLOCK routine decides whether a waiting team is saved dormant. -/
  | blockDecision (k : Nat)
  /-- WAKE_DECISION (R352): WAKE routine decides whether a dormant team becomes pending. -/
  | wakeDecision (k : Nat)
  /-- MIGRATE_DECISION (R114): MIGRATE routine names a target die for a frame. -/
  | migrateDecision (k : Nat)
  /-- TENANT_TICK_EXPIRY (R346): A tenant's tick interval on a cluster ends and TICK is raised. -/
  | tenantTickExpiry (k : Nat) (tenant : Nat)
  /-- HYP_TICK_EXPIRY (R351): The hypervisor tick round ends and TICK is raised for each tenant. -/
  | hypTickExpiry
  /-- BLOCK_WAIT_TIMEOUT (R346): All groups of a team have waited 20 µs and BLOCK is raised. -/
  | blockWaitTimeout (tk : Nat)
  /-- CONTEXT_SAVE_COMPLETE (R392): A drained team's context is written to its slot. -/
  | contextSaveComplete (tk : Nat)
  /-- FRAME_MOVE_COMPLETE (R115): The copy ends and the new home performs the queued accesses. -/
  | frameMoveComplete (frame : Nat)
  /-- DISCMD (R388): Writing DISCMD starts the discard of a frame. -/
  | discmd (x : BitVec 64)
  /-- DISCARD_COMPLETE (R388): The frame is discarded, queued accesses performed and BUSY falls. -/
  | discardComplete
  /-- HOMEQ (R387): Writing HOMEQ samples a frame's home into HOMERD. -/
  | homeq (x : BitVec 64)
  /-- WATCHDOG_EXPIRY (R376): A silent team reaches LIMIT ms and its lanes end with 0x144. -/
  | watchdogExpiry (tk : Nat)
  /-- SOFT_ERROR_CORRECTABLE (R375): A correctable error is corrected and counted on its rail. -/
  | softErrorCorrectable (s : Nat) (core : Nat) (line : Nat)
  /-- SOFT_ERROR_UNCORRECTABLE (R421): An uncorrectable error poisons or ends lanes, is charged and reported. -/
  | softErrorUncorrectable (poison : Bool) (s : Nat) (unit : Nat) (pa : Nat) (tks : List Nat) (finder : Nat)
  /-- DEVICE_RESET (R402): Reset starts the root-of-trust boot at stage 1. -/
  | deviceReset
  /-- BOOT_STAGE_COMPLETE (R402): A boot stage finishes and the next begins. -/
  | bootStageComplete
  /-- DOE_DISCOVERY (R406): DOE Discovery request on the PF0 mailbox. -/
  | doeDiscovery (index : Nat)
  /-- GET_VERSION (R406): SPDM GET_VERSION request. -/
  | getVersion (version : Nat)
  /-- GET_CAPABILITIES (R406): SPDM GET_CAPABILITIES request. -/
  | getCapabilities (version : Nat)
  /-- NEGOTIATE_ALGORITHMS (R406): SPDM NEGOTIATE_ALGORITHMS request. -/
  | negotiateAlgorithms (version : Nat) (asym : Bool) (hash : Bool) (meas : Bool)
  /-- GET_DIGESTS (R406): SPDM GET_DIGESTS request. -/
  | getDigests (version : Nat)
  /-- GET_CERTIFICATE (R406): SPDM GET_CERTIFICATE request. -/
  | getCertificate (version : Nat) (slot : Nat) (off : Nat) (len : Nat)
  /-- CHALLENGE (R406): SPDM CHALLENGE request signed by the identity key. -/
  | challenge (version : Nat) (slot : Nat) (nonce : BitVec 256)
  /-- GET_MEASUREMENTS (R406): SPDM GET_MEASUREMENTS returning MREG blocks. -/
  | getMeasurements (version : Nat) (index : Nat) (signed : Bool) (slot : Nat) (nonce : BitVec 256)
  /-- SPDM_UNSUPPORTED_REQUEST (R406): Any other SPDM request receives ERROR. -/
  | spdmUnsupportedRequest (version : Nat) (code : Nat)
  /-- DOE_ABORT (R406): A DOE abort discards the exchange in progress. -/
  | doeAbort
  /-- CLCTL_POOL_WRITE (R412): A POOL write takes effect at once or waits with PEND. -/
  | clctlPoolWrite (c : Nat) (x : BitVec 64)
  /-- POOL_TAKES_EFFECT (R412): The cluster empties and the pending pool takes effect. -/
  | poolTakesEffect (c : Nat)
  /-- STALL_SAMPLE (R414): Every 10 µs a running cluster samples its stall ratio. -/
  | stallSample
  /-- OPTCTL_CLR (R415): Writing CLR empties the operating-point table. -/
  | optctlClr (x : BitVec 64)
  /-- FREQUENCY_SWITCH (R416): The rail reaches the vote and the cluster switches frequency. -/
  | frequencySwitch (c : Nat)
  /-- RAIL_HOLD_EXPIRY (R418): The 500 µs hold ends and the rail begins to fall. -/
  | railHoldExpiry (r : Nat)
  /-- RAIL_REACHES_TARGET (R418): A ramping rail reaches TGT. -/
  | railReachesTarget (r : Nat)
  /-- TRIMCTL_WRITE (R420): TRIMCTL write; clearing EN sets every TRIM to 0. -/
  | trimctlWrite (x : BitVec 64)
  /-- TRIM_REVIEW (R420): Every 100 ms each rail's trim deepens, eases or stays. -/
  | trimReview
  /-- TRIM_DISABLE_EXPIRY (R421): TDIS clears 24 h after an uncorrectable error. -/
  | trimDisableExpiry (r : Nat)
  /-- THERMAL_SENSOR_CHANGE (R422): A temperature crossing sets or clears die throttling. -/
  | thermalSensorChange (c : Nat) (temp : Nat)
  /-- THERMAL_EMERGENCY (R422): 110 °C for 1 ms ends the cluster's teams with 0x147. -/
  | thermalEmergency (c : Nat)
  /-- RAIL_ERROR_COUNT_READ (R417): Reading RAILCE or RAILUE returns and clears the count. -/
  | railErrorCountRead (r : Nat) (ue : Bool)
  /-- ACCOUNTING_SNAPSHOT (R425): Writing SNAP copies all tenant counters at one instant. -/
  | accountingSnapshot (x : BitVec 64)
  /-- RV64GC_INSTRUCTION (R394): A firmware core executes an ordinary RV64GC instruction, including its loads and stores to device registers, the Atrium and device memory, and its exceptions. -/
  | rv64gcInstruction (f : Nat)
  /-- MSIX_VECTOR_UNMASK (R339): The host writes the MSI-X table to unmask a vector, and a pending interrupt is delivered. -/
  | msixVectorUnmask (fn : Nat) (vec : Nat) (x : BitVec 128)
  /-- PEER_REFUSED (R290): Device PDEV answers a kind 6 line with a refusal, and the request stops with peer refused, 0x113. -/
  | peerRefused (n : Nat)
deriving DecidableEq, Repr

end Sys2Proof
end

