-- ==== Sys2Proof/WellFormed.lean ====
section
/-! DEFINITION. Which operand values an instruction word may hold: every value that a chapter calls reserved (R181-R183, R199, R200,
R202, R204, R213, R221, R233, R245, R252, R264, R303) makes the term ill-formed. The grid's declared registers are not judged here. -/

namespace Sys2Proof

/-- The system register indices that R266 lists. -/
def sysIndexListed (n : Nat) : Bool :=
  n < 5 || n == 8 || n == 9 || (0x10 ≤ n && n < 0x13) || (0x18 ≤ n && n < 0x1B) || (0x20 ≤ n && n < 0x24) ||
  (0x30 ≤ n && n < 0x3B) || (0x40 ≤ n && n < 0x50)

/-- No field of the instruction holds a reserved value. -/
def Instr.wf : Instr → Bool
  | .nop _ => true
  | .add _ _ _ _ _ _ => true
  | .addScalar _ _ _ _ _ _ => true
  | .sub _ _ _ _ _ _ => true
  | .subScalar _ _ _ _ _ _ => true
  | .adds _ _ _ _ _ _ => true
  | .addsScalar _ _ _ _ _ _ => true
  | .subs _ _ _ _ _ _ => true
  | .subsScalar _ _ _ _ _ _ => true
  | .mul _ _ _ _ _ _ => true
  | .mulScalar _ _ _ _ _ _ => true
  | .mulh _ _ _ _ _ _ => true
  | .mulhScalar _ _ _ _ _ _ => true
  | .mad _ _ _ _ _ _ => true
  | .madScalar _ _ _ _ _ _ => true
  | .dot2 _ _ t _ _ _ => t != 3 && t != 7
  | .dot2Scalar _ _ t _ _ _ => t != 3 && t != 7
  | .min _ _ _ _ _ _ => true
  | .minScalar _ _ _ _ _ _ => true
  | .max _ _ _ _ _ _ => true
  | .maxScalar _ _ _ _ _ _ => true
  | .absd _ _ _ _ _ _ => true
  | .absdScalar _ _ _ _ _ _ => true
  | .and _ _ _ _ _ _ => true
  | .andScalar _ _ _ _ _ _ => true
  | .or _ _ _ _ _ _ => true
  | .orScalar _ _ _ _ _ _ => true
  | .xor _ _ _ _ _ _ => true
  | .xorScalar _ _ _ _ _ _ => true
  | .andn _ _ _ _ _ _ => true
  | .andnScalar _ _ _ _ _ _ => true
  | .shl _ _ _ _ _ _ => true
  | .shlScalar _ _ _ _ _ _ => true
  | .shr _ _ _ _ _ _ => true
  | .shrScalar _ _ _ _ _ _ => true
  | .shrr _ _ _ _ _ _ => true
  | .shrrScalar _ _ _ _ _ _ => true
  | .rotl _ _ _ _ _ _ => true
  | .rotlScalar _ _ _ _ _ _ => true
  | .ceq _ _ _ _ _ _ => true
  | .ceqScalar _ _ _ _ _ _ => true
  | .clt _ _ _ _ _ _ => true
  | .cltScalar _ _ _ _ _ _ => true
  | .cle _ _ _ _ _ _ => true
  | .cleScalar _ _ _ _ _ _ => true
  | .bfx _ _ _ _ _ _ => true
  | .bfxScalar _ _ _ _ _ _ => true
  | .bfi _ _ _ _ _ _ => true
  | .bfiScalar _ _ _ _ _ _ => true
  | .popc _ _ _ _ _ => true
  | .clz _ _ _ _ _ => true
  | .brev _ _ _ _ _ => true
  | .sel _ _ _ _ _ _ => true
  | .selScalar _ _ _ _ _ _ => true
  | .avg _ _ _ _ _ _ => true
  | .avgScalar _ _ _ _ _ _ => true
  | .fadd _ _ t _ _ _ => t.toNat < 4
  | .faddScalar _ _ t _ _ _ => t.toNat < 4
  | .fsub _ _ t _ _ _ => t.toNat < 4
  | .fsubScalar _ _ t _ _ _ => t.toNat < 4
  | .fmul _ _ t _ _ _ => t.toNat < 4
  | .fmulScalar _ _ t _ _ _ => t.toNat < 4
  | .fma _ _ t _ _ _ => t.toNat < 4
  | .fmaScalar _ _ t _ _ _ => t.toNat < 4
  | .fms _ _ t _ _ _ => t.toNat < 4
  | .fmsScalar _ _ t _ _ _ => t.toNat < 4
  | .fnma _ _ t _ _ _ => t.toNat < 4
  | .fnmaScalar _ _ t _ _ _ => t.toNat < 4
  | .fmin _ _ t _ _ _ => t.toNat < 4
  | .fminScalar _ _ t _ _ _ => t.toNat < 4
  | .fmax _ _ t _ _ _ => t.toNat < 4
  | .fmaxScalar _ _ t _ _ _ => t.toNat < 4
  | .fminm _ _ t _ _ _ => t.toNat < 4
  | .fminmScalar _ _ t _ _ _ => t.toNat < 4
  | .fmaxm _ _ t _ _ _ => t.toNat < 4
  | .fmaxmScalar _ _ t _ _ _ => t.toNat < 4
  | .fabs _ _ t _ _ => t.toNat < 4
  | .fneg _ _ t _ _ => t.toNat < 4
  | .fceq _ _ t _ _ _ => t.toNat < 4
  | .fceqScalar _ _ t _ _ _ => t.toNat < 4
  | .fclt _ _ t _ _ _ => t.toNat < 4
  | .fcltScalar _ _ t _ _ _ => t.toNat < 4
  | .fcle _ _ t _ _ _ => t.toNat < 4
  | .fcleScalar _ _ t _ _ _ => t.toNat < 4
  | .fcun _ _ t _ _ _ => t.toNat < 4
  | .fcunScalar _ _ t _ _ _ => t.toNat < 4
  | .fcls _ _ t _ _ => t.toNat < 4
  | .frnd _ _ t _ _ => t.toNat < 4
  | .fcopysign _ _ t _ _ _ => t.toNat < 4
  | .fcopysignScalar _ _ t _ _ _ => t.toNat < 4
  | .fscale _ _ t _ _ _ => t.toNat < 4
  | .fscaleScalar _ _ t _ _ _ => t.toNat < 4
  | .fdot2 _ _ t _ _ _ => t == 2 || t == 3
  | .fdot2Scalar _ _ t _ _ _ => t == 2 || t == 3
  | .cvt _ _ t _ _ u y => y.toNat < 12 && (u == 0 || t.toNat < 4)
  | .pack _ _ t _ _ _ => t != 3 && t != 7
  | .unpackLo _ _ t _ _ => t != 3 && t != 7
  | .unpackHi _ _ t _ _ => t != 3 && t != 7
  | .rcp _ _ t _ _ => t.toNat < 4
  | .rsqrt _ _ t _ _ => t.toNat < 4
  | .sqrt _ _ t _ _ => t.toNat < 4
  | .exp2 _ _ t _ _ => t.toNat < 4
  | .log2 _ _ t _ _ => t.toNat < 4
  | .sin _ _ t _ _ => t.toNat < 4
  | .cos _ _ t _ _ => t.toNat < 4
  | .tanh _ _ t _ _ => t.toNat < 4
  | .quant _ _ t _ _ b => t.toNat < 6 && (t != 5 || b == 0)
  | .dequant _ _ t _ _ b => t.toNat < 6 && (t != 5 || b == 0)
  | .cbk _ _ _ _ _ => true
  | .fdiv _ _ t _ _ _ => t.toNat < 4
  | .idiv _ _ _ _ _ _ => true
  | .irem _ _ _ _ _ _ => true
  | .shfl _ _ _ _ _ _ => true
  | .slideUp _ _ _ _ _ _ => true
  | .slideDn _ _ _ _ _ _ => true
  | .bcast _ _ _ _ _ _ => true
  | .redAdd _ _ _ _ _ => true
  | .redMin _ _ _ _ _ => true
  | .redMax _ _ _ _ _ => true
  | .redFadd _ _ t _ _ => t.toNat < 4
  | .scanAdd _ _ _ _ _ => true
  | .voteAny _ _ _ _ => true
  | .voteAll _ _ _ _ => true
  | .ballot _ _ _ _ => true
  | .sp24 _ _ _ _ _ => true
  | .sort8 _ _ _ _ _ => true
  | .matchEq _ _ _ _ _ => true
  | .compress _ _ _ _ _ _ => true
  | .expand _ _ _ _ _ _ => true
  | .transp _ _ _ _ _ => true
  | .merge2 _ _ _ _ _ _ => true
  | .addi _ _ _ _ _ _ => true
  | .muli _ _ _ _ _ _ => true
  | .andi _ _ _ _ _ _ => true
  | .ori _ _ _ _ _ _ => true
  | .xori _ _ _ _ _ _ => true
  | .shli _ _ _ _ w i => i.toNat < 8 * 2 ^ w.toNat
  | .shri _ _ _ _ w i => i.toNat < 8 * 2 ^ w.toNat
  | .srai _ _ _ _ w i => i.toNat < 8 * 2 ^ w.toNat
  | .shrri _ _ _ _ w i => i.toNat < 8 * 2 ^ w.toNat
  | .ceqi _ _ _ _ _ _ => true
  | .clti _ _ _ _ _ _ => true
  | .slidei _ _ _ _ _ _ => true
  | .mini _ _ _ _ _ _ => true
  | .maxi _ _ _ _ _ _ => true
  | .sadd _ _ _ i b => (i == 1 || b.toNat < 64)
  | .ssub _ _ _ i b => (i == 1 || b.toNat < 64)
  | .smul _ _ _ i b => (i == 1 || b.toNat < 64)
  | .smulh _ _ _ i b => (i == 1 || b.toNat < 64)
  | .sand _ _ _ i b => (i == 1 || b.toNat < 64)
  | .sor _ _ _ i b => (i == 1 || b.toNat < 64)
  | .sxor _ _ _ i b => (i == 1 || b.toNat < 64)
  | .sshl _ _ _ _ b => b.toNat < 64
  | .sshr _ _ _ _ b => b.toNat < 64
  | .ssra _ _ _ _ b => b.toNat < 64
  | .smin _ _ _ i b => (i == 1 || b.toNat < 64)
  | .smax _ _ _ i b => (i == 1 || b.toNat < 64)
  | .sceq _ _ _ i b => (i == 1 || b.toNat < 64)
  | .sclt _ _ _ i b => (i == 1 || b.toNat < 64)
  | .scltn _ _ _ i b => (i == 1 || b.toNat < 64)
  | .ssel _ _ _ i b => (i == 1 || b.toNat < 64)
  | .sbfx _ _ _ i b => (i == 1 || b.toNat < 64)
  | .sbfi _ _ _ i b => (i == 1 || b.toNat < 64)
  | .spopc _ _ _ => true
  | .sclz _ _ _ => true
  | .vtos _ _ _ i b => (if i == 1 then b.toNat < 32 else b.toNat < 64)
  | .stov _ _ _ i b => (if i == 1 then b.toNat < 32 else b.toNat < 64)
  | .sdiv _ _ _ i b => (i == 1 || b.toNat < 64)
  | .srem _ _ _ i b => (i == 1 || b.toNat < 64)
  | .liS _ _ _ _ => true
  | .likS _ _ _ _ => true
  | .liV _ _ _ _ _ => true
  | .likV _ _ _ _ _ => true
  | .ld _ _ _ m _ o => m.toNat < 3 && (m != 2 || o != 0)
  | .st _ _ _ m _ o => m.toNat < 3 && (m != 2 || o != 0)
  | .ldtm _ _ s m _ o => m.toNat < 4 && (m != 2 || o != 0) && (m != 3 || s == 0)
  | .sttm _ _ s m _ o => m.toNat < 4 && (m != 2 || o != 0) && (m != 3 || s == 0)
  | .ldacc _ _ _ => true
  | .stacc _ _ _ => true
  | .ldnt _ _ _ m _ o => m.toNat < 3 && (m != 2 || o != 0)
  | .stnt _ _ _ m _ o => m.toNat < 3 && (m != 2 || o != 0)
  | .lds _ _ _ m _ o => (m == 0 || (m == 2 && o != 0))
  | .sts _ _ _ m _ o => (m == 0 || (m == 2 && o != 0))
  | .pref _ _ m _ => m.toNat < 2
  | .ldg _ _ _ _ _ _ => true
  | .stg _ _ _ _ _ _ => true
  | .ldgtm _ _ _ _ _ _ => true
  | .stgtm _ _ _ _ _ _ => true
  | .bra _ _ => true
  | .brn _ _ => true
  | .jmp _ => true
  | .call _ => true
  | .jmpi _ => true
  | .ret => true
  | .join _ o => o != 0
  | .loop l _ _ => l != 3
  | .exit => true
  | .braAny _ _ => true
  | .braAll _ _ => true
  | .trapc _ _ => true
  | .amoadd _ s _ _ _ _ _ => s.toNat < 5
  | .amomin _ s _ _ _ _ _ _ => s.toNat < 5
  | .amomax _ s _ _ _ _ _ _ => s.toNat < 5
  | .amoand _ s _ _ _ _ _ => s.toNat < 5
  | .amoor _ s _ _ _ _ _ => s.toNat < 5
  | .amoxor _ s _ _ _ _ _ => s.toNat < 5
  | .amoswap _ s _ _ _ _ _ => s.toNat < 5
  | .amocas _ s _ _ _ _ _ => s.toNat < 5
  | .amoinc _ s _ _ _ _ _ => s.toNat < 5
  | .amofadd _ s _ _ _ _ _ => s.toNat < 5
  | .lr _ s _ _ _ _ _ => s.toNat < 5
  | .sc _ s _ _ _ _ _ => s.toNat < 5
  | .fence _ s _ => s.toNat < 5
  | .pub _ s _ _ => s.toNat < 5
  | .ldref _ s _ _ _ => s.toNat < 5
  | .stref _ s _ _ _ => s.toNat < 5
  | .xpub _ s _ _ => s.toNat < 5
  | .arrive _ s _ _ _ => s.toNat < 5
  | .await _ s _ _ _ => s.toNat < 5
  | .bar _ s _ => 0 < s.toNat && s.toNat < 5
  | .tagq _ _ _ => true
  | .untag _ _ => true
  | .xcpy _ _ => true
  | .xnbmv _ _ => true
  | .xwait _ _ => true
  | .nbarArrive _ _ _ => true
  | .nbarWait _ _ _ => true
  | .tstart _ _ => true
  | .launch _ _ => true
  | .lwait _ _ => true
  | .tslot _ _ => true
  | .tmma _ _ _ c _ _ => c != 3
  | .tmmas _ _ _ c _ _ _ => c != 3
  | .tzero _ c => c != 3
  | .tscale _ _ c => c != 3
  | .tcvt _ _ c => c != 3
  | .tacc _ _ c => c != 3
  | .twait _ _ => true
  | .tarriveBarrier _ _ => true
  | .tarriveObject _ => true
  | .tloop _ _ => true
  | .tend => true
  | .tcbk _ _ => true
  | .prio _ _ => true
  | .rsys _ i => sysIndexListed i.toNat
  | .wsys _ i => sysIndexListed i.toNat
  | .trap _ => true
  | .eret => true
  | .phase _ => true
  | .tokq _ s => s.toNat < 6
  | .clock _ _ => true
  | .yield => true
  | .sleep _ => true
  | .brk _ => true
  | .udf _ _ _ => true
  | .muovoNop => true
  | .muovoLi _ _ => true
  | .muovoMov _ _ => true
  | .muovoAdd _ _ _ => true
  | .muovoSub _ _ _ => true
  | .muovoMul _ _ _ => true
  | .muovoAnd _ _ _ => true
  | .muovoOr _ _ _ => true
  | .muovoXor _ _ _ => true
  | .muovoShl _ _ _ => true
  | .muovoShr _ _ _ => true
  | .muovoMin _ _ _ => true
  | .muovoMax _ _ _ => true
  | .muovoSlt _ _ _ => true
  | .muovoSle _ _ _ => true
  | .muovoSeq _ _ _ => true
  | .muovoSel _ _ _ => true
  | .muovoAddi _ _ _ => true
  | .muovoLdc _ _ => true
  | .muovoLda _ _ _ _ => true
  | .muovoSta _ _ _ _ => true
  | .muovoLdp _ _ _ => true
  | .muovoStdec _ _ => true
  | .muovoBf _ _ => true
  | .muovoBt _ _ => true
  | .muovoJf _ => true
  | .muovoLoop _ _ => true
  | .muovoRet => true
  | .rfetch _ _ _ => true
  | .xhallBfx _ _ _ => true
  | .swait _ _ _ => true
  | .disp _ _ => true
  | .abortTeam _ _ => true
  | .abortGrid _ => true
  | .swaitEnd _ _ => true
  | .fairnessPromotion _ _ => true
  | .savingEntry _ _ => true
  | .sequencerSavingEntry _ => true
  | .reservationLapse _ _ => true
  | .sleepExpiry _ _ => true
  | .arcadeRingCycle _ => true
  | .gbudgetWrite _ _ => true
  | .byteBudgetInterval => true
  | .memoryAccessPerformed _ _ => true
  | .loadDataReturn _ _ => true
  | .instructionFetch _ _ => true
  | .walk _ _ => true
  | .awaitEnd _ _ => true
  | .barComplete _ => true
  | .xwaitEnd _ _ => true
  | .nbarWaitEnd _ _ => true
  | .lwaitEnd _ _ => true
  | .launchDecided _ _ => true
  | .clockComplete _ _ => true
  | .copyUnitDeliver _ => true
  | .metadataEntryPush _ => true
  | .codebookWrite _ => true
  | .peerLineAck _ _ => true
  | .nearBankTranslate _ => true
  | .nearBankRowDeliver _ => true
  | .arrivalObjectUpdate _ => true
  | .tileTaskIssue _ _ => true
  | .tileTaskRetire _ _ => true
  | .teamEnd _ => true
  | .gridRetire _ => true
  | .notifyWrite _ _ _ _ => true
  | .badpkt _ => true
  | .launchPacket _ => true
  | .copyPacket _ _ => true
  | .queueCopyComplete _ => true
  | .signalPacket _ => true
  | .waitPacket _ => true
  | .waitConditionMet _ => true
  | .policyLoad _ => true
  | .policyLoadInstalled _ => true
  | .faultReply _ => true
  | .publishCode _ _ => true
  | .publishCodeComplete _ => true
  | .completionRecordWrite _ _ => true
  | .eventRingTimeTrigger _ _ => true
  | .loadAqi _ => true
  | .loadAqiComplete => true
  | .invPasid _ _ _ _ => true
  | .invPasidComplete _ _ => true
  | .invS2 _ => true
  | .invS2Complete => true
  | .invIrte _ => true
  | .loadPool _ => true
  | .loadPeer _ => true
  | .cfgcmdBadOp _ => true
  | .erctlWrite _ _ _ _ => true
  | .fqctlWrite _ _ _ => true
  | .fdropRead _ => true
  | .irblkRead => true
  | .registerWrite _ _ _ => true
  | .functionLevelReset _ => true
  | .hostCxlMemAccess _ _ _ _ _ => true
  | .bisnpResponse _ => true
  | .hostPortTrained _ => true
  | .scaleupPortTrained _ => true
  | .scaleupPortFailed _ => true
  | .peerLineInbound _ _ _ _ => true
  | .enqDecision _ => true
  | .hypPickDecision => true
  | .pickDecision _ => true
  | .tickDecision _ => true
  | .hypTickDecision => true
  | .blockDecision _ => true
  | .wakeDecision _ => true
  | .migrateDecision _ => true
  | .tenantTickExpiry _ _ => true
  | .hypTickExpiry => true
  | .blockWaitTimeout _ => true
  | .contextSaveComplete _ => true
  | .frameMoveComplete _ => true
  | .discmd _ => true
  | .discardComplete => true
  | .homeq _ => true
  | .watchdogExpiry _ => true
  | .softErrorCorrectable _ _ _ => true
  | .softErrorUncorrectable _ _ _ _ _ _ => true
  | .deviceReset => true
  | .bootStageComplete => true
  | .doeDiscovery _ => true
  | .getVersion _ => true
  | .getCapabilities _ => true
  | .negotiateAlgorithms _ _ _ _ => true
  | .getDigests _ => true
  | .getCertificate _ _ _ _ => true
  | .challenge _ _ _ => true
  | .getMeasurements _ _ _ _ _ => true
  | .spdmUnsupportedRequest _ _ => true
  | .doeAbort => true
  | .clctlPoolWrite _ _ => true
  | .poolTakesEffect _ => true
  | .stallSample => true
  | .optctlClr _ => true
  | .frequencySwitch _ => true
  | .railHoldExpiry _ => true
  | .railReachesTarget _ => true
  | .trimctlWrite _ => true
  | .trimReview => true
  | .trimDisableExpiry _ => true
  | .thermalSensorChange _ _ => true
  | .thermalEmergency _ => true
  | .railErrorCountRead _ _ => true
  | .accountingSnapshot _ => true
  | .rv64gcInstruction _ => true
  | .msixVectorUnmask _ _ _ => true
  | .peerRefused _ => true

end Sys2Proof
end

