-- ==== Sys2Proof/Decode.lean ====
section
/-! DEFINITION. The decoder and, after it, the encoder, both written from the field tables of R175-R184, R245, R252,
R264, R271, R303, R356 and R395. A decoder picks the constructor from the major and the function number, then accepts it only if
every bit the row fixes holds its value (R183) and the operand fields hold values the row admits. -/

namespace Sys2Proof

/-- Field `n` bits wide whose lowest bit is bit `lo` of the word. -/
def fld (w : Word) (lo n : Nat) : BitVec n := w.extractLsb' lo n

/-- Field value as a number, placed at bit `lo`. -/
def at' {n : Nat} (x : BitVec n) (lo : Nat) : Nat := x.toNat * 2 ^ lo

/-- Fields c [31] read from a word. -/
def readNop (f : BitVec 1 → Instr) (w : Word) : Instr := f (fld w 31 1)
/-- The same fields laid over the fixed bits of a row. -/
def wordNop (base : Nat) (c : BitVec 1) : Word :=
  BitVec.ofNat 32 (base + c.toNat * 2147483648)

/-- Fields c [31], k [30], t [20:18], d [17:12], a [11:6], b [5:0] read from a word. -/
def readV3 (f : BitVec 1 → BitVec 1 → BitVec 3 → BitVec 6 → BitVec 6 → BitVec 6 → Instr) (w : Word) : Instr := f (fld w 31 1) (fld w 30 1) (fld w 18 3) (fld w 12 6) (fld w 6 6) (fld w 0 6)
/-- The same fields laid over the fixed bits of a row. -/
def wordV3 (base : Nat) (c : BitVec 1) (k : BitVec 1) (t : BitVec 3) (d : BitVec 6) (a : BitVec 6) (b : BitVec 6) : Word :=
  BitVec.ofNat 32 (base + c.toNat * 2147483648 + k.toNat * 1073741824 + t.toNat * 262144 + d.toNat * 4096 + a.toNat * 64 + b.toNat * 1)

/-- Fields c [31], k [30], t [20:18], d [17:12], a [11:6], s [5:0] read from a word. -/
def readV3s (f : BitVec 1 → BitVec 1 → BitVec 3 → BitVec 6 → BitVec 6 → BitVec 6 → Instr) (w : Word) : Instr := f (fld w 31 1) (fld w 30 1) (fld w 18 3) (fld w 12 6) (fld w 6 6) (fld w 0 6)
/-- The same fields laid over the fixed bits of a row. -/
def wordV3s (base : Nat) (c : BitVec 1) (k : BitVec 1) (t : BitVec 3) (d : BitVec 6) (a : BitVec 6) (s : BitVec 6) : Word :=
  BitVec.ofNat 32 (base + c.toNat * 2147483648 + k.toNat * 1073741824 + t.toNat * 262144 + d.toNat * 4096 + a.toNat * 64 + s.toNat * 1)

/-- Fields c [31], k [30], t [20:18], d [17:12], a [11:6] read from a word. -/
def readV2 (f : BitVec 1 → BitVec 1 → BitVec 3 → BitVec 6 → BitVec 6 → Instr) (w : Word) : Instr := f (fld w 31 1) (fld w 30 1) (fld w 18 3) (fld w 12 6) (fld w 6 6)
/-- The same fields laid over the fixed bits of a row. -/
def wordV2 (base : Nat) (c : BitVec 1) (k : BitVec 1) (t : BitVec 3) (d : BitVec 6) (a : BitVec 6) : Word :=
  BitVec.ofNat 32 (base + c.toNat * 2147483648 + k.toNat * 1073741824 + t.toNat * 262144 + d.toNat * 4096 + a.toNat * 64)

/-- Fields c [31], k [30], t [20:18], d [17:12], a [11:6], u [4], y [3:0] read from a word. -/
def readCvt (f : BitVec 1 → BitVec 1 → BitVec 3 → BitVec 6 → BitVec 6 → BitVec 1 → BitVec 4 → Instr) (w : Word) : Instr := f (fld w 31 1) (fld w 30 1) (fld w 18 3) (fld w 12 6) (fld w 6 6) (fld w 4 1) (fld w 0 4)
/-- The same fields laid over the fixed bits of a row. -/
def wordCvt (base : Nat) (c : BitVec 1) (k : BitVec 1) (t : BitVec 3) (d : BitVec 6) (a : BitVec 6) (u : BitVec 1) (y : BitVec 4) : Word :=
  BitVec.ofNat 32 (base + c.toNat * 2147483648 + k.toNat * 1073741824 + t.toNat * 262144 + d.toNat * 4096 + a.toNat * 64 + u.toNat * 16 + y.toNat * 1)

/-- Fields c [31], k [30], d [17:12], a [11:6], b [5:0] read from a word. -/
def readCbk (f : BitVec 1 → BitVec 1 → BitVec 6 → BitVec 6 → BitVec 6 → Instr) (w : Word) : Instr := f (fld w 31 1) (fld w 30 1) (fld w 12 6) (fld w 6 6) (fld w 0 6)
/-- The same fields laid over the fixed bits of a row. -/
def wordCbk (base : Nat) (c : BitVec 1) (k : BitVec 1) (d : BitVec 6) (a : BitVec 6) (b : BitVec 6) : Word :=
  BitVec.ofNat 32 (base + c.toNat * 2147483648 + k.toNat * 1073741824 + d.toNat * 4096 + a.toNat * 64 + b.toNat * 1)

/-- Fields c [31], k [30], d [17:12], a [11:6] read from a word. -/
def readVoteAny (f : BitVec 1 → BitVec 1 → BitVec 6 → BitVec 6 → Instr) (w : Word) : Instr := f (fld w 31 1) (fld w 30 1) (fld w 12 6) (fld w 6 6)
/-- The same fields laid over the fixed bits of a row. -/
def wordVoteAny (base : Nat) (c : BitVec 1) (k : BitVec 1) (d : BitVec 6) (a : BitVec 6) : Word :=
  BitVec.ofNat 32 (base + c.toNat * 2147483648 + k.toNat * 1073741824 + d.toNat * 4096 + a.toNat * 64)

/-- Fields c [31], k [30], t [18], d [17:12], a [11:6] read from a word. -/
def readSp24 (f : BitVec 1 → BitVec 1 → BitVec 1 → BitVec 6 → BitVec 6 → Instr) (w : Word) : Instr := f (fld w 31 1) (fld w 30 1) (fld w 18 1) (fld w 12 6) (fld w 6 6)
/-- The same fields laid over the fixed bits of a row. -/
def wordSp24 (base : Nat) (c : BitVec 1) (k : BitVec 1) (t : BitVec 1) (d : BitVec 6) (a : BitVec 6) : Word :=
  BitVec.ofNat 32 (base + c.toNat * 2147483648 + k.toNat * 1073741824 + t.toNat * 262144 + d.toNat * 4096 + a.toNat * 64)

/-- Fields c [31], k [30], d [21:16], a [15:10], w [9:8], i [7:0] read from a word. -/
def readRi (f : BitVec 1 → BitVec 1 → BitVec 6 → BitVec 6 → BitVec 2 → BitVec 8 → Instr) (w : Word) : Instr := f (fld w 31 1) (fld w 30 1) (fld w 16 6) (fld w 10 6) (fld w 8 2) (fld w 0 8)
/-- The same fields laid over the fixed bits of a row. -/
def wordRi (base : Nat) (c : BitVec 1) (k : BitVec 1) (d : BitVec 6) (a : BitVec 6) (w : BitVec 2) (i : BitVec 8) : Word :=
  BitVec.ofNat 32 (base + c.toNat * 2147483648 + k.toNat * 1073741824 + d.toNat * 65536 + a.toNat * 1024 + w.toNat * 256 + i.toNat * 1)

/-- Fields c [31], d [20:15], a [14:9], i [8], b [7:0] read from a word. -/
def readSc (f : BitVec 1 → BitVec 6 → BitVec 6 → BitVec 1 → BitVec 8 → Instr) (w : Word) : Instr := f (fld w 31 1) (fld w 15 6) (fld w 9 6) (fld w 8 1) (fld w 0 8)
/-- The same fields laid over the fixed bits of a row. -/
def wordSc (base : Nat) (c : BitVec 1) (d : BitVec 6) (a : BitVec 6) (i : BitVec 1) (b : BitVec 8) : Word :=
  BitVec.ofNat 32 (base + c.toNat * 2147483648 + d.toNat * 32768 + a.toNat * 512 + i.toNat * 256 + b.toNat * 1)

/-- Fields c [31], d [20:15], a [14:9] read from a word. -/
def readSpopc (f : BitVec 1 → BitVec 6 → BitVec 6 → Instr) (w : Word) : Instr := f (fld w 31 1) (fld w 15 6) (fld w 9 6)
/-- The same fields laid over the fixed bits of a row. -/
def wordSpopc (base : Nat) (c : BitVec 1) (d : BitVec 6) (a : BitVec 6) : Word :=
  BitVec.ofNat 32 (base + c.toNat * 2147483648 + d.toNat * 32768 + a.toNat * 512)

/-- Fields c [31], d [24:19], h [18:17], i [15:0] read from a word. -/
def readLiS (f : BitVec 1 → BitVec 6 → BitVec 2 → BitVec 16 → Instr) (w : Word) : Instr := f (fld w 31 1) (fld w 19 6) (fld w 17 2) (fld w 0 16)
/-- The same fields laid over the fixed bits of a row. -/
def wordLiS (base : Nat) (c : BitVec 1) (d : BitVec 6) (h : BitVec 2) (i : BitVec 16) : Word :=
  BitVec.ofNat 32 (base + c.toNat * 2147483648 + d.toNat * 524288 + h.toNat * 131072 + i.toNat * 1)

/-- Fields c [31], k [30], d [24:19], h [18:17], i [15:0] read from a word. -/
def readLiV (f : BitVec 1 → BitVec 1 → BitVec 6 → BitVec 2 → BitVec 16 → Instr) (w : Word) : Instr := f (fld w 31 1) (fld w 30 1) (fld w 19 6) (fld w 17 2) (fld w 0 16)
/-- The same fields laid over the fixed bits of a row. -/
def wordLiV (base : Nat) (c : BitVec 1) (k : BitVec 1) (d : BitVec 6) (h : BitVec 2) (i : BitVec 16) : Word :=
  BitVec.ofNat 32 (base + c.toNat * 2147483648 + k.toNat * 1073741824 + d.toNat * 524288 + h.toNat * 131072 + i.toNat * 1)

/-- Fields c [31], d [21:16], s [15:10], m [9:7], w [6:5], o [4:0] read from a word. -/
def readMem (f : BitVec 1 → BitVec 6 → BitVec 6 → BitVec 3 → BitVec 2 → BitVec 5 → Instr) (w : Word) : Instr := f (fld w 31 1) (fld w 16 6) (fld w 10 6) (fld w 7 3) (fld w 5 2) (fld w 0 5)
/-- The same fields laid over the fixed bits of a row. -/
def wordMem (base : Nat) (c : BitVec 1) (d : BitVec 6) (s : BitVec 6) (m : BitVec 3) (w : BitVec 2) (o : BitVec 5) : Word :=
  BitVec.ofNat 32 (base + c.toNat * 2147483648 + d.toNat * 65536 + s.toNat * 1024 + m.toNat * 128 + w.toNat * 32 + o.toNat * 1)

/-- Fields c [31], d [21:16], s [15:10] read from a word. -/
def readLdacc (f : BitVec 1 → BitVec 6 → BitVec 6 → Instr) (w : Word) : Instr := f (fld w 31 1) (fld w 16 6) (fld w 10 6)
/-- The same fields laid over the fixed bits of a row. -/
def wordLdacc (base : Nat) (c : BitVec 1) (d : BitVec 6) (s : BitVec 6) : Word :=
  BitVec.ofNat 32 (base + c.toNat * 2147483648 + d.toNat * 65536 + s.toNat * 1024)

/-- Fields c [31], s [15:10], m [9:7], o [4:0] read from a word. -/
def readPref (f : BitVec 1 → BitVec 6 → BitVec 3 → BitVec 5 → Instr) (w : Word) : Instr := f (fld w 31 1) (fld w 10 6) (fld w 7 3) (fld w 0 5)
/-- The same fields laid over the fixed bits of a row. -/
def wordPref (base : Nat) (c : BitVec 1) (s : BitVec 6) (m : BitVec 3) (o : BitVec 5) : Word :=
  BitVec.ofNat 32 (base + c.toNat * 2147483648 + s.toNat * 1024 + m.toNat * 128 + o.toNat * 1)

/-- Fields c [31], d [21:16], a [15:10], s [9:4], w [3:2], x [1:0] read from a word. -/
def readGather (f : BitVec 1 → BitVec 6 → BitVec 6 → BitVec 6 → BitVec 2 → BitVec 2 → Instr) (w : Word) : Instr := f (fld w 31 1) (fld w 16 6) (fld w 10 6) (fld w 4 6) (fld w 2 2) (fld w 0 2)
/-- The same fields laid over the fixed bits of a row. -/
def wordGather (base : Nat) (c : BitVec 1) (d : BitVec 6) (a : BitVec 6) (s : BitVec 6) (w : BitVec 2) (x : BitVec 2) : Word :=
  BitVec.ofNat 32 (base + c.toNat * 2147483648 + d.toNat * 65536 + a.toNat * 1024 + s.toNat * 16 + w.toNat * 4 + x.toNat * 1)

/-- Fields p [21:18], o [17:0] read from a word. -/
def readBranch (f : BitVec 4 → BitVec 18 → Instr) (w : Word) : Instr := f (fld w 18 4) (fld w 0 18)
/-- The same fields laid over the fixed bits of a row. -/
def wordBranch (base : Nat) (p : BitVec 4) (o : BitVec 18) : Word :=
  BitVec.ofNat 32 (base + p.toNat * 262144 + o.toNat * 1)

/-- Fields o [17:0] read from a word. -/
def readJmp (f : BitVec 18 → Instr) (w : Word) : Instr := f (fld w 0 18)
/-- The same fields laid over the fixed bits of a row. -/
def wordJmp (base : Nat) (o : BitVec 18) : Word :=
  BitVec.ofNat 32 (base + o.toNat * 1)

/-- Fields a [17:12] read from a word. -/
def readJmpi (f : BitVec 6 → Instr) (w : Word) : Instr := f (fld w 12 6)
/-- The same fields laid over the fixed bits of a row. -/
def wordJmpi (base : Nat) (a : BitVec 6) : Word :=
  BitVec.ofNat 32 (base + a.toNat * 4096)


/-- Fields j [21:10], o [9:0] read from a word. -/
def readJoin (f : BitVec 12 → BitVec 10 → Instr) (w : Word) : Instr := f (fld w 10 12) (fld w 0 10)
/-- The same fields laid over the fixed bits of a row. -/
def wordJoin (base : Nat) (j : BitVec 12) (o : BitVec 10) : Word :=
  BitVec.ofNat 32 (base + j.toNat * 1024 + o.toNat * 1)

/-- Fields l [21:20], s [19:14], n [13:6] read from a word. -/
def readLoop (f : BitVec 2 → BitVec 6 → BitVec 8 → Instr) (w : Word) : Instr := f (fld w 20 2) (fld w 14 6) (fld w 6 8)
/-- The same fields laid over the fixed bits of a row. -/
def wordLoop (base : Nat) (l : BitVec 2) (s : BitVec 6) (n : BitVec 8) : Word :=
  BitVec.ofNat 32 (base + l.toNat * 1048576 + s.toNat * 16384 + n.toNat * 64)

/-- Fields p [21:18], c [11:0] read from a word. -/
def readTrapc (f : BitVec 4 → BitVec 12 → Instr) (w : Word) : Instr := f (fld w 18 4) (fld w 0 12)
/-- The same fields laid over the fixed bits of a row. -/
def wordTrapc (base : Nat) (p : BitVec 4) (c : BitVec 12) : Word :=
  BitVec.ofNat 32 (base + p.toNat * 262144 + c.toNat * 1)

/-- Fields c [31], s [20:18], o [17:16], d [15:10], a [9:4], l [2], w [1:0] read from a word. -/
def readAmo (f : BitVec 1 → BitVec 3 → BitVec 2 → BitVec 6 → BitVec 6 → BitVec 1 → BitVec 2 → Instr) (w : Word) : Instr := f (fld w 31 1) (fld w 18 3) (fld w 16 2) (fld w 10 6) (fld w 4 6) (fld w 2 1) (fld w 0 2)
/-- The same fields laid over the fixed bits of a row. -/
def wordAmo (base : Nat) (c : BitVec 1) (s : BitVec 3) (o : BitVec 2) (d : BitVec 6) (a : BitVec 6) (l : BitVec 1) (w : BitVec 2) : Word :=
  BitVec.ofNat 32 (base + c.toNat * 2147483648 + s.toNat * 262144 + o.toNat * 65536 + d.toNat * 1024 + a.toNat * 16 + l.toNat * 4 + w.toNat * 1)

/-- Fields c [31], s [20:18], o [17:16], d [15:10], a [9:4], u [3], l [2], w [1:0] read from a word. -/
def readAmomin (f : BitVec 1 → BitVec 3 → BitVec 2 → BitVec 6 → BitVec 6 → BitVec 1 → BitVec 1 → BitVec 2 → Instr) (w : Word) : Instr := f (fld w 31 1) (fld w 18 3) (fld w 16 2) (fld w 10 6) (fld w 4 6) (fld w 3 1) (fld w 2 1) (fld w 0 2)
/-- The same fields laid over the fixed bits of a row. -/
def wordAmomin (base : Nat) (c : BitVec 1) (s : BitVec 3) (o : BitVec 2) (d : BitVec 6) (a : BitVec 6) (u : BitVec 1) (l : BitVec 1) (w : BitVec 2) : Word :=
  BitVec.ofNat 32 (base + c.toNat * 2147483648 + s.toNat * 262144 + o.toNat * 65536 + d.toNat * 1024 + a.toNat * 16 + u.toNat * 8 + l.toNat * 4 + w.toNat * 1)

/-- Fields c [31], s [20:18], o [17:16], d [15:10], a [9:4], l [2], w [0] read from a word. -/
def readAmofadd (f : BitVec 1 → BitVec 3 → BitVec 2 → BitVec 6 → BitVec 6 → BitVec 1 → BitVec 1 → Instr) (w : Word) : Instr := f (fld w 31 1) (fld w 18 3) (fld w 16 2) (fld w 10 6) (fld w 4 6) (fld w 2 1) (fld w 0 1)
/-- The same fields laid over the fixed bits of a row. -/
def wordAmofadd (base : Nat) (c : BitVec 1) (s : BitVec 3) (o : BitVec 2) (d : BitVec 6) (a : BitVec 6) (l : BitVec 1) (w : BitVec 1) : Word :=
  BitVec.ofNat 32 (base + c.toNat * 2147483648 + s.toNat * 262144 + o.toNat * 65536 + d.toNat * 1024 + a.toNat * 16 + l.toNat * 4 + w.toNat * 1)

/-- Fields c [31], s [20:18], o [17:16] read from a word. -/
def readFence (f : BitVec 1 → BitVec 3 → BitVec 2 → Instr) (w : Word) : Instr := f (fld w 31 1) (fld w 18 3) (fld w 16 2)
/-- The same fields laid over the fixed bits of a row. -/
def wordFence (base : Nat) (c : BitVec 1) (s : BitVec 3) (o : BitVec 2) : Word :=
  BitVec.ofNat 32 (base + c.toNat * 2147483648 + s.toNat * 262144 + o.toNat * 65536)

/-- Fields c [31], s [20:18], d [15:10], a [9:4] read from a word. -/
def readPub (f : BitVec 1 → BitVec 3 → BitVec 6 → BitVec 6 → Instr) (w : Word) : Instr := f (fld w 31 1) (fld w 18 3) (fld w 10 6) (fld w 4 6)
/-- The same fields laid over the fixed bits of a row. -/
def wordPub (base : Nat) (c : BitVec 1) (s : BitVec 3) (d : BitVec 6) (a : BitVec 6) : Word :=
  BitVec.ofNat 32 (base + c.toNat * 2147483648 + s.toNat * 262144 + d.toNat * 1024 + a.toNat * 16)

/-- Fields c [31], s [20:18], o [17:16], d [15:10], a [9:4] read from a word. -/
def readObj (f : BitVec 1 → BitVec 3 → BitVec 2 → BitVec 6 → BitVec 6 → Instr) (w : Word) : Instr := f (fld w 31 1) (fld w 18 3) (fld w 16 2) (fld w 10 6) (fld w 4 6)
/-- The same fields laid over the fixed bits of a row. -/
def wordObj (base : Nat) (c : BitVec 1) (s : BitVec 3) (o : BitVec 2) (d : BitVec 6) (a : BitVec 6) : Word :=
  BitVec.ofNat 32 (base + c.toNat * 2147483648 + s.toNat * 262144 + o.toNat * 65536 + d.toNat * 1024 + a.toNat * 16)

/-- Fields c [31], d [15:10], a [9:4] read from a word. -/
def readTagq (f : BitVec 1 → BitVec 6 → BitVec 6 → Instr) (w : Word) : Instr := f (fld w 31 1) (fld w 10 6) (fld w 4 6)
/-- The same fields laid over the fixed bits of a row. -/
def wordTagq (base : Nat) (c : BitVec 1) (d : BitVec 6) (a : BitVec 6) : Word :=
  BitVec.ofNat 32 (base + c.toNat * 2147483648 + d.toNat * 1024 + a.toNat * 16)

/-- Fields c [31], d [15:10] read from a word. -/
def readUntag (f : BitVec 1 → BitVec 6 → Instr) (w : Word) : Instr := f (fld w 31 1) (fld w 10 6)
/-- The same fields laid over the fixed bits of a row. -/
def wordUntag (base : Nat) (c : BitVec 1) (d : BitVec 6) : Word :=
  BitVec.ofNat 32 (base + c.toNat * 2147483648 + d.toNat * 1024)

/-- Fields c [31], a [20:15] read from a word. -/
def readXcpy (f : BitVec 1 → BitVec 6 → Instr) (w : Word) : Instr := f (fld w 31 1) (fld w 15 6)
/-- The same fields laid over the fixed bits of a row. -/
def wordXcpy (base : Nat) (c : BitVec 1) (a : BitVec 6) : Word :=
  BitVec.ofNat 32 (base + c.toNat * 2147483648 + a.toNat * 32768)

/-- Fields c [31], n [8:0] read from a word. -/
def readXwait (f : BitVec 1 → BitVec 9 → Instr) (w : Word) : Instr := f (fld w 31 1) (fld w 0 9)
/-- The same fields laid over the fixed bits of a row. -/
def wordXwait (base : Nat) (c : BitVec 1) (n : BitVec 9) : Word :=
  BitVec.ofNat 32 (base + c.toNat * 2147483648 + n.toNat * 1)

/-- Fields c [31], n [8:4], k [3:0] read from a word. -/
def readNbarArrive (f : BitVec 1 → BitVec 5 → BitVec 4 → Instr) (w : Word) : Instr := f (fld w 31 1) (fld w 4 5) (fld w 0 4)
/-- The same fields laid over the fixed bits of a row. -/
def wordNbarArrive (base : Nat) (c : BitVec 1) (n : BitVec 5) (k : BitVec 4) : Word :=
  BitVec.ofNat 32 (base + c.toNat * 2147483648 + n.toNat * 16 + k.toNat * 1)

/-- Fields c [31], a [20:15], k [3:0] read from a word. -/
def readNbarWait (f : BitVec 1 → BitVec 6 → BitVec 4 → Instr) (w : Word) : Instr := f (fld w 31 1) (fld w 15 6) (fld w 0 4)
/-- The same fields laid over the fixed bits of a row. -/
def wordNbarWait (base : Nat) (c : BitVec 1) (a : BitVec 6) (k : BitVec 4) : Word :=
  BitVec.ofNat 32 (base + c.toNat * 2147483648 + a.toNat * 32768 + k.toNat * 1)

/-- Fields n [20:16], o [13:0] read from a word. -/
def readTslot (f : BitVec 5 → BitVec 14 → Instr) (w : Word) : Instr := f (fld w 16 5) (fld w 0 14)
/-- The same fields laid over the fixed bits of a row. -/
def wordTslot (base : Nat) (n : BitVec 5) (o : BitVec 14) : Word :=
  BitVec.ofNat 32 (base + n.toNat * 65536 + o.toNat * 1)

/-- Fields a [20:16], b [15:11], r [10:9], c [8:7], i [6], k [5:0] read from a word. -/
def readTmma (f : BitVec 5 → BitVec 5 → BitVec 2 → BitVec 2 → BitVec 1 → BitVec 6 → Instr) (w : Word) : Instr := f (fld w 16 5) (fld w 11 5) (fld w 9 2) (fld w 7 2) (fld w 6 1) (fld w 0 6)
/-- The same fields laid over the fixed bits of a row. -/
def wordTmma (base : Nat) (a : BitVec 5) (b : BitVec 5) (r : BitVec 2) (c : BitVec 2) (i : BitVec 1) (k : BitVec 6) : Word :=
  BitVec.ofNat 32 (base + a.toNat * 65536 + b.toNat * 2048 + r.toNat * 512 + c.toNat * 128 + i.toNat * 64 + k.toNat * 1)

/-- Fields a [20:16], b [15:11], r [10:9], c [8:7], i [6], q [5:4], k [3:0] read from a word. -/
def readTmmas (f : BitVec 5 → BitVec 5 → BitVec 2 → BitVec 2 → BitVec 1 → BitVec 2 → BitVec 4 → Instr) (w : Word) : Instr := f (fld w 16 5) (fld w 11 5) (fld w 9 2) (fld w 7 2) (fld w 6 1) (fld w 4 2) (fld w 0 4)
/-- The same fields laid over the fixed bits of a row. -/
def wordTmmas (base : Nat) (a : BitVec 5) (b : BitVec 5) (r : BitVec 2) (c : BitVec 2) (i : BitVec 1) (q : BitVec 2) (k : BitVec 4) : Word :=
  BitVec.ofNat 32 (base + a.toNat * 65536 + b.toNat * 2048 + r.toNat * 512 + c.toNat * 128 + i.toNat * 64 + q.toNat * 16 + k.toNat * 1)

/-- Fields r [10:9], c [8:7] read from a word. -/
def readTzero (f : BitVec 2 → BitVec 2 → Instr) (w : Word) : Instr := f (fld w 9 2) (fld w 7 2)
/-- The same fields laid over the fixed bits of a row. -/
def wordTzero (base : Nat) (r : BitVec 2) (c : BitVec 2) : Word :=
  BitVec.ofNat 32 (base + r.toNat * 512 + c.toNat * 128)

/-- Fields n [20:16], r [10:9], c [8:7] read from a word. -/
def readTscale (f : BitVec 5 → BitVec 2 → BitVec 2 → Instr) (w : Word) : Instr := f (fld w 16 5) (fld w 9 2) (fld w 7 2)
/-- The same fields laid over the fixed bits of a row. -/
def wordTscale (base : Nat) (n : BitVec 5) (r : BitVec 2) (c : BitVec 2) : Word :=
  BitVec.ofNat 32 (base + n.toNat * 65536 + r.toNat * 512 + c.toNat * 128)

/-- Fields k [20:17], g [15:0] read from a word. -/
def readTwait (f : BitVec 4 → BitVec 16 → Instr) (w : Word) : Instr := f (fld w 17 4) (fld w 0 16)
/-- The same fields laid over the fixed bits of a row. -/
def wordTwait (base : Nat) (k : BitVec 4) (g : BitVec 16) : Word :=
  BitVec.ofNat 32 (base + k.toNat * 131072 + g.toNat * 1)

/-- Fields k [19:16], n [15:11] read from a word. -/
def readTarriveBarrier (f : BitVec 4 → BitVec 5 → Instr) (w : Word) : Instr := f (fld w 16 4) (fld w 11 5)
/-- The same fields laid over the fixed bits of a row. -/
def wordTarriveBarrier (base : Nat) (k : BitVec 4) (n : BitVec 5) : Word :=
  BitVec.ofNat 32 (base + k.toNat * 65536 + n.toNat * 2048)

/-- Fields n [19:15] read from a word. -/
def readTarriveObject (f : BitVec 5 → Instr) (w : Word) : Instr := f (fld w 15 5)
/-- The same fields laid over the fixed bits of a row. -/
def wordTarriveObject (base : Nat) (n : BitVec 5) : Word :=
  BitVec.ofNat 32 (base + n.toNat * 32768)

/-- Fields c [20:12], l [11:4] read from a word. -/
def readTloop (f : BitVec 9 → BitVec 8 → Instr) (w : Word) : Instr := f (fld w 12 9) (fld w 4 8)
/-- The same fields laid over the fixed bits of a row. -/
def wordTloop (base : Nat) (c : BitVec 9) (l : BitVec 8) : Word :=
  BitVec.ofNat 32 (base + c.toNat * 4096 + l.toNat * 16)

/-- Fields n [20:18], o [13:0] read from a word. -/
def readTcbk (f : BitVec 3 → BitVec 14 → Instr) (w : Word) : Instr := f (fld w 18 3) (fld w 0 14)
/-- The same fields laid over the fixed bits of a row. -/
def wordTcbk (base : Nat) (n : BitVec 3) (o : BitVec 14) : Word :=
  BitVec.ofNat 32 (base + n.toNat * 262144 + o.toNat * 1)

/-- Fields c [31], p [11:0] read from a word. -/
def readPrio (f : BitVec 1 → BitVec 12 → Instr) (w : Word) : Instr := f (fld w 31 1) (fld w 0 12)
/-- The same fields laid over the fixed bits of a row. -/
def wordPrio (base : Nat) (c : BitVec 1) (p : BitVec 12) : Word :=
  BitVec.ofNat 32 (base + c.toNat * 2147483648 + p.toNat * 1)

/-- Fields d [20:15], i [11:0] read from a word. -/
def readRsys (f : BitVec 6 → BitVec 12 → Instr) (w : Word) : Instr := f (fld w 15 6) (fld w 0 12)
/-- The same fields laid over the fixed bits of a row. -/
def wordRsys (base : Nat) (d : BitVec 6) (i : BitVec 12) : Word :=
  BitVec.ofNat 32 (base + d.toNat * 32768 + i.toNat * 1)

/-- Fields a [20:15], i [11:0] read from a word. -/
def readWsys (f : BitVec 6 → BitVec 12 → Instr) (w : Word) : Instr := f (fld w 15 6) (fld w 0 12)
/-- The same fields laid over the fixed bits of a row. -/
def wordWsys (base : Nat) (a : BitVec 6) (i : BitVec 12) : Word :=
  BitVec.ofNat 32 (base + a.toNat * 32768 + i.toNat * 1)

/-- Fields c [11:0] read from a word. -/
def readTrap (f : BitVec 12 → Instr) (w : Word) : Instr := f (fld w 0 12)
/-- The same fields laid over the fixed bits of a row. -/
def wordTrap (base : Nat) (c : BitVec 12) : Word :=
  BitVec.ofNat 32 (base + c.toNat * 1)

/-- Fields p [11:0] read from a word. -/
def readPhase (f : BitVec 12 → Instr) (w : Word) : Instr := f (fld w 0 12)
/-- The same fields laid over the fixed bits of a row. -/
def wordPhase (base : Nat) (p : BitVec 12) : Word :=
  BitVec.ofNat 32 (base + p.toNat * 1)

/-- Fields d [20:15], s [2:0] read from a word. -/
def readTokq (f : BitVec 6 → BitVec 3 → Instr) (w : Word) : Instr := f (fld w 15 6) (fld w 0 3)
/-- The same fields laid over the fixed bits of a row. -/
def wordTokq (base : Nat) (d : BitVec 6) (s : BitVec 3) : Word :=
  BitVec.ofNat 32 (base + d.toNat * 32768 + s.toNat * 1)

/-- Fields d [20:15], s [0] read from a word. -/
def readClock (f : BitVec 6 → BitVec 1 → Instr) (w : Word) : Instr := f (fld w 15 6) (fld w 0 1)
/-- The same fields laid over the fixed bits of a row. -/
def wordClock (base : Nat) (d : BitVec 6) (s : BitVec 1) : Word :=
  BitVec.ofNat 32 (base + d.toNat * 32768 + s.toNat * 1)

/-- Fields n [15:0] read from a word. -/
def readSleep (f : BitVec 16 → Instr) (w : Word) : Instr := f (fld w 0 16)
/-- The same fields laid over the fixed bits of a row. -/
def wordSleep (base : Nat) (n : BitVec 16) : Word :=
  BitVec.ofNat 32 (base + n.toNat * 1)

/-- Fields c [31], k [30], x [20:0] read from a word. -/
def readUdf (f : BitVec 1 → BitVec 1 → BitVec 21 → Instr) (w : Word) : Instr := f (fld w 31 1) (fld w 30 1) (fld w 0 21)
/-- The same fields laid over the fixed bits of a row. -/
def wordUdf (base : Nat) (c : BitVec 1) (k : BitVec 1) (x : BitVec 21) : Word :=
  BitVec.ofNat 32 (base + c.toNat * 2147483648 + k.toNat * 1073741824 + x.toNat * 1)

/-- Fields d [25:22], i [17:0] read from a word. -/
def readMuovoLi (f : BitVec 4 → BitVec 18 → Instr) (w : Word) : Instr := f (fld w 22 4) (fld w 0 18)
/-- The same fields laid over the fixed bits of a row. -/
def wordMuovoLi (base : Nat) (d : BitVec 4) (i : BitVec 18) : Word :=
  BitVec.ofNat 32 (base + d.toNat * 4194304 + i.toNat * 1)

/-- Fields d [25:22], a [21:18] read from a word. -/
def readMuovoMov (f : BitVec 4 → BitVec 4 → Instr) (w : Word) : Instr := f (fld w 22 4) (fld w 18 4)
/-- The same fields laid over the fixed bits of a row. -/
def wordMuovoMov (base : Nat) (d : BitVec 4) (a : BitVec 4) : Word :=
  BitVec.ofNat 32 (base + d.toNat * 4194304 + a.toNat * 262144)

/-- Fields d [25:22], a [21:18], b [17:14] read from a word. -/
def readMuovo3 (f : BitVec 4 → BitVec 4 → BitVec 4 → Instr) (w : Word) : Instr := f (fld w 22 4) (fld w 18 4) (fld w 14 4)
/-- The same fields laid over the fixed bits of a row. -/
def wordMuovo3 (base : Nat) (d : BitVec 4) (a : BitVec 4) (b : BitVec 4) : Word :=
  BitVec.ofNat 32 (base + d.toNat * 4194304 + a.toNat * 262144 + b.toNat * 16384)

/-- Fields d [25:22], a [21:18], i [17:0] read from a word. -/
def readMuovoAddi (f : BitVec 4 → BitVec 4 → BitVec 18 → Instr) (w : Word) : Instr := f (fld w 22 4) (fld w 18 4) (fld w 0 18)
/-- The same fields laid over the fixed bits of a row. -/
def wordMuovoAddi (base : Nat) (d : BitVec 4) (a : BitVec 4) (i : BitVec 18) : Word :=
  BitVec.ofNat 32 (base + d.toNat * 4194304 + a.toNat * 262144 + i.toNat * 1)

/-- Fields d [25:22], a [21:18], s [17], o [16:0] read from a word. -/
def readMuovoLda (f : BitVec 4 → BitVec 4 → BitVec 1 → BitVec 17 → Instr) (w : Word) : Instr := f (fld w 22 4) (fld w 18 4) (fld w 17 1) (fld w 0 17)
/-- The same fields laid over the fixed bits of a row. -/
def wordMuovoLda (base : Nat) (d : BitVec 4) (a : BitVec 4) (s : BitVec 1) (o : BitVec 17) : Word :=
  BitVec.ofNat 32 (base + d.toNat * 4194304 + a.toNat * 262144 + s.toNat * 131072 + o.toNat * 1)

/-- Fields d [25:22], a [21:18], f [7:0] read from a word. -/
def readMuovoLdp (f : BitVec 4 → BitVec 4 → BitVec 8 → Instr) (w : Word) : Instr := f (fld w 22 4) (fld w 18 4) (fld w 0 8)
/-- The same fields laid over the fixed bits of a row. -/
def wordMuovoLdp (base : Nat) (d : BitVec 4) (a : BitVec 4) (f : BitVec 8) : Word :=
  BitVec.ofNat 32 (base + d.toNat * 4194304 + a.toNat * 262144 + f.toNat * 1)

/-- Fields a [21:18], r [17:0] read from a word. -/
def readMuovoStdec (f : BitVec 4 → BitVec 18 → Instr) (w : Word) : Instr := f (fld w 18 4) (fld w 0 18)
/-- The same fields laid over the fixed bits of a row. -/
def wordMuovoStdec (base : Nat) (a : BitVec 4) (r : BitVec 18) : Word :=
  BitVec.ofNat 32 (base + a.toNat * 262144 + r.toNat * 1)

/-- Fields a [21:18], k [17:0] read from a word. -/
def readMuovoBf (f : BitVec 4 → BitVec 18 → Instr) (w : Word) : Instr := f (fld w 18 4) (fld w 0 18)
/-- The same fields laid over the fixed bits of a row. -/
def wordMuovoBf (base : Nat) (a : BitVec 4) (k : BitVec 18) : Word :=
  BitVec.ofNat 32 (base + a.toNat * 262144 + k.toNat * 1)

/-- Fields k [17:0] read from a word. -/
def readMuovoJf (f : BitVec 18 → Instr) (w : Word) : Instr := f (fld w 0 18)
/-- The same fields laid over the fixed bits of a row. -/
def wordMuovoJf (base : Nat) (k : BitVec 18) : Word :=
  BitVec.ofNat 32 (base + k.toNat * 1)

/-- Fields l [15:8], n [7:0] read from a word. -/
def readMuovoLoop (f : BitVec 8 → BitVec 8 → Instr) (w : Word) : Instr := f (fld w 8 8) (fld w 0 8)
/-- The same fields laid over the fixed bits of a row. -/
def wordMuovoLoop (base : Nat) (l : BitVec 8) (n : BitVec 8) : Word :=
  BitVec.ofNat 32 (base + l.toNat * 256 + n.toNat * 1)

/-- Fields b [24:20], a [19:15], d [11:7] read from a word. -/
def readRfetch (f : BitVec 5 → BitVec 5 → BitVec 5 → Instr) (w : Word) : Instr := f (fld w 20 5) (fld w 15 5) (fld w 7 5)
/-- The same fields laid over the fixed bits of a row. -/
def wordRfetch (base : Nat) (b : BitVec 5) (a : BitVec 5) (d : BitVec 5) : Word :=
  BitVec.ofNat 32 (base + b.toNat * 1048576 + a.toNat * 32768 + d.toNat * 128)

/-- Fields a [19:15], d [11:7] read from a word. -/
def readDisp (f : BitVec 5 → BitVec 5 → Instr) (w : Word) : Instr := f (fld w 15 5) (fld w 7 5)
/-- The same fields laid over the fixed bits of a row. -/
def wordDisp (base : Nat) (a : BitVec 5) (d : BitVec 5) : Word :=
  BitVec.ofNat 32 (base + a.toNat * 32768 + d.toNat * 128)

/-- Identity of a major 0 word: its function number (R184). -/
def candidate0 (w : Word) : Option Instr :=
  match (fld w 21 5).toNat with
  | 0 => some (readNop .nop w)
  | 1 => some (readV3 .add w)
  | 2 => some (readV3 .sub w)
  | 3 => some (readV3 .adds w)
  | 4 => some (readV3 .subs w)
  | 5 => some (readV3 .mul w)
  | 6 => some (readV3 .mulh w)
  | 7 => some (readV3 .mad w)
  | 8 => some (readV3 .dot2 w)
  | 9 => some (readV3 .min w)
  | 10 => some (readV3 .max w)
  | 11 => some (readV3 .absd w)
  | 12 => some (readV3 .and w)
  | 13 => some (readV3 .or w)
  | 14 => some (readV3 .xor w)
  | 15 => some (readV3 .andn w)
  | 16 => some (readV3 .shl w)
  | 17 => some (readV3 .shr w)
  | 18 => some (readV3 .shrr w)
  | 19 => some (readV3 .rotl w)
  | 20 => some (readV3 .ceq w)
  | 21 => some (readV3 .clt w)
  | 22 => some (readV3 .cle w)
  | 23 => some (readV3 .bfx w)
  | 24 => some (readV3 .bfi w)
  | 25 => some (readV2 .popc w)
  | 26 => some (readV2 .clz w)
  | 27 => some (readV2 .brev w)
  | 28 => some (readV3 .sel w)
  | 29 => some (readV3 .avg w)
  | _ => none

/-- Identity of a major 1 word: its function number (R184). -/
def candidate1 (w : Word) : Option Instr :=
  match (fld w 21 5).toNat with
  | 0 => some (readV3 .fadd w)
  | 1 => some (readV3 .fsub w)
  | 2 => some (readV3 .fmul w)
  | 3 => some (readV3 .fma w)
  | 4 => some (readV3 .fms w)
  | 5 => some (readV3 .fnma w)
  | 6 => some (readV3 .fmin w)
  | 7 => some (readV3 .fmax w)
  | 8 => some (readV3 .fminm w)
  | 9 => some (readV3 .fmaxm w)
  | 10 => some (readV2 .fabs w)
  | 11 => some (readV2 .fneg w)
  | 12 => some (readV3 .fceq w)
  | 13 => some (readV3 .fclt w)
  | 14 => some (readV3 .fcle w)
  | 15 => some (readV3 .fcun w)
  | 16 => some (readV2 .fcls w)
  | 17 => some (readV2 .frnd w)
  | 18 => some (readV3 .fcopysign w)
  | 19 => some (readV3 .fscale w)
  | 20 => some (readV3 .fdot2 w)
  | _ => none

/-- Identity of a major 2 word: its function number (R184). -/
def candidate2 (w : Word) : Option Instr :=
  match (fld w 21 5).toNat with
  | 0 => some (readCvt .cvt w)
  | 1 => some (readV3 .pack w)
  | 2 => some (readV2 .unpackLo w)
  | 3 => some (readV2 .unpackHi w)
  | 4 => some (readV2 .rcp w)
  | 5 => some (readV2 .rsqrt w)
  | 6 => some (readV2 .sqrt w)
  | 7 => some (readV2 .exp2 w)
  | 8 => some (readV2 .log2 w)
  | 9 => some (readV2 .sin w)
  | 10 => some (readV2 .cos w)
  | 11 => some (readV2 .tanh w)
  | 12 => some (readV3 .quant w)
  | 13 => some (readV3 .dequant w)
  | 14 => some (readCbk .cbk w)
  | 15 => some (readV3 .fdiv w)
  | 16 => some (readV3 .idiv w)
  | 17 => some (readV3 .irem w)
  | _ => none

/-- Identity of a major 3 word: its function number (R184). -/
def candidate3 (w : Word) : Option Instr :=
  match (fld w 21 5).toNat with
  | 0 => some (readV3 .shfl w)
  | 1 => some (readV3 .slideUp w)
  | 2 => some (readV3 .slideDn w)
  | 3 => some (readV3 .bcast w)
  | 4 => some (readV2 .redAdd w)
  | 5 => some (readV2 .redMin w)
  | 6 => some (readV2 .redMax w)
  | 7 => some (readV2 .redFadd w)
  | 8 => some (readV2 .scanAdd w)
  | 9 => some (readVoteAny .voteAny w)
  | 10 => some (readVoteAny .voteAll w)
  | 11 => some (readVoteAny .ballot w)
  | 12 => some (readSp24 .sp24 w)
  | 13 => some (readV2 .sort8 w)
  | 14 => some (readV2 .matchEq w)
  | 15 => some (readV3 .compress w)
  | 16 => some (readV3 .expand w)
  | 17 => some (readV2 .transp w)
  | 18 => some (readV3 .merge2 w)
  | _ => none

/-- Identity of a major 4 word: its function number (R184). -/
def candidate4 (w : Word) : Option Instr :=
  match (fld w 21 5).toNat with
  | 1 => some (readV3s .addScalar w)
  | 2 => some (readV3s .subScalar w)
  | 3 => some (readV3s .addsScalar w)
  | 4 => some (readV3s .subsScalar w)
  | 5 => some (readV3s .mulScalar w)
  | 6 => some (readV3s .mulhScalar w)
  | 7 => some (readV3s .madScalar w)
  | 8 => some (readV3s .dot2Scalar w)
  | 9 => some (readV3s .minScalar w)
  | 10 => some (readV3s .maxScalar w)
  | 11 => some (readV3s .absdScalar w)
  | 12 => some (readV3s .andScalar w)
  | 13 => some (readV3s .orScalar w)
  | 14 => some (readV3s .xorScalar w)
  | 15 => some (readV3s .andnScalar w)
  | 16 => some (readV3s .shlScalar w)
  | 17 => some (readV3s .shrScalar w)
  | 18 => some (readV3s .shrrScalar w)
  | 19 => some (readV3s .rotlScalar w)
  | 20 => some (readV3s .ceqScalar w)
  | 21 => some (readV3s .cltScalar w)
  | 22 => some (readV3s .cleScalar w)
  | 23 => some (readV3s .bfxScalar w)
  | 24 => some (readV3s .bfiScalar w)
  | 28 => some (readV3s .selScalar w)
  | 29 => some (readV3s .avgScalar w)
  | _ => none

/-- Identity of a major 5 word: its function number (R184). -/
def candidate5 (w : Word) : Option Instr :=
  match (fld w 21 5).toNat with
  | 0 => some (readV3s .faddScalar w)
  | 1 => some (readV3s .fsubScalar w)
  | 2 => some (readV3s .fmulScalar w)
  | 3 => some (readV3s .fmaScalar w)
  | 4 => some (readV3s .fmsScalar w)
  | 5 => some (readV3s .fnmaScalar w)
  | 6 => some (readV3s .fminScalar w)
  | 7 => some (readV3s .fmaxScalar w)
  | 8 => some (readV3s .fminmScalar w)
  | 9 => some (readV3s .fmaxmScalar w)
  | 12 => some (readV3s .fceqScalar w)
  | 13 => some (readV3s .fcltScalar w)
  | 14 => some (readV3s .fcleScalar w)
  | 15 => some (readV3s .fcunScalar w)
  | 18 => some (readV3s .fcopysignScalar w)
  | 19 => some (readV3s .fscaleScalar w)
  | 20 => some (readV3s .fdot2Scalar w)
  | _ => none

/-- Identity of a major 6 word: its function number (R184). -/
def candidate6 (w : Word) : Option Instr :=
  match (fld w 22 4).toNat with
  | 0 => some (readRi .addi w)
  | 1 => some (readRi .muli w)
  | 2 => some (readRi .andi w)
  | 3 => some (readRi .ori w)
  | 4 => some (readRi .xori w)
  | 5 => some (readRi .shli w)
  | 6 => some (readRi .shri w)
  | 7 => some (readRi .srai w)
  | 8 => some (readRi .shrri w)
  | 9 => some (readRi .ceqi w)
  | 10 => some (readRi .clti w)
  | 11 => some (readRi .slidei w)
  | 12 => some (readRi .mini w)
  | 13 => some (readRi .maxi w)
  | _ => none

/-- Identity of a major 7 word: its function number (R184). -/
def candidate7 (w : Word) : Option Instr :=
  match (fld w 21 5).toNat with
  | 0 => some (readSc .sadd w)
  | 1 => some (readSc .ssub w)
  | 2 => some (readSc .smul w)
  | 3 => some (readSc .smulh w)
  | 4 => some (readSc .sand w)
  | 5 => some (readSc .sor w)
  | 6 => some (readSc .sxor w)
  | 7 => some (readSc .sshl w)
  | 8 => some (readSc .sshr w)
  | 9 => some (readSc .ssra w)
  | 10 => some (readSc .smin w)
  | 11 => some (readSc .smax w)
  | 12 => some (readSc .sceq w)
  | 13 => some (readSc .sclt w)
  | 14 => some (readSc .scltn w)
  | 15 => some (readSc .ssel w)
  | 16 => some (readSc .sbfx w)
  | 17 => some (readSc .sbfi w)
  | 18 => some (readSpopc .spopc w)
  | 19 => some (readSpopc .sclz w)
  | 20 => some (readSc .vtos w)
  | 21 => some (readSc .stov w)
  | 22 => some (readSc .sdiv w)
  | 23 => some (readSc .srem w)
  | _ => none

/-- Major 8 (R182): V [25] and KEEP [16] select the word. -/
def candidate8 (w : Word) : Option Instr :=
  match (fld w 25 1).toNat, (fld w 16 1).toNat with
  | 0, 0 => some (readLiS .liS w)
  | 0, 1 => some (readLiS .likS w)
  | 1, 0 => some (readLiV .liV w)
  | 1, 1 => some (readLiV .likV w)
  | _, _ => none

/-- Identity of a major 9 word: its function number (R184). -/
def candidate9 (w : Word) : Option Instr :=
  match (fld w 22 4).toNat with
  | 0 => some (readMem .ld w)
  | 1 => some (readMem .st w)
  | 2 => some (readMem .ldtm w)
  | 3 => some (readMem .sttm w)
  | 4 => some (readLdacc .ldacc w)
  | 5 => some (readLdacc .stacc w)
  | 6 => some (readMem .ldnt w)
  | 7 => some (readMem .stnt w)
  | 8 => some (readMem .lds w)
  | 9 => some (readMem .sts w)
  | 10 => some (readPref .pref w)
  | _ => none

/-- Identity of a major 10 word: its function number (R184). -/
def candidate10 (w : Word) : Option Instr :=
  match (fld w 22 4).toNat with
  | 0 => some (readGather .ldg w)
  | 1 => some (readGather .stg w)
  | 2 => some (readGather .ldgtm w)
  | 3 => some (readGather .stgtm w)
  | _ => none

/-- Identity of a major 11 word: its function number (R184). -/
def candidate11 (w : Word) : Option Instr :=
  match (fld w 22 4).toNat with
  | 0 => some (readBranch .bra w)
  | 1 => some (readBranch .brn w)
  | 2 => some (readJmp .jmp w)
  | 3 => some (readJmp .call w)
  | 4 => some (readJmpi .jmpi w)
  | 5 => some (.ret)
  | 6 => some (readJoin .join w)
  | 7 => some (readLoop .loop w)
  | 8 => some (.exit)
  | 9 => some (readBranch .braAny w)
  | 10 => some (readBranch .braAll w)
  | 11 => some (readTrapc .trapc w)
  | _ => none

/-- Identity of a major 12 word: its function number (R184). -/
def candidate12 (w : Word) : Option Instr :=
  match (fld w 21 5).toNat with
  | 0 => some (readAmo .amoadd w)
  | 1 => some (readAmomin .amomin w)
  | 2 => some (readAmomin .amomax w)
  | 3 => some (readAmo .amoand w)
  | 4 => some (readAmo .amoor w)
  | 5 => some (readAmo .amoxor w)
  | 6 => some (readAmo .amoswap w)
  | 7 => some (readAmo .amocas w)
  | 8 => some (readAmo .amoinc w)
  | 9 => some (readAmofadd .amofadd w)
  | 10 => some (readAmo .lr w)
  | 11 => some (readAmo .sc w)
  | 12 => some (readFence .fence w)
  | 13 => some (readPub .pub w)
  | 14 => some (readObj .ldref w)
  | 15 => some (readObj .stref w)
  | 16 => some (readPub .xpub w)
  | 17 => some (readObj .arrive w)
  | 18 => some (readObj .await w)
  | 19 => some (readFence .bar w)
  | 20 => some (readTagq .tagq w)
  | 21 => some (readUntag .untag w)
  | _ => none

/-- Identity of a major 13 word: its function number (R184). -/
def candidate13 (w : Word) : Option Instr :=
  match (fld w 21 5).toNat with
  | 0 => some (readXcpy .xcpy w)
  | 1 => some (readXcpy .xnbmv w)
  | 2 => some (readXwait .xwait w)
  | 3 => some (readNbarArrive .nbarArrive w)
  | 4 => some (readNbarWait .nbarWait w)
  | 5 => some (readXcpy .tstart w)
  | 6 => some (readXcpy .launch w)
  | 7 => some (readXwait .lwait w)
  | _ => none

/-- Identity of a major 14 word: its function number (R184). -/
noncomputable def candidate14 (w : Word) : Option Instr :=
  match (fld w 21 5).toNat with
  | 0 => some (readTslot .tslot w)
  | 1 => some (readTmma .tmma w)
  | 2 => some (readTmmas .tmmas w)
  | 3 => some (readTzero .tzero w)
  | 4 => some (readTscale .tscale w)
  | 5 => some (readTscale .tcvt w)
  | 6 => some (readTscale .tacc w)
  | 7 => some (readTwait .twait w)
  | 8 => some (if fld w 20 1 = 0 then readTarriveBarrier .tarriveBarrier w else readTarriveObject .tarriveObject w)
  | 9 => some (readTloop .tloop w)
  | 10 => some (.tend)
  | 11 => some (readTcbk .tcbk w)
  | _ => none

/-- Identity of a major 15 word: its function number (R184). -/
def candidate15 (w : Word) : Option Instr :=
  match (fld w 21 5).toNat with
  | 0 => some (readPrio .prio w)
  | 1 => some (readRsys .rsys w)
  | 2 => some (readWsys .wsys w)
  | 3 => some (readTrap .trap w)
  | 4 => some (.eret)
  | 5 => some (readPhase .phase w)
  | 6 => some (readTokq .tokq w)
  | 7 => some (readClock .clock w)
  | 8 => some (.yield)
  | 9 => some (readSleep .sleep w)
  | 10 => some (readTrap .brk w)
  | 31 => some (readUdf .udf w)
  | _ => none

/-- Identity of a Muovo word: the operation number in bits [31:26] (R356). -/
noncomputable def candidateMuovo (w : Word) : Option Instr :=
  match (fld w 26 6).toNat with
  | 0 => some (.muovoNop)
  | 1 => some (readMuovoLi .muovoLi w)
  | 2 => some (readMuovoMov .muovoMov w)
  | 3 => some (readMuovo3 .muovoAdd w)
  | 4 => some (readMuovo3 .muovoSub w)
  | 5 => some (readMuovo3 .muovoMul w)
  | 6 => some (readMuovo3 .muovoAnd w)
  | 7 => some (readMuovo3 .muovoOr w)
  | 8 => some (readMuovo3 .muovoXor w)
  | 9 => some (readMuovo3 .muovoShl w)
  | 10 => some (readMuovo3 .muovoShr w)
  | 11 => some (readMuovo3 .muovoMin w)
  | 12 => some (readMuovo3 .muovoMax w)
  | 13 => some (readMuovo3 .muovoSlt w)
  | 14 => some (readMuovo3 .muovoSle w)
  | 15 => some (readMuovo3 .muovoSeq w)
  | 16 => some (readMuovo3 .muovoSel w)
  | 17 => some (readMuovoAddi .muovoAddi w)
  | 18 => some (readMuovoLi .muovoLdc w)
  | 19 => some (readMuovoLda .muovoLda w)
  | 20 => some (readMuovoLda .muovoSta w)
  | 21 => some (readMuovoLdp .muovoLdp w)
  | 22 => some (readMuovoStdec .muovoStdec w)
  | 23 => some (readMuovoBf .muovoBf w)
  | 24 => some (readMuovoBf .muovoBt w)
  | 25 => some (readMuovoJf .muovoJf w)
  | 26 => some (readMuovoLoop .muovoLoop w)
  | 27 => some (.muovoRet)
  | _ => none

/-- Identity of an Xhall word: funct3 of the custom-0 opcode (R395). -/
noncomputable def candidateXhall (w : Word) : Option Instr :=
  match (fld w 12 3).toNat with
  | 0 => some (readRfetch .rfetch w)
  | 1 => some (readRfetch .xhallBfx w)
  | 2 => some (readRfetch .swait w)
  | 3 => some (readDisp .disp w)
  | _ => none

/-- The word of an instruction; an event has none. -/
def encode : Instr → Option Word
  | .nop c => some (wordNop 0x00000000 c)
  | .add c k t d a b => some (wordV3 0x00200000 c k t d a b)
  | .addScalar c k t d a s => some (wordV3s 0x10200000 c k t d a s)
  | .sub c k t d a b => some (wordV3 0x00400000 c k t d a b)
  | .subScalar c k t d a s => some (wordV3s 0x10400000 c k t d a s)
  | .adds c k t d a b => some (wordV3 0x00600000 c k t d a b)
  | .addsScalar c k t d a s => some (wordV3s 0x10600000 c k t d a s)
  | .subs c k t d a b => some (wordV3 0x00800000 c k t d a b)
  | .subsScalar c k t d a s => some (wordV3s 0x10800000 c k t d a s)
  | .mul c k t d a b => some (wordV3 0x00A00000 c k t d a b)
  | .mulScalar c k t d a s => some (wordV3s 0x10A00000 c k t d a s)
  | .mulh c k t d a b => some (wordV3 0x00C00000 c k t d a b)
  | .mulhScalar c k t d a s => some (wordV3s 0x10C00000 c k t d a s)
  | .mad c k t d a b => some (wordV3 0x00E00000 c k t d a b)
  | .madScalar c k t d a s => some (wordV3s 0x10E00000 c k t d a s)
  | .dot2 c k t d a b => some (wordV3 0x01000000 c k t d a b)
  | .dot2Scalar c k t d a s => some (wordV3s 0x11000000 c k t d a s)
  | .min c k t d a b => some (wordV3 0x01200000 c k t d a b)
  | .minScalar c k t d a s => some (wordV3s 0x11200000 c k t d a s)
  | .max c k t d a b => some (wordV3 0x01400000 c k t d a b)
  | .maxScalar c k t d a s => some (wordV3s 0x11400000 c k t d a s)
  | .absd c k t d a b => some (wordV3 0x01600000 c k t d a b)
  | .absdScalar c k t d a s => some (wordV3s 0x11600000 c k t d a s)
  | .and c k t d a b => some (wordV3 0x01800000 c k t d a b)
  | .andScalar c k t d a s => some (wordV3s 0x11800000 c k t d a s)
  | .or c k t d a b => some (wordV3 0x01A00000 c k t d a b)
  | .orScalar c k t d a s => some (wordV3s 0x11A00000 c k t d a s)
  | .xor c k t d a b => some (wordV3 0x01C00000 c k t d a b)
  | .xorScalar c k t d a s => some (wordV3s 0x11C00000 c k t d a s)
  | .andn c k t d a b => some (wordV3 0x01E00000 c k t d a b)
  | .andnScalar c k t d a s => some (wordV3s 0x11E00000 c k t d a s)
  | .shl c k t d a b => some (wordV3 0x02000000 c k t d a b)
  | .shlScalar c k t d a s => some (wordV3s 0x12000000 c k t d a s)
  | .shr c k t d a b => some (wordV3 0x02200000 c k t d a b)
  | .shrScalar c k t d a s => some (wordV3s 0x12200000 c k t d a s)
  | .shrr c k t d a b => some (wordV3 0x02400000 c k t d a b)
  | .shrrScalar c k t d a s => some (wordV3s 0x12400000 c k t d a s)
  | .rotl c k t d a b => some (wordV3 0x02600000 c k t d a b)
  | .rotlScalar c k t d a s => some (wordV3s 0x12600000 c k t d a s)
  | .ceq c k t d a b => some (wordV3 0x02800000 c k t d a b)
  | .ceqScalar c k t d a s => some (wordV3s 0x12800000 c k t d a s)
  | .clt c k t d a b => some (wordV3 0x02A00000 c k t d a b)
  | .cltScalar c k t d a s => some (wordV3s 0x12A00000 c k t d a s)
  | .cle c k t d a b => some (wordV3 0x02C00000 c k t d a b)
  | .cleScalar c k t d a s => some (wordV3s 0x12C00000 c k t d a s)
  | .bfx c k t d a b => some (wordV3 0x02E00000 c k t d a b)
  | .bfxScalar c k t d a s => some (wordV3s 0x12E00000 c k t d a s)
  | .bfi c k t d a b => some (wordV3 0x03000000 c k t d a b)
  | .bfiScalar c k t d a s => some (wordV3s 0x13000000 c k t d a s)
  | .popc c k t d a => some (wordV2 0x03200000 c k t d a)
  | .clz c k t d a => some (wordV2 0x03400000 c k t d a)
  | .brev c k t d a => some (wordV2 0x03600000 c k t d a)
  | .sel c k t d a b => some (wordV3 0x03800000 c k t d a b)
  | .selScalar c k t d a s => some (wordV3s 0x13800000 c k t d a s)
  | .avg c k t d a b => some (wordV3 0x03A00000 c k t d a b)
  | .avgScalar c k t d a s => some (wordV3s 0x13A00000 c k t d a s)
  | .fadd c k t d a b => some (wordV3 0x04000000 c k t d a b)
  | .faddScalar c k t d a s => some (wordV3s 0x14000000 c k t d a s)
  | .fsub c k t d a b => some (wordV3 0x04200000 c k t d a b)
  | .fsubScalar c k t d a s => some (wordV3s 0x14200000 c k t d a s)
  | .fmul c k t d a b => some (wordV3 0x04400000 c k t d a b)
  | .fmulScalar c k t d a s => some (wordV3s 0x14400000 c k t d a s)
  | .fma c k t d a b => some (wordV3 0x04600000 c k t d a b)
  | .fmaScalar c k t d a s => some (wordV3s 0x14600000 c k t d a s)
  | .fms c k t d a b => some (wordV3 0x04800000 c k t d a b)
  | .fmsScalar c k t d a s => some (wordV3s 0x14800000 c k t d a s)
  | .fnma c k t d a b => some (wordV3 0x04A00000 c k t d a b)
  | .fnmaScalar c k t d a s => some (wordV3s 0x14A00000 c k t d a s)
  | .fmin c k t d a b => some (wordV3 0x04C00000 c k t d a b)
  | .fminScalar c k t d a s => some (wordV3s 0x14C00000 c k t d a s)
  | .fmax c k t d a b => some (wordV3 0x04E00000 c k t d a b)
  | .fmaxScalar c k t d a s => some (wordV3s 0x14E00000 c k t d a s)
  | .fminm c k t d a b => some (wordV3 0x05000000 c k t d a b)
  | .fminmScalar c k t d a s => some (wordV3s 0x15000000 c k t d a s)
  | .fmaxm c k t d a b => some (wordV3 0x05200000 c k t d a b)
  | .fmaxmScalar c k t d a s => some (wordV3s 0x15200000 c k t d a s)
  | .fabs c k t d a => some (wordV2 0x05400000 c k t d a)
  | .fneg c k t d a => some (wordV2 0x05600000 c k t d a)
  | .fceq c k t d a b => some (wordV3 0x05800000 c k t d a b)
  | .fceqScalar c k t d a s => some (wordV3s 0x15800000 c k t d a s)
  | .fclt c k t d a b => some (wordV3 0x05A00000 c k t d a b)
  | .fcltScalar c k t d a s => some (wordV3s 0x15A00000 c k t d a s)
  | .fcle c k t d a b => some (wordV3 0x05C00000 c k t d a b)
  | .fcleScalar c k t d a s => some (wordV3s 0x15C00000 c k t d a s)
  | .fcun c k t d a b => some (wordV3 0x05E00000 c k t d a b)
  | .fcunScalar c k t d a s => some (wordV3s 0x15E00000 c k t d a s)
  | .fcls c k t d a => some (wordV2 0x06000000 c k t d a)
  | .frnd c k t d a => some (wordV2 0x06200000 c k t d a)
  | .fcopysign c k t d a b => some (wordV3 0x06400000 c k t d a b)
  | .fcopysignScalar c k t d a s => some (wordV3s 0x16400000 c k t d a s)
  | .fscale c k t d a b => some (wordV3 0x06600000 c k t d a b)
  | .fscaleScalar c k t d a s => some (wordV3s 0x16600000 c k t d a s)
  | .fdot2 c k t d a b => some (wordV3 0x06800000 c k t d a b)
  | .fdot2Scalar c k t d a s => some (wordV3s 0x16800000 c k t d a s)
  | .cvt c k t d a u y => some (wordCvt 0x08000000 c k t d a u y)
  | .pack c k t d a b => some (wordV3 0x08200000 c k t d a b)
  | .unpackLo c k t d a => some (wordV2 0x08400000 c k t d a)
  | .unpackHi c k t d a => some (wordV2 0x08600000 c k t d a)
  | .rcp c k t d a => some (wordV2 0x08800000 c k t d a)
  | .rsqrt c k t d a => some (wordV2 0x08A00000 c k t d a)
  | .sqrt c k t d a => some (wordV2 0x08C00000 c k t d a)
  | .exp2 c k t d a => some (wordV2 0x08E00000 c k t d a)
  | .log2 c k t d a => some (wordV2 0x09000000 c k t d a)
  | .sin c k t d a => some (wordV2 0x09200000 c k t d a)
  | .cos c k t d a => some (wordV2 0x09400000 c k t d a)
  | .tanh c k t d a => some (wordV2 0x09600000 c k t d a)
  | .quant c k t d a b => some (wordV3 0x09800000 c k t d a b)
  | .dequant c k t d a b => some (wordV3 0x09A00000 c k t d a b)
  | .cbk c k d a b => some (wordCbk 0x09C80000 c k d a b)
  | .fdiv c k t d a b => some (wordV3 0x09E00000 c k t d a b)
  | .idiv c k t d a b => some (wordV3 0x0A000000 c k t d a b)
  | .irem c k t d a b => some (wordV3 0x0A200000 c k t d a b)
  | .shfl c k t d a b => some (wordV3 0x0C000000 c k t d a b)
  | .slideUp c k t d a b => some (wordV3 0x0C200000 c k t d a b)
  | .slideDn c k t d a b => some (wordV3 0x0C400000 c k t d a b)
  | .bcast c k t d a b => some (wordV3 0x0C600000 c k t d a b)
  | .redAdd c k t d a => some (wordV2 0x0C800000 c k t d a)
  | .redMin c k t d a => some (wordV2 0x0CA00000 c k t d a)
  | .redMax c k t d a => some (wordV2 0x0CC00000 c k t d a)
  | .redFadd c k t d a => some (wordV2 0x0CE00000 c k t d a)
  | .scanAdd c k t d a => some (wordV2 0x0D000000 c k t d a)
  | .voteAny c k d a => some (wordVoteAny 0x0D200000 c k d a)
  | .voteAll c k d a => some (wordVoteAny 0x0D400000 c k d a)
  | .ballot c k d a => some (wordVoteAny 0x0D600000 c k d a)
  | .sp24 c k t d a => some (wordSp24 0x0D800000 c k t d a)
  | .sort8 c k t d a => some (wordV2 0x0DA00000 c k t d a)
  | .matchEq c k t d a => some (wordV2 0x0DC00000 c k t d a)
  | .compress c k t d a b => some (wordV3 0x0DE00000 c k t d a b)
  | .expand c k t d a b => some (wordV3 0x0E000000 c k t d a b)
  | .transp c k t d a => some (wordV2 0x0E200000 c k t d a)
  | .merge2 c k t d a b => some (wordV3 0x0E400000 c k t d a b)
  | .addi c k d a w i => some (wordRi 0x18000000 c k d a w i)
  | .muli c k d a w i => some (wordRi 0x18400000 c k d a w i)
  | .andi c k d a w i => some (wordRi 0x18800000 c k d a w i)
  | .ori c k d a w i => some (wordRi 0x18C00000 c k d a w i)
  | .xori c k d a w i => some (wordRi 0x19000000 c k d a w i)
  | .shli c k d a w i => some (wordRi 0x19400000 c k d a w i)
  | .shri c k d a w i => some (wordRi 0x19800000 c k d a w i)
  | .srai c k d a w i => some (wordRi 0x19C00000 c k d a w i)
  | .shrri c k d a w i => some (wordRi 0x1A000000 c k d a w i)
  | .ceqi c k d a w i => some (wordRi 0x1A400000 c k d a w i)
  | .clti c k d a w i => some (wordRi 0x1A800000 c k d a w i)
  | .slidei c k d a w i => some (wordRi 0x1AC00000 c k d a w i)
  | .mini c k d a w i => some (wordRi 0x1B000000 c k d a w i)
  | .maxi c k d a w i => some (wordRi 0x1B400000 c k d a w i)
  | .sadd c d a i b => some (wordSc 0x1C000000 c d a i b)
  | .ssub c d a i b => some (wordSc 0x1C200000 c d a i b)
  | .smul c d a i b => some (wordSc 0x1C400000 c d a i b)
  | .smulh c d a i b => some (wordSc 0x1C600000 c d a i b)
  | .sand c d a i b => some (wordSc 0x1C800000 c d a i b)
  | .sor c d a i b => some (wordSc 0x1CA00000 c d a i b)
  | .sxor c d a i b => some (wordSc 0x1CC00000 c d a i b)
  | .sshl c d a i b => some (wordSc 0x1CE00000 c d a i b)
  | .sshr c d a i b => some (wordSc 0x1D000000 c d a i b)
  | .ssra c d a i b => some (wordSc 0x1D200000 c d a i b)
  | .smin c d a i b => some (wordSc 0x1D400000 c d a i b)
  | .smax c d a i b => some (wordSc 0x1D600000 c d a i b)
  | .sceq c d a i b => some (wordSc 0x1D800000 c d a i b)
  | .sclt c d a i b => some (wordSc 0x1DA00000 c d a i b)
  | .scltn c d a i b => some (wordSc 0x1DC00000 c d a i b)
  | .ssel c d a i b => some (wordSc 0x1DE00000 c d a i b)
  | .sbfx c d a i b => some (wordSc 0x1E000000 c d a i b)
  | .sbfi c d a i b => some (wordSc 0x1E200000 c d a i b)
  | .spopc c d a => some (wordSpopc 0x1E400000 c d a)
  | .sclz c d a => some (wordSpopc 0x1E600000 c d a)
  | .vtos c d a i b => some (wordSc 0x1E800000 c d a i b)
  | .stov c d a i b => some (wordSc 0x1EA00000 c d a i b)
  | .sdiv c d a i b => some (wordSc 0x1EC00000 c d a i b)
  | .srem c d a i b => some (wordSc 0x1EE00000 c d a i b)
  | .liS c d h i => some (wordLiS 0x20000000 c d h i)
  | .likS c d h i => some (wordLiS 0x20010000 c d h i)
  | .liV c k d h i => some (wordLiV 0x22000000 c k d h i)
  | .likV c k d h i => some (wordLiV 0x22010000 c k d h i)
  | .ld c d s m w o => some (wordMem 0x24000000 c d s m w o)
  | .st c d s m w o => some (wordMem 0x24400000 c d s m w o)
  | .ldtm c d s m w o => some (wordMem 0x24800000 c d s m w o)
  | .sttm c d s m w o => some (wordMem 0x24C00000 c d s m w o)
  | .ldacc c d s => some (wordLdacc 0x25000040 c d s)
  | .stacc c d s => some (wordLdacc 0x25400040 c d s)
  | .ldnt c d s m w o => some (wordMem 0x25800000 c d s m w o)
  | .stnt c d s m w o => some (wordMem 0x25C00000 c d s m w o)
  | .lds c d s m w o => some (wordMem 0x26000000 c d s m w o)
  | .sts c d s m w o => some (wordMem 0x26400000 c d s m w o)
  | .pref c s m o => some (wordPref 0x26800000 c s m o)
  | .ldg c d a s w x => some (wordGather 0x28000000 c d a s w x)
  | .stg c d a s w x => some (wordGather 0x28400000 c d a s w x)
  | .ldgtm c d a s w x => some (wordGather 0x28800000 c d a s w x)
  | .stgtm c d a s w x => some (wordGather 0x28C00000 c d a s w x)
  | .bra p o => some (wordBranch 0x2C000000 p o)
  | .brn p o => some (wordBranch 0x2C400000 p o)
  | .jmp o => some (wordJmp 0x2C800000 o)
  | .call o => some (wordJmp 0x2CC00000 o)
  | .jmpi a => some (wordJmpi 0x2D000000 a)
  | .ret => some (BitVec.ofNat 32 0x2D400000)
  | .join j o => some (wordJoin 0x2D800000 j o)
  | .loop l s n => some (wordLoop 0x2DC00000 l s n)
  | .exit => some (BitVec.ofNat 32 0x2E000000)
  | .braAny p o => some (wordBranch 0x2E400000 p o)
  | .braAll p o => some (wordBranch 0x2E800000 p o)
  | .trapc p c => some (wordTrapc 0x2EC00000 p c)
  | .amoadd c s o d a l w => some (wordAmo 0x30000000 c s o d a l w)
  | .amomin c s o d a u l w => some (wordAmomin 0x30200000 c s o d a u l w)
  | .amomax c s o d a u l w => some (wordAmomin 0x30400000 c s o d a u l w)
  | .amoand c s o d a l w => some (wordAmo 0x30600000 c s o d a l w)
  | .amoor c s o d a l w => some (wordAmo 0x30800000 c s o d a l w)
  | .amoxor c s o d a l w => some (wordAmo 0x30A00000 c s o d a l w)
  | .amoswap c s o d a l w => some (wordAmo 0x30C00000 c s o d a l w)
  | .amocas c s o d a l w => some (wordAmo 0x30E00000 c s o d a l w)
  | .amoinc c s o d a l w => some (wordAmo 0x31000000 c s o d a l w)
  | .amofadd c s o d a l w => some (wordAmofadd 0x31200002 c s o d a l w)
  | .lr c s o d a l w => some (wordAmo 0x31400000 c s o d a l w)
  | .sc c s o d a l w => some (wordAmo 0x31600000 c s o d a l w)
  | .fence c s o => some (wordFence 0x31800000 c s o)
  | .pub c s d a => some (wordPub 0x31A00000 c s d a)
  | .ldref c s o d a => some (wordObj 0x31C00000 c s o d a)
  | .stref c s o d a => some (wordObj 0x31E00000 c s o d a)
  | .xpub c s d a => some (wordPub 0x32000000 c s d a)
  | .arrive c s o d a => some (wordObj 0x32200000 c s o d a)
  | .await c s o d a => some (wordObj 0x32400000 c s o d a)
  | .bar c s o => some (wordFence 0x32600000 c s o)
  | .tagq c d a => some (wordTagq 0x32800000 c d a)
  | .untag c d => some (wordUntag 0x32A00000 c d)
  | .xcpy c a => some (wordXcpy 0x34000000 c a)
  | .xnbmv c a => some (wordXcpy 0x34200000 c a)
  | .xwait c n => some (wordXwait 0x34400000 c n)
  | .nbarArrive c n k => some (wordNbarArrive 0x34600000 c n k)
  | .nbarWait c a k => some (wordNbarWait 0x34800000 c a k)
  | .tstart c a => some (wordXcpy 0x34A00000 c a)
  | .launch c a => some (wordXcpy 0x34C00000 c a)
  | .lwait c n => some (wordXwait 0x34E00000 c n)
  | .tslot n o => some (wordTslot 0x38000000 n o)
  | .tmma a b r c i k => some (wordTmma 0x38200000 a b r c i k)
  | .tmmas a b r c i q k => some (wordTmmas 0x38400000 a b r c i q k)
  | .tzero r c => some (wordTzero 0x38600000 r c)
  | .tscale n r c => some (wordTscale 0x38800000 n r c)
  | .tcvt n r c => some (wordTscale 0x38A00000 n r c)
  | .tacc n r c => some (wordTscale 0x38C00000 n r c)
  | .twait k g => some (wordTwait 0x38E00000 k g)
  | .tarriveBarrier k n => some (wordTarriveBarrier 0x39000000 k n)
  | .tarriveObject n => some (wordTarriveObject 0x39100000 n)
  | .tloop c l => some (wordTloop 0x39200000 c l)
  | .tend => some (BitVec.ofNat 32 0x39400000)
  | .tcbk n o => some (wordTcbk 0x39600000 n o)
  | .prio c p => some (wordPrio 0x3C000000 c p)
  | .rsys d i => some (wordRsys 0x3C200000 d i)
  | .wsys a i => some (wordWsys 0x3C400000 a i)
  | .trap c => some (wordTrap 0x3C600000 c)
  | .eret => some (BitVec.ofNat 32 0x3C800000)
  | .phase p => some (wordPhase 0x3CA00000 p)
  | .tokq d s => some (wordTokq 0x3CC00000 d s)
  | .clock d s => some (wordClock 0x3CE00000 d s)
  | .yield => some (BitVec.ofNat 32 0x3D000000)
  | .sleep n => some (wordSleep 0x3D200000 n)
  | .brk c => some (wordTrap 0x3D400000 c)
  | .udf c k x => some (wordUdf 0x3FE00000 c k x)
  | .muovoNop => some (BitVec.ofNat 32 0x00000000)
  | .muovoLi d i => some (wordMuovoLi 0x04000000 d i)
  | .muovoMov d a => some (wordMuovoMov 0x08000000 d a)
  | .muovoAdd d a b => some (wordMuovo3 0x0C000000 d a b)
  | .muovoSub d a b => some (wordMuovo3 0x10000000 d a b)
  | .muovoMul d a b => some (wordMuovo3 0x14000000 d a b)
  | .muovoAnd d a b => some (wordMuovo3 0x18000000 d a b)
  | .muovoOr d a b => some (wordMuovo3 0x1C000000 d a b)
  | .muovoXor d a b => some (wordMuovo3 0x20000000 d a b)
  | .muovoShl d a b => some (wordMuovo3 0x24000000 d a b)
  | .muovoShr d a b => some (wordMuovo3 0x28000000 d a b)
  | .muovoMin d a b => some (wordMuovo3 0x2C000000 d a b)
  | .muovoMax d a b => some (wordMuovo3 0x30000000 d a b)
  | .muovoSlt d a b => some (wordMuovo3 0x34000000 d a b)
  | .muovoSle d a b => some (wordMuovo3 0x38000000 d a b)
  | .muovoSeq d a b => some (wordMuovo3 0x3C000000 d a b)
  | .muovoSel d a b => some (wordMuovo3 0x40000000 d a b)
  | .muovoAddi d a i => some (wordMuovoAddi 0x44000000 d a i)
  | .muovoLdc d i => some (wordMuovoLi 0x48000000 d i)
  | .muovoLda d a s o => some (wordMuovoLda 0x4C000000 d a s o)
  | .muovoSta d a s o => some (wordMuovoLda 0x50000000 d a s o)
  | .muovoLdp d a f => some (wordMuovoLdp 0x54000000 d a f)
  | .muovoStdec a r => some (wordMuovoStdec 0x58000000 a r)
  | .muovoBf a k => some (wordMuovoBf 0x5C000000 a k)
  | .muovoBt a k => some (wordMuovoBf 0x60000000 a k)
  | .muovoJf k => some (wordMuovoJf 0x64000000 k)
  | .muovoLoop l n => some (wordMuovoLoop 0x68000000 l n)
  | .muovoRet => some (BitVec.ofNat 32 0x6C000000)
  | .rfetch b a d => some (wordRfetch 0x0000000B b a d)
  | .xhallBfx b a d => some (wordRfetch 0x0000100B b a d)
  | .swait b a d => some (wordRfetch 0x0000200B b a d)
  | .disp a d => some (wordDisp 0x0000300B a d)
  | .abortTeam _ _ => none
  | .abortGrid _ => none
  | .swaitEnd _ _ => none
  | .fairnessPromotion _ _ => none
  | .savingEntry _ _ => none
  | .sequencerSavingEntry _ => none
  | .reservationLapse _ _ => none
  | .sleepExpiry _ _ => none
  | .arcadeRingCycle _ => none
  | .gbudgetWrite _ _ => none
  | .byteBudgetInterval => none
  | .memoryAccessPerformed _ _ => none
  | .loadDataReturn _ _ => none
  | .instructionFetch _ _ => none
  | .walk _ _ => none
  | .awaitEnd _ _ => none
  | .barComplete _ => none
  | .xwaitEnd _ _ => none
  | .nbarWaitEnd _ _ => none
  | .lwaitEnd _ _ => none
  | .launchDecided _ _ => none
  | .clockComplete _ _ => none
  | .copyUnitDeliver _ => none
  | .metadataEntryPush _ => none
  | .codebookWrite _ => none
  | .peerLineAck _ _ => none
  | .nearBankTranslate _ => none
  | .nearBankRowDeliver _ => none
  | .arrivalObjectUpdate _ => none
  | .tileTaskIssue _ _ => none
  | .tileTaskRetire _ _ => none
  | .teamEnd _ => none
  | .gridRetire _ => none
  | .notifyWrite _ _ _ _ => none
  | .badpkt _ => none
  | .launchPacket _ => none
  | .copyPacket _ _ => none
  | .queueCopyComplete _ => none
  | .signalPacket _ => none
  | .waitPacket _ => none
  | .waitConditionMet _ => none
  | .policyLoad _ => none
  | .policyLoadInstalled _ => none
  | .faultReply _ => none
  | .publishCode _ _ => none
  | .publishCodeComplete _ => none
  | .completionRecordWrite _ _ => none
  | .eventRingTimeTrigger _ _ => none
  | .loadAqi _ => none
  | .loadAqiComplete => none
  | .invPasid _ _ _ _ => none
  | .invPasidComplete _ _ => none
  | .invS2 _ => none
  | .invS2Complete => none
  | .invIrte _ => none
  | .loadPool _ => none
  | .loadPeer _ => none
  | .cfgcmdBadOp _ => none
  | .erctlWrite _ _ _ _ => none
  | .fqctlWrite _ _ _ => none
  | .fdropRead _ => none
  | .irblkRead => none
  | .registerWrite _ _ _ => none
  | .functionLevelReset _ => none
  | .hostCxlMemAccess _ _ _ _ _ => none
  | .bisnpResponse _ => none
  | .hostPortTrained _ => none
  | .scaleupPortTrained _ => none
  | .scaleupPortFailed _ => none
  | .peerLineInbound _ _ _ _ => none
  | .enqDecision _ => none
  | .hypPickDecision => none
  | .pickDecision _ => none
  | .tickDecision _ => none
  | .hypTickDecision => none
  | .blockDecision _ => none
  | .wakeDecision _ => none
  | .migrateDecision _ => none
  | .tenantTickExpiry _ _ => none
  | .hypTickExpiry => none
  | .blockWaitTimeout _ => none
  | .contextSaveComplete _ => none
  | .frameMoveComplete _ => none
  | .discmd _ => none
  | .discardComplete => none
  | .homeq _ => none
  | .watchdogExpiry _ => none
  | .softErrorCorrectable _ _ _ => none
  | .softErrorUncorrectable _ _ _ _ _ _ => none
  | .deviceReset => none
  | .bootStageComplete => none
  | .doeDiscovery _ => none
  | .getVersion _ => none
  | .getCapabilities _ => none
  | .negotiateAlgorithms _ _ _ _ => none
  | .getDigests _ => none
  | .getCertificate _ _ _ _ => none
  | .challenge _ _ _ => none
  | .getMeasurements _ _ _ _ _ => none
  | .spdmUnsupportedRequest _ _ => none
  | .doeAbort => none
  | .clctlPoolWrite _ _ => none
  | .poolTakesEffect _ => none
  | .stallSample => none
  | .optctlClr _ => none
  | .frequencySwitch _ => none
  | .railHoldExpiry _ => none
  | .railReachesTarget _ => none
  | .trimctlWrite _ => none
  | .trimReview => none
  | .trimDisableExpiry _ => none
  | .thermalSensorChange _ _ => none
  | .thermalEmergency _ => none
  | .railErrorCountRead _ _ => none
  | .accountingSnapshot _ => none
  | .rv64gcInstruction _ => none
  | .msixVectorUnmask _ _ _ => none
  | .peerRefused _ => none

/-- Why a word is no instruction of the stream it stands in (R185, checks 1 and 2; R187 gives the codes). -/
inductive DecodeError where
  /-- A major 14 word in a group stream, or another major in a tile stream: cause 0x008. -/
  | wrongStream
  /-- A function number the map of R184 does not assign, or `udf`. -/
  | unassigned (major : Nat)
  /-- A reserved field value (R183). -/
  | reservedField (major : Nat)
deriving DecidableEq, Repr

/-- The class 0 cause code of a decoding error (R187). -/
def DecodeError.code : DecodeError → Nat
  | .wrongStream => 0x008
  | .unassigned m => m
  | .reservedField m => 0x010 + m

/-- MAJ, bits [29:26] (R175). -/
def majorOf (w : Word) : Nat := (fld w 26 4).toNat

/-- The group-stream word with function number and major as R184 numbers them. -/
def candidateGroup (w : Word) : Option Instr :=
  match majorOf w with
  | 0 => candidate0 w | 1 => candidate1 w | 2 => candidate2 w | 3 => candidate3 w | 4 => candidate4 w
  | 5 => candidate5 w | 6 => candidate6 w | 7 => candidate7 w | 8 => candidate8 w | 9 => candidate9 w
  | 10 => candidate10 w | 11 => candidate11 w | 12 => candidate12 w | 13 => candidate13 w
  | 15 => candidate15 w | _ => none

/-- A unary word of major 4 or 5 acts as the same word of major 0 or 1 (R196, R208): its B field is unused. -/
def canonicalMajor (w : Word) : Word :=
  let fn := (fld w 21 5).toNat
  if majorOf w = 4 ∧ (fn = 25 ∨ fn = 26 ∨ fn = 27) then w &&& 0xEFFFFFFF#32
  else if majorOf w = 5 ∧ (fn = 10 ∨ fn = 11 ∨ fn = 16 ∨ fn = 17) then w &&& 0xEFFFFFFF#32
  else w

/-- Words whose rows fix C at 0: the control transfers of R176. A set C bit there is packet misuse, which R185 judges
after the fields, so the fields are read as if C were 0. -/
def chainBarred (w : Word) : Bool := majorOf w == 11 || (majorOf w == 15 && fld w 21 5 != 0)

/-- The word whose fixed bits check 2 of R185 compares. -/
def fieldWord (w : Word) : Word :=
  let v := canonicalMajor w
  if chainBarred w && fld w 21 5 != 31 then v &&& 0x7FFFFFFF#32 else v

/-- Checks 1 and 2 of R185 on a word of a group stream: identity, then reserved field values. -/
def decodeGroup (w : Word) : Except DecodeError Instr :=
  if majorOf w = 14 then .error .wrongStream
  else if majorOf w = 15 ∧ fld w 21 5 = 31 then .error (.unassigned 15)
  else match candidateGroup (canonicalMajor w) with
    | none => .error (.unassigned (majorOf w))
    | some i => if encode i = some (fieldWord w) ∧ i.wf then .ok i else .error (.reservedField (majorOf w))

/-- Checks 1 and 2 of R185 on a word of a tile stream. C is judged by check 4. -/
noncomputable def decodeTile (w : Word) : Except DecodeError Instr :=
  if majorOf w = 15 ∧ fld w 21 5 = 31 then .error (.unassigned 15)
  else if majorOf w ≠ 14 then .error .wrongStream
  else match candidate14 w with
    | none => .error (.unassigned 14)
    | some i => if encode i = some (w &&& 0x7FFFFFFF#32) ∧ i.wf then .ok i else .error (.reservedField 14)

/-- A word of a Muovo routine (R356): none when the operation is unassigned or an unused field is not 0. -/
noncomputable def decodeMuovo (w : Word) : Option Instr :=
  match candidateMuovo w with
  | none => none
  | some i => if encode i = some w then some i else none

/-- A word of the Xhall extension (R395): none for any other firmware word. -/
noncomputable def decodeXhall (w : Word) : Option Instr :=
  match candidateXhall w with
  | none => none
  | some i => if encode i = some w then some i else none

/-- `udf` (R178): no check reads its other bits, and the stream decoder refuses it by its cause. -/
def decodeUdf (w : Word) : Option Instr :=
  if majorOf w = 15 ∧ fld w 21 5 = 31 then some (readUdf .udf w) else none

/-- The streams a word may stand in, in the order in which a bare table word is offered to them. -/
inductive Stream where
  /-- A group stream. -/
  | group
  /-- A tile stream. -/
  | tile
  /-- Firmware of a firmware core. -/
  | firmware
  /-- A Muovo routine of a policy engine. -/
  | policy
deriving DecidableEq, Repr

/-- The first stream whose decoder takes a bare word, with the instruction it reads. -/
noncomputable def decodeAnywhere (w : Word) : Option (Stream × Instr) :=
  match decodeUdf w with
  | some i => some (.group, i)
  | none =>
    match decodeGroup w with
    | .ok i => if encode i = some (canonicalMajor w) then some (.group, i) else none
    | .error _ =>
      match decodeTile w with
      | .ok i => if encode i = some w then some (.tile, i) else none
      | .error _ =>
        match decodeXhall w with
        | some i => some (.firmware, i)
        | none => (decodeMuovo w).map (fun i => (.policy, i))

/-- The instruction that the decoders read from a word of the table. -/
noncomputable def decodeTableWord (nbits w : Nat) : Option Instr :=
  if nbits ≤ 32 ∧ w < 2 ^ 32 then (decodeAnywhere (BitVec.ofNat 32 w)).map (·.2) else none


end Sys2Proof
end

