-- ==== Sys2Proof/Config.lean ====
section
/-! DEFINITION. What a part fixes and the spec does not state: the free values. None has a body, so no proof can lean on
what one of them is. -/

namespace Sys2Proof.Config

/-- The n-th value that the machine takes where the spec leaves a number open; each use advances State.free. -/
opaque freeNat : Nat → Nat

/-- The home slice of a line on its home die: a fixed function of the PA, not architected (R101). -/
opaque sliceOf : Nat → Nat

/-- The rounded result of a special function (R220): operation, format, input bits, FZI, FZO. The spec bounds its error
and leaves the value open. -/
opaque special : Nat → Nat → Nat → Bool → Bool → Nat

/-- Whether an access uses the cached translation when the tables hold another by now (R386): step number, page. -/
opaque useCached : Nat → Nat → Bool

/-- Whether a walk goes through all its stages in one step or through one of them (R138, R388): step number. -/
opaque walkWhole : Nat → Bool

/-- Whether a line access misses the home L2 and moves a line of HBM (R89): use number, line. -/
opaque missesL2 : Nat → Nat → Bool

/-- Whether a test of an arrival object that does not end a wait reads the object's line at its home (R89, R261, R301): step number,
line. -/
opaque testReads : Nat → Nat → Bool

end Sys2Proof.Config
end

