-- ==== Sys2Proof/Machine/State.lean ====
section
/-! DEFINITION. Everything the spec gives the machine, as plain data, and the machine right after reset. Units are keyed by
number: core 0-159 (R16), quadrant key = core × 4 + quadrant, group key = core × 64 + quadrant × 16 + slot,
team key = core × 64 + slot. A key a table does not list holds the unit's reset value. -/

namespace Sys2Proof.Machine

/-! ## Groups -/

/-- One bypass latch (R64, R65): its value, the hold chain whose bundle wrote it, and the packet of that bundle. -/
structure Latch where
  /-- The 2048-bit result. -/
  val : VReg
  /-- Number of the hold chain of the producing bundle; 0 when dropped (R67). -/
  chain : Nat
  /-- PC of the producing packet, bits [3:0] cleared. -/
  packet : Dword
deriving DecidableEq, Repr

/-- The registers of a group (R19). -/
structure Regs where
  /-- s0-s63. -/
  s : NMap Dword
  /-- Tag bit of s-register n at bit n. -/
  stags : BitVec 64
  /-- v0-v55. -/
  v : NMap VReg
  /-- Tag bits of the 32 lanes of each vector register. -/
  vtags : NMap LaneMask
  /-- p0-p15: 32-bit lane masks (R266). -/
  p : NMap LaneMask
  /-- m0-m7 (R236). -/
  m : NMap Dword
  /-- lc0-lc2 (R249). -/
  lc : NMap Dword
  /-- FPC (R155). -/
  fpc : BitVec 5
  /-- NFLAGS (R156). -/
  nflags : BitVec 8
  /-- SEED (R161). -/
  seed : Dword
  /-- b0-b5 (R64). -/
  latch : NMap Latch
deriving DecidableEq, Repr

/-- One active hardware loop (R61, R63). -/
structure LoopLevel where
  /-- Counter number 0-2. -/
  lc : Nat
  /-- PC of the first body word. -/
  first : Dword
  /-- Body words minus one. -/
  len : Nat
deriving DecidableEq, Repr

/-- One failure of one lane of a bundle (R56, R57). -/
structure Fail where
  /-- The lane, 0-31. -/
  lane : Nat
  /-- The cause code (R367); none for a team-memory violation, which has no code. -/
  cause : Option Nat
  /-- VA field of the record (R377). -/
  va : Dword
  /-- KIND field (R369). -/
  kind : Nat
  /-- Found at stage 2. -/
  s2 : Bool
  /-- SZ field (R377). -/
  sz : Nat
deriving DecidableEq, Repr

/-- The fields of a fault record that its raiser knows (R377). -/
structure FaultRec where
  /-- VA, bits [56:0]. -/
  va : Dword
  /-- KIND. -/
  kind : Nat
  /-- Found at stage 2. -/
  s2 : Bool
  /-- SZ. -/
  sz : Nat
  /-- PC; none for "PC 0". -/
  pc : Option Dword
  /-- Header VA that PCOFF counts from. -/
  hdr : Dword
  /-- PARK. -/
  park : Bool
  /-- Lane mask. -/
  lanes : LaneMask
  /-- Grid id. -/
  grid : BitVec 32
  /-- Linear team id, or AQI. -/
  team : Nat
  /-- GROUP field, 0-32. -/
  group : Nat
  /-- Cause code. -/
  cause : Nat
  /-- Team-memory report (R380). -/
  tmv : Bool
  /-- Function. -/
  fn : Nat
  /-- PASID. -/
  pasid : BitVec 20
  /-- TIME[31:10] when raised. -/
  tstamp : BitVec 22
deriving DecidableEq, Repr

/-- The register value that an AM 2 or AM 3 word had before its bundle (R235). -/
structure SavedBase where
  /-- True for an m-register, false for an s-register. -/
  isM : Bool
  /-- Register number. -/
  reg : Nat
  /-- Value before the bundle. -/
  val : Dword
deriving DecidableEq, Repr

/-- A parked sub-group (R58). -/
structure Parked where
  /-- Its lanes. -/
  mask : LaneMask
  /-- PC of the faulting bundle or fetch. -/
  pc : Dword
  /-- Priority of its lanes. -/
  prio : BitVec 12
  /-- Its fault record. -/
  record : FaultRec
  /-- Its copy of lc0-lc2. -/
  lc : NMap Dword
  /-- Its copy of the loop context, outermost level first (R63). -/
  loops : List LoopLevel
  /-- The saved SB or m-register (R235). -/
  base : Option SavedBase
  /-- A reply recorded while the team's context was saved (R383): some true replays, some false cancels. -/
  reply : Option Bool
deriving DecidableEq, Repr

/-- What a replayed entry brings to its replay issue (R59, R194 of R63, R235, R267). -/
structure Replay where
  /-- Copy of lc0-lc2. -/
  lc : NMap Dword
  /-- Loop context. -/
  loops : List LoopLevel
  /-- Saved SB or m-register. -/
  base : Option SavedBase
  /-- The cause was a trap, so the trap word acts as nop. -/
  trap : Bool
deriving DecidableEq, Repr

/-- What an issued, uncommitted bundle waits for (R45, R261, R268, R272). -/
inductive WaitKind where
  /-- The homes it addresses serve it (R90, R115, R128, R319). -/
  | home
  /-- `await` (R261). -/
  | await
  /-- `xwait` (R274). -/
  | xwait
  /-- `nbar.wait` (R294). -/
  | nbar
  /-- `lwait` (R276). -/
  | lwait
  /-- `launch` (R275). -/
  | launch
  /-- `clock` (R268). -/
  | clock
  /-- `pub`: its walks (R138). -/
  | pub
  /-- `ldacc`, `stacc` on a tile a task still uses (R111). -/
  | acc
deriving DecidableEq, Repr

/-- A line that a memory-side arbiter has not served yet (R89, R90). -/
structure DueLine where
  /-- Class: 0 HBM, 1 near-bank, 2 die-to-die. -/
  cls : Nat
  /-- Line number PA / 64. -/
  line : Nat
  /-- It has waited past the end of an interval, and BDELAY has counted it (R92). -/
  late : Bool
deriving DecidableEq, Repr

/-- How far the homes and arbiters have served the accesses of a bundle or an engine request (R90, R115, R116). -/
structure Svc where
  /-- Its arrival number among the accesses that wait; none while it has not had to wait. -/
  ticket : Option Nat
  /-- Frames at whose home it is queued. -/
  frames : List Nat
  /-- Its turn has come, and its write waits for the host's answer to a snoop (R319). -/
  snooping : Bool
  /-- Lines that have arrived at their home or arbiter. -/
  seen : List Nat
  /-- Lines that an arbiter has not served. -/
  due : List DueLine
deriving DecidableEq, Repr

/-- An agent that waits at a home or an arbiter with neither a bundle nor an engine request of its own (R90, R115). -/
inductive Sender where
  /-- The fetch of a group at a VA. -/
  | group (gk va : Nat)
  /-- The fetch of a core's tile sequencer at a VA. -/
  | tile (core va : Nat)
  /-- The test of the arrival object at a VA that a slot of a task waits for (R301). -/
  | slot (core va : Nat)
  /-- The update of an object by a task, by its number (R308). -/
  | task (core num : Nat)
  /-- What the packet of a number at the head of its queue reads or updates (R329, R333). -/
  | head (n : Nat)
  /-- The work of a started packet. -/
  | job (n : Nat)
  /-- The dispatcher's reads for the `launch` of a group at a PC (R275). -/
  | launch (gk pc : Nat)
  /-- The completion object of a grid (R29). -/
  | grid (id : Nat)
  /-- The oldest completion record of an event ring, by function × 16 + ring (R334). -/
  | ring (k : Nat)
  /-- The next fault record of a function (R379). -/
  | fault (fn : Nat)
  /-- The context image of a slot (R392). -/
  | image (slot : Nat)
  /-- The access of a firmware core at a PC (R394). -/
  | hart (f pc : Nat)
  /-- A host access to a line, by its PA (R319). -/
  | host (pa : Nat)
  /-- An inbound line of a peer device for a VA (R340). -/
  | peer (d va : Nat)
  /-- The exit step of a team of a grid, by both ids (R135). -/
  | exit (grid team : Nat)
deriving DecidableEq, Repr

/-- A landing (R51) with the lanes it holds (R54). -/
structure Landing where
  /-- AWAIT. -/
  await : LaneMask
  /-- JPRIO. -/
  jprio : BitVec 12
  /-- JOFF: (join PC − header VA) / 4. -/
  joff : BitVec 20
  /-- Lanes held by it. -/
  held : LaneMask
deriving DecidableEq, Repr

/-- What `rsys`, `tokq` and `amocas` read beside registers, as it stood when the bundle issued (R48, R91, R266, R268). -/
structure Sampled where
  /-- PARKED. -/
  parked : LaneMask
  /-- FAULTMASK. -/
  faultmask : LaneMask
  /-- The landings. -/
  landings : List Landing
  /-- PHASE. -/
  phase : BitVec 12
  /-- TOKBANK. -/
  tokbank : Nat
  /-- CLOCK. -/
  clock : Dword
  /-- TIME. -/
  time : Nat
  /-- QSPENT, QSAVCYC, QSAVEPI, SQSAVCYC, SQSPENT. -/
  toks : List Nat
deriving DecidableEq, Repr

/-- How far the walk that has its turn has come (R138). -/
inductive WalkStage where
  /-- It has not begun. -/
  | start
  /-- Its Trace is done: the objects it marked, and the failure it ended with. -/
  | traced (n : Nat) (fail : Option Fail)
  /-- Its Seal is done. -/
  | sealed
  /-- It has stored, or failed. -/
  | ended (fail : Option Fail)
deriving DecidableEq, Repr

/-- An issued bundle that has not committed: the state it reads is that before its issue (R48, R49). -/
structure Pend where
  /-- What it waits for. -/
  kind : WaitKind
  /-- Lanes that will perform it. -/
  act : LaneMask
  /-- Registers before the issuing cycle. -/
  src : Regs
  /-- Its words. -/
  words : List Instr
  /-- PC after the bundle. -/
  npc : Dword
  /-- Walks of `pub` not yet ended: (lane, target address, root). -/
  walks : List (Nat × Dword × Dword)
  /-- Failures of walks that ended with a fault. -/
  fails : List Fail
  /-- The walks of its `pub` have all ended (R138). -/
  walked : Bool
  /-- Its `bar` arrived when the bundle issued (R262). -/
  arrived : Bool
  /-- The barrier of its `nbar.wait` broke while it waited (R296). -/
  broken : Bool
  /-- How far the first of `walks` has come. -/
  stage : WalkStage
  /-- Issue order of a `pub`, by the arrival numbers of waiting accesses (R138 step 3). -/
  turn : Nat
  /-- The dispatcher's answer to `launch`: some 0 accepted, some cause refused. -/
  answer : Option Nat
  /-- Lanes whose `await` has ended, with the word 2 that ended it. -/
  got : NMap Nat
  /-- The replay data of a replayed bundle. -/
  replay : Option Replay
  /-- SB or m-register before its increment, which happened at issue (R235). -/
  base : Option SavedBase
  /-- Its hold chain (R65). -/
  chain : Nat
  /-- Its memory service. -/
  svc : Svc
  /-- What its `rsys` and `tokq` read. -/
  sampled : Option Sampled
deriving DecidableEq, Repr

/-- A frontier entry (R45). -/
structure Entry where
  /-- Block priority. -/
  prio : BitVec 12
  /-- PC of its next bundle. -/
  pc : Dword
  /-- Its lanes. -/
  mask : LaneMask
  /-- Its lanes are held by a landing (R54). -/
  held : Bool
  /-- It is the loop owner (R61). -/
  owner : Bool
  /-- Fairness count (R68). -/
  count : Nat
  /-- Promotion number, when promoted. -/
  promoted : Option Nat
  /-- It waits after a `bar` (R262). -/
  barWait : Bool
  /-- Cycles of ineligibility left under `yield` or `sleep`, the current cycle included (R269). -/
  sleep : Nat
  /-- Replay data until its replayed bundle issues (R59). -/
  replay : Option Replay
  /-- Its issued, uncommitted bundle. -/
  pend : Option Pend
deriving DecidableEq, Repr

/-- A lane's reservation (R71, R113, R257). -/
structure Reservation where
  /-- On a team-memory granule. -/
  tm : Bool
  /-- Granule number: address / 64, of the PA or of the team-memory offset. -/
  granule : Nat
  /-- Slice that holds it, for a global one (R101). -/
  slice : Nat
  /-- Cycles since the `lr`. -/
  age : Nat
  /-- Order of the `lr` among all reservations. -/
  order : Nat
deriving DecidableEq, Repr

/-- A load whose destination is not ready yet (R46, R237). -/
structure InFlight where
  /-- The destination is an s-register. -/
  scalar : Bool
  /-- Register number. -/
  reg : Nat
  /-- Lanes that issued it. -/
  mask : LaneMask
  /-- Its element requests to global memory (R3, R245). -/
  elems : Nat
deriving DecidableEq, Repr

/-- The run of bundles that an entry is in (R65): a bundle of the entry that issues in the next cycle is part of the same hold chain. -/
structure ChainRun where
  /-- Lanes of the entry after its last bundle. -/
  mask : LaneMask
  /-- Number of the hold chain. -/
  chain : Nat
  /-- Quadrant cycle in which its last bundle issued. -/
  cycle : Nat
deriving DecidableEq, Repr

/-- A resident group. -/
structure Group where
  /-- The slot is in use. -/
  present : Bool
  /-- Key of its team. -/
  tk : Nat
  /-- Group id within the team. -/
  gid : Nat
  /-- Admission number in its quadrant (R69). -/
  admission : Nat
  /-- Quadrant cycle of its last issue, or of its admission. -/
  lastIssue : Nat
  /-- Registers. -/
  regs : Regs
  /-- Frontier, held entries included. -/
  frontier : List Entry
  /-- Landings in push order (R52). -/
  landings : List Landing
  /-- Parked sub-groups, in the order in which they parked (R58). -/
  parked : List Parked
  /-- Active loops of the owner, outermost first (R61, R63). -/
  loops : List LoopLevel
  /-- FAULTMASK. -/
  faultmask : LaneMask
  /-- Lanes that ended by fault (R381). -/
  faulted : LaneMask
  /-- Reservations by lane. -/
  resv : NMap Reservation
  /-- Loads in flight. -/
  inFlight : List InFlight
  /-- The `pub`s with walks left whose lanes have been ended from outside (R135, R140). -/
  walks : List Pend
  /-- The last number given to a hold chain of the group (R65). -/
  chain : Nat
  /-- Hold chains that may go on in the next cycle (R65). -/
  runs : List ChainRun
  /-- It has arrived at the team's `bar` (R262). -/
  barArrived : Bool
  /-- Scope and ordering of the `bar` it waits at. -/
  barOrder : Nat × Nat
deriving DecidableEq, Repr

/-- The context in which instruction words are executed: the bundle that the quadrant has on the issue port. -/
structure Cur where
  /-- Group key. -/
  gk : Nat
  /-- Core whose tile sequencer executes, for tile-stream words. -/
  core : Nat
  /-- Policy engine or firmware core that executes, for their words. -/
  unit : Nat
  /-- The entry that executes, taken out of the frontier. -/
  entry : Entry
  /-- Lanes that perform the bundle: the entry's lanes without the failing ones (R49). -/
  act : LaneMask
  /-- PC of the bundle. -/
  pc : Dword
  /-- PC of the word being executed. -/
  wpc : Dword
  /-- PC after the bundle. -/
  npc : Dword
  /-- Registers before the cycle (R48). -/
  src : Regs
  /-- Failures raised so far, one per lane (R57). -/
  fails : List Fail
  /-- Lanes that go elsewhere than npc, with their targets. -/
  moves : List (LaneMask × Dword)
  /-- Lanes that `exit` ends. -/
  exited : LaneMask
  /-- Priority set by `prio`. -/
  newPrio : Option (BitVec 12)
  /-- The bundle holds a `bar`. -/
  bar : Bool
  /-- Ineligible cycles from `yield` or `sleep`, the current cycle included. -/
  sleep : Nat
  /-- SB or m-register before the increment of this bundle (R235). -/
  base : Option SavedBase
  /-- The increment was performed in this try of the bundle, which then wrote the register (R129, R235). -/
  stepped : Bool
  /-- The group has arrived at a `bar` by this bundle (R262). -/
  arrived : Bool
  /-- The barrier that its `nbar.wait` waits for broke meanwhile (R296). -/
  broken : Bool
  /-- The entry becomes loop owner with this new innermost level. -/
  newLoop : Option LoopLevel
  /-- Its words, for a bundle that must wait. -/
  words : List Instr
  /-- Registers before the bundle, after the other bundle of the cycle. -/
  pre : Regs
  /-- The walks of a waiting `pub` have all ended. -/
  walked : Bool
  /-- Failures that those walks ended with. -/
  walkFails : List Fail
  /-- The dispatcher's answer to a waiting `launch`: some 0 accepted, some cause refused. -/
  answer : Option Nat
  /-- Lanes whose `await` has ended, with the word 2 that ended it (R261). -/
  got : NMap Nat
  /-- The bundle is only checked: its words report their failures and change nothing (R49, R57). -/
  dry : Bool
  /-- A word of the bundle must wait. -/
  blocked : Option WaitKind
  /-- Walks that a blocked `pub` asks for. -/
  walks : List (Nat × Dword × Dword)
  /-- The replay data of the executing entry. -/
  replay : Option Replay
  /-- Number of the hold chain that the bundle belongs to (R65). -/
  chain : Nat
  /-- Memory service of the bundle so far. -/
  svc : Svc
  /-- Homes and arbiters serve the bundle's accesses; while only its failures are looked for, they do not. -/
  serves : Bool
  /-- What `rsys` and `tokq` read when it is not the present state. -/
  sampled : Option Sampled
  /-- SEED that the next word that rounds draws with (R161). -/
  seed : Dword
  /-- Loads of the group that were in flight before the bundle (R268). -/
  flights : Nat
deriving DecidableEq, Repr

/-! ## Teams and grids -/

/-- A team (R19, R22): resident in a slot of its core, or held in a context image. -/
structure Team where
  /-- The slot is in use. -/
  present : Bool
  /-- Its grid. -/
  grid : BitVec 32
  /-- Linear team id (R25). -/
  id : Nat
  /-- Keys of its groups, by group id. -/
  gks : List Nat
  /-- First quadrant q0 (R22). -/
  q0 : Nat
  /-- Team memory: bytes listed are not 0 (R26). -/
  tmem : List Host.Cell
  /-- Cloister id, when it has one (R131). -/
  cid : Option (BitVec 16)
  /-- PHASE (R265). -/
  phase : BitVec 12
  /-- Its tile sequencer stopped under R311. -/
  seqFault : Bool
  /-- Its save is in progress (R392): its context slot, and whether it becomes dormant (R351). -/
  draining : Option (Nat × Bool)
  /-- Nanoseconds of TIME that count towards its silence (R376). -/
  silent : Nat
  /-- Nanoseconds of TIME for which every live group has waited (R346, BLOCK). -/
  waited : Nat
deriving DecidableEq, Repr

/-- A live grid: the dispatcher's accepted copy of its header and LPB, and its progress (R27-R36). -/
structure Grid where
  /-- It is live. -/
  present : Bool
  /-- Header VA. -/
  hdr : Dword
  /-- KID. -/
  kid : BitVec 32
  /-- Declared vector registers N (R31). -/
  nv : Nat
  /-- Declared scalar registers. -/
  ns : Nat
  /-- Landing depth. -/
  ld : Nat
  /-- Team memory in bytes. -/
  tmsize : Nat
  /-- COOP. -/
  coop : Bool
  /-- CLOIS. -/
  clois : Bool
  /-- CGEN. -/
  cgen : Bool
  /-- ENTRY. -/
  entry : Nat
  /-- TSOFF. -/
  tsoff : Nat
  /-- GX, GY, GZ. -/
  gx : Nat
  /-- GY. -/
  gy : Nat
  /-- GZ. -/
  gz : Nat
  /-- TG. -/
  tg : Nat
  /-- Operating class in force (R37). -/
  cls : Nat
  /-- ARGVA. -/
  argva : Dword
  /-- VA of the LPB. -/
  lpbva : Dword
  /-- PMAPVA. -/
  pmapva : Dword
  /-- DONEVA. -/
  doneva : Dword
  /-- POOL. -/
  pool : Nat
  /-- EVTAG. -/
  evtag : BitVec 32
  /-- DEPTH. -/
  depth : Nat
  /-- QUEUE: AQI number. -/
  queue : Nat
  /-- TENANT. -/
  tenant : Nat
  /-- Function of its context (R338). -/
  fn : Nat
  /-- PASID of its context. -/
  pasid : BitVec 20
  /-- Grid that launched it, with the linear id of the launching team, when it is a child (R27, R276). -/
  parent : Option (BitVec 32 × Nat)
  /-- Every team below this linear id has been admitted for the first time. -/
  next : Nat
  /-- Teams at or above it that have been admitted too. -/
  ahead : List Nat
  /-- MASK: clusters it may use (R350). -/
  mask : BitVec 20
  /-- PRIO (R350). -/
  prio : BitVec 8
  /-- ENQ has been decided for it (R346). -/
  enqueued : Bool
  /-- TIME in ns when it became pending. -/
  since : Nat
  /-- Order in which grids became pending. -/
  order : Nat
  /-- Number of the host packet that launched it (R329). -/
  job : Option Nat
  /-- Teams that have ended and completed their exit step. -/
  ended : Nat
  /-- The fault bit of its completion status (R28). -/
  fault : Bool
  /-- It is cancelled (R28). -/
  cancelled : Bool
  /-- Cause of its first record other than a TMV record (R381). -/
  firstCause : Option Nat
  /-- Records written for it (R334). -/
  nflt : Nat
  /-- A function-level reset discards its records (R343). -/
  mute : Bool
deriving DecidableEq, Repr

/-! ## Quadrants, cores and dies -/

/-- What a bank saves for (R85-R87). -/
structure Saving where
  /-- Saved price. -/
  price : Nat
  /-- Key of the group, or number of the task. -/
  unit : Nat
  /-- Admission number of the group in its quadrant. -/
  admission : Nat
  /-- PC of the saved bundle. -/
  pc : Dword
  /-- Lanes of its entry. -/
  mask : LaneMask
deriving DecidableEq, Repr

/-- A bank with its starvation and saving state (R79, R85, R86, R91, R92). -/
structure Bank where
  /-- LEVEL. -/
  level : Nat
  /-- Starvation count 0-256. -/
  starve : Nat
  /-- The oldest ready unit that the count belongs to: a group key, or a task number. -/
  oldest : Option Nat
  /-- What it saves for, while saving. -/
  saving : Option Saving
  /-- QSPENT or SQSPENT. -/
  spent : Dword
  /-- QSAVCYC or SQSAVCYC. -/
  savcyc : Dword
  /-- QSAVEPI. -/
  savepi : Dword
  /-- Of a sequencer's bank: the CLOCK of its cluster in which it last had its turn to issue (R84). -/
  issuedAt : Option Dword
deriving DecidableEq, Repr

/-- A hold in force (R66): the entry whose next bundle alone may issue. -/
structure Hold where
  /-- Group key. -/
  gk : Nat
  /-- Lanes of the held entry. -/
  mask : LaneMask
  /-- Number of the hold chain. -/
  chain : Nat
  /-- Bundles of the chain so far. -/
  len : Nat
  /-- It waits for its price (HOLDW, R91). -/
  waiting : Bool
deriving DecidableEq, Repr

/-- A quadrant (R17). -/
structure Quad where
  /-- Its bank. -/
  bank : Bank
  /-- The hold in force. -/
  hold : Option Hold
  /-- Cycle number. -/
  cycle : Nat
  /-- Next admission number (R69). -/
  admissions : Nat
deriving DecidableEq, Repr

/-- Class of a cached line (R100, R133). -/
inductive FillClass where
  /-- Home on the core's own die. -/
  | die
  /-- Any other home, or host memory. -/
  | device
  /-- Filled by the owner of an unpublished cloister line. -/
  | cloister (cid : BitVec 16)
deriving DecidableEq, Repr

/-- A cached 64-byte line. -/
structure CacheLine where
  /-- Fill class. -/
  cls : FillClass
  /-- Generation at fill. -/
  gen : BitVec 4
  /-- The 64 bytes, byte b at bits [8b+7:8b]. -/
  data : BitVec 512
deriving DecidableEq, Repr

/-- The caches of a core (R99, R100, R143), keyed by PA / 64. -/
structure Caches where
  /-- L1 data lines. -/
  l1 : NMap CacheLine
  /-- GD. -/
  gd : BitVec 4
  /-- GV. -/
  gv : BitVec 4
  /-- L1 instruction lines. -/
  ic : NMap CacheLine
  /-- IGD. -/
  igd : BitVec 4
  /-- IGV. -/
  igv : BitVec 4
deriving DecidableEq, Repr

/-- Home state of a 64 KiB frame (R101, R114, R115, R117, R375), keyed by PA / 65536. -/
structure Frame where
  /-- Home die once it has moved; none while the stack's die is the home. -/
  home : Option Nat
  /-- The move in progress: its target die. -/
  moving : Option Nat
  /-- Discarded. -/
  disc : Bool
  /-- Write counter of each die (R114). -/
  wcnt : NMap (BitVec 16)
  /-- Poisoned lines: line numbers 0-1023 within the frame. -/
  poison : List Nat
  /-- The host has read a line of the frame for caching (R319). -/
  hostCached : Bool
  /-- TIME in ns of the last MIGRATE raised for it (R346). -/
  migAt : Option Nat
  /-- Cloister id of the leaf that the last translated access to it went through, when it has one (R421). -/
  cid : Option (BitVec 16)
deriving DecidableEq, Repr

/-- A cached translation of one stage (R386): the page of `key` (address / 65536) in a context, and its leaf entry. -/
structure TlbEntry where
  /-- Function. -/
  fn : Nat
  /-- PASID; not used for stage 2. -/
  pasid : BitVec 20
  /-- VA or IA / 65536. -/
  page : Nat
  /-- The 64-bit leaf entry and its level. -/
  leaf : Nat × Nat
deriving DecidableEq, Repr

/-- Byte budgets of a cluster (R89, R90, R92), for the classes 0 HBM, 1 near-bank, 2 die-to-die. -/
structure Budget where
  /-- Budget per interval in lines; 0 is no limit. -/
  limit : NMap Nat
  /-- Lines left in this interval. -/
  left : NMap Nat
  /-- Lines served. -/
  spent : NMap Dword
  /-- BDELAY. -/
  delay : Dword
deriving DecidableEq, Repr

/-- A flit (R73). -/
structure Flit where
  /-- FRESH. -/
  fresh : Nat
  /-- OLD. -/
  old : Nat
  /-- The FRESH value the governor gave it on this circuit (R77). -/
  nflit : Nat
deriving DecidableEq, Repr

/-! ## Tile sequencers and engine requests -/

/-- A numbered barrier (R292). -/
structure NBar where
  /-- GEN. -/
  gen : BitVec 16
  /-- ARR. -/
  arr : Nat
  /-- CNT: count of the current phase, minus one. -/
  cnt : Nat
  /-- CV. -/
  cv : Bool
  /-- BRK. -/
  brk : Bool
deriving DecidableEq, Repr

/-- What a tile sequencer does (R300, R309, R311). -/
inductive SeqRun where
  /-- It fetches its stream. -/
  | fetching
  /-- A fetch faulted with a parkable cause; it waits for the driver. -/
  | stalled
  /-- `tend` was executed; idle once the table is empty. -/
  | ended
  /-- A fault stopped it; stopped once its issued tasks have completed. -/
  | stopped
deriving DecidableEq, Repr

/-- The loop of a tile stream (R309). -/
structure TLoop where
  /-- PC of the first body word. -/
  first : Dword
  /-- Body words. -/
  len : Nat
  /-- Passes. -/
  count : Nat
  /-- Pass index p. -/
  pass : Nat
deriving DecidableEq, Repr

/-- The word of a task (R303). -/
inductive TileOp where
  | tmma (a b : BitVec 5) (r c : BitVec 2) (i : BitVec 1) (k : BitVec 6)
  | tmmas (a b : BitVec 5) (r c : BitVec 2) (i : BitVec 1) (q : BitVec 2) (k : BitVec 4)
  | tzero (r c : BitVec 2)
  | tscale (n : BitVec 5) (r c : BitVec 2)
  | tcvt (n : BitVec 5) (r c : BitVec 2)
  | tacc (n : BitVec 5) (r c : BitVec 2)
  | tarriveBarrier (k : BitVec 4) (n : BitVec 5)
  | tarriveObject (n : BitVec 5)
  | tcbk (n : BitVec 3) (o : BitVec 14)
deriving DecidableEq, Repr

/-- A task of the dependency table (R300). -/
structure Task where
  /-- Number, rising in stream order. -/
  num : Nat
  /-- Its word. -/
  word : TileOp
  /-- PC of the word. -/
  pc : Dword
  /-- Captured descriptors of the slots it names, in operand order. -/
  slots : List (BitVec 256)
  /-- Which of them were found ready. -/
  ready : List Bool
  /-- Captured pass index. -/
  pass : Nat
  /-- It has issued. -/
  issued : Bool
  /-- Metadata entry popped at issue (R305). -/
  entry : BitVec 4096
  /-- Codebooks of the named slots as read at issue. -/
  books : List (BitVec 256)
  /-- Bytes that `tcbk` read at issue (R307). -/
  data : BitVec 256
deriving DecidableEq, Repr

/-- The tile sequencer of a core with the accumulator store, slots, queues, barriers and codebooks of the team that owns
them (R19, R23). -/
structure Tile where
  /-- A team owns it. -/
  owned : Bool
  /-- Key of that team. -/
  tk : Nat
  /-- PC. -/
  pc : Dword
  /-- Run state. -/
  run : SeqRun
  /-- Record of the fetch fault it is stalled at. -/
  stall : Option FaultRec
  /-- A reply to that fetch fault recorded while the team's context was saved (R383): true replays, false cancels. -/
  reply : Option Bool
  /-- Active loop. -/
  loop : Option TLoop
  /-- td0-td31: 32-byte descriptors. -/
  slots : NMap (BitVec 256)
  /-- Slots bound since admission. -/
  bound : BitVec 32
  /-- Dependency table, in stream order. -/
  table : List Task
  /-- Number of the next task. -/
  next : Nat
  /-- sq0-sq3, oldest entry first. -/
  sq : NMap (List (BitVec 4096))
  /-- nb0-nb15. -/
  nb : NMap NBar
  /-- cb0-cb7. -/
  cb : NMap (BitVec 256)
  /-- Accumulator: element (row, col) at row × 256 + col. -/
  acc : NMap (BitVec 32)
  /-- Flag accumulator (R303). -/
  flags : BitVec 8
deriving DecidableEq, Repr

/-- An accepted engine request (R273). -/
structure Req where
  /-- A near-bank request, else a copy request. -/
  nearBank : Bool
  /-- Core whose engine or port holds it. -/
  core : Nat
  /-- Key of the issuing team. -/
  tk : Nat
  /-- Key of the issuing group. -/
  gk : Nat
  /-- Cloister id of the issuing team. -/
  cid : Option (BitVec 16)
  /-- The record that a fault of it starts from: issuer, PC of the word, context. -/
  base : FaultRec
  /-- Its 64 bytes. -/
  raw : BitVec 512
  /-- Row of the next unit to deliver, or number of the next metadata entry. -/
  row : Nat
  /-- Byte offset of that unit within its row. -/
  off : Nat
  /-- Bytes delivered so far, d of R288. -/
  bytes : Nat
  /-- Flags of the units delivered. -/
  flags : BitVec 8
  /-- cb[CB] as read at acceptance (R283), or the codebook of a near-bank request. -/
  book : BitVec 256
  /-- A and its scales as a near-bank request read them (R286). -/
  a : Nat
  /-- The scales of A. -/
  asc : Nat
  /-- B is translated (R286 step 3). -/
  checked : Bool
  /-- A peer line sent and not acknowledged (R283). -/
  sent : Bool
  /-- The port it uses has failed (R340). -/
  down : Bool
  /-- Memory service of its present unit. -/
  svc : Svc
  /-- Every unit is delivered, or a fault stopped it. -/
  closed : Bool
  /-- The fault that stopped it. -/
  fault : Option FaultRec
deriving DecidableEq, Repr

/-! ## The arcade -/

/-- The governor and flits of a die (R73-R76). -/
structure Arcade where
  /-- Flit at each stop 0-40; a stop beyond the list holds an empty flit. -/
  flits : List Flit
  /-- The fractional accumulator acc. -/
  acc : Nat
  /-- BUDMW. -/
  bud : Nat
  /-- CLMP. -/
  clmp : Bool
  /-- INJ. -/
  inj : Nat
  /-- GINJTOT. -/
  injTot : Dword
  /-- GEXPTOT. -/
  expTot : Dword
deriving DecidableEq, Repr

/-! ## Host queues -/

/-- An AQI entry (R323). -/
structure AqiEntry where
  /-- V. -/
  v : Bool
  /-- FN. -/
  fn : Nat
  /-- ANYP. -/
  anyp : Bool
  /-- HYP. -/
  hyp : Bool
  /-- TENANT. -/
  tenant : Nat
  /-- ER. -/
  er : Nat
  /-- PASID. -/
  pasid : BitVec 20
deriving DecidableEq, Repr

/-- What the packet at the head of a queue has passed its checks with (R333). -/
inductive HeadState where
  /-- A packet whose checks read nothing. -/
  | plain
  /-- The accepted copy of a LAUNCH (R33). -/
  | grid (g : Grid)
  /-- The verified words of a POLICY-LOAD (R360). -/
  | image (ws : List Word)
deriving DecidableEq, Repr

/-- An AQI with its packet queue (R326, R327). -/
structure Aqi where
  /-- The entry in effect. -/
  entry : AqiEntry
  /-- Packets that have not started, oldest first, with their numbers. -/
  queue : List (Nat × BitVec 512)
  /-- Its head has been accepted: it is never refused afterwards (R333, R342). -/
  accepted : Option HeadState
deriving DecidableEq, Repr

/-- A packet that has started and not completed (R329). -/
structure Job where
  /-- Its AQI. -/
  aqi : Nat
  /-- The AQI's entry when it started. -/
  entry : AqiEntry
  /-- The 64 bytes. -/
  raw : BitVec 512
  /-- Lines done (COPY, PUBLISH-CODE). -/
  pos : Nat
  /-- PAs found in D or T (PUBLISH-CODE). -/
  found : List Nat
  /-- The grid of a LAUNCH. -/
  grid : Option (BitVec 32)
  /-- The fault that stopped it. -/
  fault : Option FaultRec
  /-- An invalidation with KILL stopped it (R342). -/
  killed : Bool
  /-- Engines that still run the routine it replaced (POLICY-LOAD, R360). -/
  engines : List Nat
deriving DecidableEq, Repr

/-- A completion record that has not been written to its ring (R334). -/
structure CompRec where
  /-- TIME in ns of completion. -/
  time : Nat
  /-- SEQ. -/
  seq : Nat
  /-- AQI. -/
  aqi : Nat
  /-- TYPE. -/
  type : Nat
  /-- STATUS. -/
  status : Nat
  /-- EVTAG. -/
  evtag : Nat
  /-- CAUSE with its valid bit. -/
  cause : Nat
  /-- NFLT. -/
  nflt : Nat
  /-- DETAIL. -/
  detail : Nat
  /-- The ring interrupts at once for it (R336). -/
  irq : Bool
deriving DecidableEq, Repr

/-- An invalidation or AQI load in progress (R323, R325, R342). -/
structure Command where
  /-- OP. -/
  op : Nat
  /-- KILL. -/
  kill : Bool
  /-- FN. -/
  fn : Nat
  /-- ARG. -/
  arg : Nat
deriving DecidableEq, Repr

/-! ## Policy engines -/

/-- The decision points with the engine they run on (R346). -/
inductive Point where
  | enq | pick | tick | block | wake | migrate | hypPick | hypTick
deriving DecidableEq, Repr

/-- A raised decision (R347). -/
structure Raised where
  /-- Its point. -/
  point : Point
  /-- Tenant. -/
  tenant : Nat
  /-- Cluster. -/
  cluster : Nat
  /-- Grid (ENQ, BLOCK, WAKE). -/
  grid : BitVec 32
  /-- Linear team id (BLOCK, WAKE). -/
  team : Nat
  /-- Frame number PA / 65536 (MIGRATE). -/
  frame : Nat
  /-- It is the second try of a PICK (R351). -/
  again : Bool
deriving DecidableEq, Repr

/-- A candidate as sampled when its decision starts (R347, R348). -/
structure Cand where
  /-- Grid. -/
  grid : BitVec 32
  /-- Team. -/
  team : Nat
  /-- Tenant. -/
  tenant : Nat
  /-- Values of the fields 0x10 and above. -/
  fields : List Nat
deriving DecidableEq, Repr

/-- An installed routine (R345, R360). -/
structure Routine where
  /-- Number of its installation. -/
  num : Nat
  /-- Its words. -/
  words : List Word
  /-- ALLOW. -/
  allow : Nat
  /-- AQI whose packet installed it. -/
  aqi : Nat
  /-- SEQ of that packet. -/
  seq : Nat
  /-- Tenant of its slot; none for a hypervisor slot. -/
  tenant : Option Nat
  /-- Retired (R361). -/
  retired : Bool
  /-- CALLS by engine (R348). -/
  calls : NMap Nat
  /-- Place of its image in each compute die's Atrium, in KiB; none for a hypervisor routine (R353). -/
  place : Option Nat
deriving DecidableEq, Repr

/-- One level of an engine's loop (R357). -/
structure ELoop where
  /-- First word of the body. -/
  first : Nat
  /-- Words of the body. -/
  len : Nat
  /-- Passes left, the current one included. -/
  left : Nat
deriving DecidableEq, Repr

/-- A decision that runs (R357). -/
structure Decision where
  /-- What was raised. -/
  raised : Raised
  /-- Its slot. -/
  slot : Nat
  /-- The routine it started with. -/
  routine : Routine
  /-- ARG. -/
  arg : Nat
  /-- Candidates. -/
  cands : List Cand
  /-- pc. -/
  pc : Nat
  /-- used. -/
  used : Nat
  /-- w0-w15. -/
  w : NMap Dword
  /-- The 256 B scratch. -/
  scratch : List Host.Cell
  /-- Decision registers 0-5. -/
  regs : NMap Nat
  /-- Loops in progress, innermost first. -/
  loops : List ELoop
deriving DecidableEq, Repr

/-- A policy engine (R344). -/
structure Engine where
  /-- Raised decisions, oldest first. -/
  raised : List Raised
  /-- The decision that runs. -/
  run : Option Decision
  /-- QUEUE picked last, by tenant (R362). -/
  lastQueue : NMap (Option Nat)
  /-- TIME in ns of the last TICK, by tenant. -/
  tickAt : NMap Nat
  /-- SLICE in µs in force, by tenant. -/
  slice : NMap Nat
deriving DecidableEq, Repr

/-- The hypervisor engine's tick round and picks (R346, R351, R362). -/
structure Hyp where
  /-- Tenant picked last, by cluster. -/
  lastTenant : NMap (Option Nat)
  /-- TIME in ns when the last round began. -/
  roundAt : Nat
  /-- Smallest SLICE written in the current round. -/
  least : Option Nat
deriving DecidableEq, Repr

/-- A saved team (R390-R393). -/
structure Saved where
  /-- The team. -/
  team : Team
  /-- Its groups, by group id. -/
  groups : List Group
  /-- Tile sequencer and accumulator, when it owns them. -/
  tile : Option Tile
  /-- It is dormant (R351). -/
  dormant : Bool
  /-- Lines (PA / 64) of its wake set (R352). -/
  wake : List Nat
  /-- Its wake set holds its child grids. -/
  wakeChild : Bool
  /-- Its wake set holds the immediate member. -/
  immediate : Bool
  /-- Cluster that it left. -/
  cluster : Nat
  /-- TIME in ns of its save. -/
  since : Nat
  /-- Its slot holds an uncorrectable error (R393). -/
  bad : Bool
deriving DecidableEq, Repr

/-! ## Firmware, boot and attestation -/

/-- A firmware core (R394). -/
structure Hart where
  /-- x1-x31. -/
  x : NMap Dword
  /-- f0-f31. -/
  f : NMap Dword
  /-- pc. -/
  pc : Dword
  /-- It runs in user mode, else in machine mode. -/
  user : Bool
  /-- Control and status registers by number. -/
  csr : NMap Dword
  /-- Reservation of `lr.w` and `lr.d`: address and size. -/
  resv : Option (Nat × Nat)
  /-- Held in reset (R402). -/
  held : Bool
deriving DecidableEq, Repr

/-- Replies of the SPDM responder (R406). -/
inductive SpdmReply where
  /-- DOE Discovery: the supported data object types. -/
  | discovery (types : List Nat)
  /-- VERSION: the version numbers. -/
  | version (vs : List Nat)
  /-- CAPABILITIES: CERT, CHAL and MEAS with signature. -/
  | capabilities (cert chal measSig sessions : Bool)
  /-- ALGORITHMS: RSAPSS 4096, SHA-512, SHA-512. -/
  | algorithms (asym hash measHash : Nat)
  /-- DIGESTS: the digest of slot 0's chain. -/
  | digests (d : BitVec 512)
  /-- CERTIFICATE: a part of slot 0's chain. -/
  | certificate (part : List Byte) (left : Nat)
  /-- CHALLENGE_AUTH: nonce, digest of the chain, measurement summary hash when one was asked for, and signature by the identity
  key. -/
  | challenge (nonce : BitVec 256) (chain : BitVec 512) (summary : Option (BitVec 512)) (sig : Nat)
  /-- MEASUREMENTS: blocks by index, and a signature when asked for. -/
  | measurements (blocks : List (Nat × BitVec 512)) (sig : Option Nat)
  /-- ERROR with its code. -/
  | error (code : Nat)
deriving DecidableEq, Repr

/-- How far an SPDM connection has come (R406): the requests that open it follow one another in this order. -/
inductive SpdmStage where
  | closed | version | capabilities | ready
deriving DecidableEq, Repr

/-- What fuses, flash and the root of trust hold (R74, R401, R404, R406, R410). -/
structure Fuses where
  /-- CALF of each die. -/
  calf : NMap Nat
  /-- V(c, p) in mV, by die × 32 + c × 8 + p. -/
  vnom : NMap Nat
  /-- VFLOOR in mV, by die. -/
  vfloor : NMap Nat
  /-- Key digest. -/
  keyDigest : BitVec 512
  /-- Least version. -/
  minVersion : Nat
  /-- The mezzanine fuse. -/
  mez : Bool
  /-- The fuse image that is measured. -/
  image : List Byte
  /-- The configuration data that is measured. -/
  config : List Byte
  /-- The certificate chain of slot 0. -/
  chain : List Byte
  /-- Compute dies that pass their self tests. -/
  dieOk : BitVec 4
  /-- HBM training succeeds. -/
  hbmOk : Bool
deriving DecidableEq, Repr

/-- Progress of the boot (R402). -/
structure Boot where
  /-- STAGE. -/
  stage : Nat
  /-- FAIL. -/
  fail : Nat
  /-- FWVER. -/
  fwver : Nat
  /-- MZREQ of the accepted image. -/
  mzreq : Bool
  /-- DIEOK. -/
  dieOk : BitVec 4
  /-- MEZCAP is valid (stage 5 reached). -/
  capValid : Bool
  /-- MREG0-MREG7. -/
  mreg : NMap (BitVec 512)
deriving DecidableEq, Repr

/-! ## Power -/

/-- A cluster's phase state (R413). -/
inductive PhaseState where
  | idle
  | mixed
  | one (kid : BitVec 32) (phase : BitVec 12)
deriving DecidableEq, Repr

/-- Power state of a cluster (R411-R416, R422). -/
structure Cluster where
  /-- POOL. -/
  pool : Nat
  /-- A POOL write that waits. -/
  pend : Option Nat
  /-- CLASS. -/
  cls : Nat
  /-- POINT. -/
  point : Nat
  /-- RUN. -/
  run : Bool
  /-- Point of the step in progress (STEP); the vote for it is cast. -/
  step : Option Nat
  /-- Vote in mV; 0 while none is cast. -/
  vote : Nat
  /-- DEN. -/
  den : Bool
  /-- CLOCK: its cycles since reset (R266). -/
  clock : Dword
  /-- Phase state. -/
  state : PhaseState
  /-- LAST. -/
  last : Nat
  /-- Sum of the samples of the phase state. -/
  sum : Nat
  /-- Samples of the phase state. -/
  nsmp : Nat
  /-- Quadrant-cycles with resident groups since the last sample. -/
  busy : Nat
  /-- Of these, those that stalled on loads or atomics. -/
  stalled : Nat
  /-- TEMP. -/
  temp : Nat
  /-- TIME in ns since when it reads 110 °C or more. -/
  hotSince : Option Nat
  /-- EMG. -/
  emg : Bool
  /-- It admits no team until it cools (R422). -/
  shut : Bool
deriving DecidableEq, Repr

/-- A rail (R417-R421). -/
structure Rail where
  /-- VMV. -/
  vmv : Nat
  /-- TGT. -/
  tgt : Nat
  /-- End of the hold in ns of TIME. -/
  hold : Option Nat
  /-- TIME in ns of the last 10 mV of its ramp, or of its start. -/
  rampAt : Nat
  /-- TRIM. -/
  trim : Nat
  /-- TDIS, until this TIME in ns. -/
  tdis : Option Nat
  /-- RAILCE. -/
  ce : Nat
  /-- RAILUE. -/
  ue : Nat
  /-- Correctable errors of the current review window. -/
  window : Nat
deriving DecidableEq, Repr

/-- An operating-point entry (R415). -/
structure OptEntry where
  /-- KID. -/
  kid : BitVec 32
  /-- PHASE. -/
  phase : BitVec 12
  /-- Class. -/
  cls : Nat
  /-- Point. -/
  point : Nat
deriving DecidableEq, Repr

/-- Power control of the device (R408, R415, R420, R422). -/
structure Power where
  /-- PKOV. -/
  pkov : Bool
  /-- THR. -/
  thr : BitVec 4
  /-- OPTCTL.EN. -/
  optEn : Bool
  /-- The operating-point table, least recently used first. -/
  table : List OptEntry
  /-- TRIMCTL.EN. -/
  trimEn : Bool
  /-- LOW. -/
  low : Nat
  /-- HIGH. -/
  high : Nat
  /-- TMAX. -/
  tmax : Nat
  /-- ACCCTL.SEL. -/
  accSel : Bool
  /-- TIME in ns of the last stall sample, byte-budget interval and trim review. -/
  sampleAt : Nat
  /-- Byte-budget interval. -/
  budgetAt : Nat
  /-- Trim review. -/
  trimAt : Nat
deriving DecidableEq, Repr

/-- Counters of the current and the last 100 µs interval (R348): by queue × 4 + j (L2 misses, HBM lines, tokens), and
tokens by tenant at 2^20 + tenant. -/
structure Interval where
  /-- Current interval. -/
  cur : NMap Nat
  /-- Last completed interval. -/
  last : NMap Nat
deriving DecidableEq, Repr

/-! ## Turns -/

/-- What the next step is, when the schedule fixes it. -/
inductive Turn where
  /-- One cycle of a cluster, its cores in an order. -/
  | cluster (c : Nat) (order : List Nat)
  /-- One cycle of a quadrant. -/
  | quadrant (core q : Nat)
  /-- One cycle of a tile sequencer. -/
  | sequencer (core : Nat)
  /-- One word of a policy engine's decision. -/
  | policy (k : Nat)
  /-- One instruction of a firmware core. -/
  | firmware (f : Nat)
  /-- An event. -/
  | event (i : Instr)
deriving DecidableEq, Repr, Inhabited

/-! ## Outcomes -/

/-- Why the machine stops with a fault. -/
inductive Fault where
  /-- Raised by a firmware load or store in the device register window at an address whose register the spec does
  not describe (R394). Safe. -/
  | deviceWindow
deriving DecidableEq, Repr

/-- Why an instruction has no meaning. -/
inductive Refusal where
  /-- Raised by the dispatch of an instruction that has no meaning yet, by its mnemonic. Safe. -/
  | notModelled (mnemonic : String)
deriving DecidableEq, Repr

/-! ## The machine -/

/-- The whole device. -/
structure State where
  /-- Resident groups, by group key. -/
  groups : NMap Group
  /-- Resident teams, by team key. -/
  teams : NMap Team
  /-- Live grids, by grid id. -/
  grids : NMap Grid
  /-- Quadrants, by core × 4 + quadrant. -/
  quads : NMap Quad
  /-- Caches, by core. -/
  caches : NMap Caches
  /-- Frames, by PA / 65536. -/
  frames : NMap Frame
  /-- HBM bytes by PA; an unlisted byte is 0. -/
  mem : List Host.Cell
  /-- Tag halfwords by line number PA / 64 (R125). -/
  tags : NMap (BitVec 16)
  /-- Host memory, by I/O virtual address of a PASID: PASID × 2^51 + address (R98); an unlisted byte is 0. -/
  hostMem : List Host.Cell
  /-- Pages that the host IOMMU refuses: PASID and I/O virtual address / 4096 (environment, R98, R369). -/
  iommuRefused : List (BitVec 20 × Nat)
  /-- Lines with a back-invalidate snoop sent, and whether the host has answered it (R319). -/
  bisnp : List (Nat × Bool)
  /-- Registers of the functions, by function × 65536 + BAR0 offset (R321). -/
  bar0 : NMap Dword
  /-- Copies of the VF entries (R323), by function. -/
  vfTab : NMap (BitVec 128)
  /-- Cached stage-1 translations. -/
  tlb1 : List TlbEntry
  /-- Cached stage-2 translations. -/
  tlb2 : List TlbEntry
  /-- Byte budgets, by cluster. -/
  budgets : NMap Budget
  /-- Arrival number of the next access that waits. -/
  nextTicket : Nat
  /-- The accesses that wait with neither a bundle nor an engine request (R90, R115). -/
  held : List (Sender × Svc)
  /-- Lines that an L2 slice holds, by home die × 128 + slice (R3, R101). -/
  l2 : NMap (List Nat)
  /-- Order number of the next reservation. -/
  resvOrder : Nat
  /-- Tile sequencers, by core. -/
  tiles : NMap Tile
  /-- Sequencer banks, by core (R79, R84). -/
  seqBanks : NMap Bank
  /-- Accepted engine requests, by number. -/
  reqs : NMap Req
  /-- Number of the next request. -/
  nextReq : Nat
  /-- Mezzanine service is on, and the die it runs (R404). -/
  mezz : Option Nat
  /-- Arcades, by die. -/
  arcades : NMap Arcade
  /-- Deal pointers, by core: the bank 0-3 or 4 that received the last token (R78). -/
  deals : NMap Nat
  /-- AQIs. -/
  aqis : NMap Aqi
  /-- Started packets, by number. -/
  jobs : NMap Job
  /-- Number of the next packet. -/
  nextJob : Nat
  /-- Completion records that wait for their ring, by function × 16 + ring. -/
  ringWait : NMap (List CompRec)
  /-- TIME in ns of the oldest record that ERPEND counts, by function × 16 + ring. -/
  ringSince : NMap Nat
  /-- Copies of the remapping entries (R323). -/
  irTab : NMap Dword
  /-- Copies of the pool entries. -/
  pools : NMap (BitVec 256)
  /-- Copies of the peer entries. -/
  peerTab : NMap (BitVec 128)
  /-- The CFGCMD in progress. -/
  cfg : Option Command
  /-- Functions whose reset has latched and not ended; 64 is a reset of PF0 that waits for its VFs (R343). -/
  resetting : List Nat
  /-- FINV commands in progress, by function. -/
  finv : NMap Command
  /-- MSI-X tables, by function × 2048 + vector. -/
  msix : NMap (BitVec 128)
  /-- MSI-X pending bits, by function × 2048 + vector. -/
  pba : NMap Bool
  /-- Interrupt messages sent to the host: function and vector, in order. -/
  interrupts : List (Nat × Nat)
  /-- UCIe modules that trained (R318). -/
  modules : Nat
  /-- Trained scale-up ports (R340). -/
  ports : BitVec 18
  /-- Port that a kind 6 request uses, by request number (R340). -/
  portOf : NMap Nat
  /-- Lines sent to peers and not answered: request, peer address, 64 bytes or less. -/
  peerOut : List (Nat × Nat × Nat)
  /-- Routine slots: tenant × 8 + DP, hypervisor 512 + DP (R345). -/
  slots : NMap Routine
  /-- Number of the next installation. -/
  nextRoutine : Nat
  /-- The Atrium: die × 0x40000 + offset, the I/O die being 4 (R353, R394). -/
  atrium : List Host.Cell
  /-- Policy engines 0-20. -/
  engines : NMap Engine
  /-- The hypervisor's round. -/
  hyp : Hyp
  /-- Cluster masks of the tenants (R364). -/
  masks : NMap (BitVec 20)
  /-- Tenants whose PICK on a cluster waits for the next event (R351), as cluster × 64 + tenant. -/
  pickHeld : List Nat
  /-- Order number of the next pending grid. -/
  gridOrder : Nat
  /-- Saved teams, by context slot. -/
  saved : NMap Saved
  /-- Saved teams that have ended and whose exit step is not complete, with their groups (R135). -/
  exits : List (Team × List Group)
  /-- The frame that a discard in progress names (R388). -/
  discarding : Option Nat
  /-- Firmware cores 0-3. -/
  harts : NMap Hart
  /-- Firmware SRAM, by offset. -/
  sram : List Host.Cell
  /-- Boot ROM, by offset. -/
  rom : List Host.Cell
  /-- Flash slots A and B, by offset. -/
  flashA : List Host.Cell
  /-- Slot B. -/
  flashB : List Host.Cell
  /-- Fuses and factory data. -/
  fuses : Fuses
  /-- Boot progress. -/
  boot : Boot
  /-- The reply that the DOE mailbox holds. -/
  doe : Option SpdmReply
  /-- The connection of the SPDM responder. -/
  spdm : SpdmStage
  /-- Hardware event rings 0-3: entries with their uncorrectable-error mark (R398). -/
  hwRings : NMap (List (BitVec 512 × Bool))
  /-- Atrium words that hold an uncorrectable error, by offset / 8 (R399). -/
  atriumBad : List Nat
  /-- Clusters. -/
  clusters : NMap Cluster
  /-- Rails. -/
  rails : NMap Rail
  /-- Power control. -/
  power : Power
  /-- Interval counters. -/
  interval : Interval
  /-- L2MISS, by cluster. -/
  l2miss : NMap Dword
  /-- Tenant counters, by tenant × 8 + j (R424). -/
  acct : NMap Dword
  /-- Their snapshot bank (R425). -/
  acctSnap : NMap Dword
  /-- The bundle on the issue port. -/
  cur : Cur
  /-- Fault records raised and not yet written to a fault queue, in order (R379). -/
  recs : List FaultRec
  /-- Ring cycles of each die's arcade since reset (R72). -/
  ringCycles : NMap Nat
  /-- Next free value (not the spec's). -/
  free : Nat
  /-- Number of the step, with which the use of a cached translation is drawn (not the spec's). -/
  epoch : Nat
  /-- The next turns; when none is listed the turn is a free value (not the spec's). -/
  schedule : List Turn
deriving DecidableEq, Repr

/-- No service asked for. -/
def Svc.reset : Svc := { ticket := none, frames := [], snooping := false, seen := [], due := [] }

/-- Registers of a group that no team has used yet. -/
def Regs.reset : Regs :=
  { s := [], stags := 0, v := [], vtags := [], p := [], m := [], lc := [], fpc := 0, nflags := 0, seed := 0, latch := [] }

/-- An unused group slot. -/
def Group.reset : Group :=
  { present := false, tk := 0, gid := 0, admission := 0, lastIssue := 0, regs := Regs.reset, frontier := [], landings := [],
    parked := [], loops := [], faultmask := 0, faulted := 0, resv := [], inFlight := [], walks := [], chain := 0, runs := [],
    barArrived := false, barOrder := (0, 0) }

/-- An unused team slot. -/
def Team.reset : Team :=
  { present := false, grid := 0, id := 0, gks := [], q0 := 0, tmem := [], cid := none, phase := 0, seqFault := false,
    draining := none, silent := 0, waited := 0 }

/-- An unused grid number. -/
def Grid.reset : Grid :=
  { present := false, hdr := 0, kid := 0, nv := 8, ns := 8, ld := 0, tmsize := 0, coop := false, clois := false,
    cgen := false, entry := 0, tsoff := 0, gx := 1, gy := 1, gz := 1, tg := 1, cls := 0, argva := 0, lpbva := 0,
    pmapva := 0, doneva := 0, pool := 0, evtag := 0, depth := 0, queue := 0, tenant := 0, fn := 0, pasid := 0,
    parent := none, next := 0, ahead := [], mask := 0xFFFFF, prio := 0, enqueued := false, since := 0, order := 0,
    job := none, ended := 0, fault := false, cancelled := false, firstCause := none,
    nflt := 0, mute := false }

/-- A bank after reset: level 0 (R79). -/
def Bank.reset : Bank :=
  { level := 0, starve := 0, oldest := none, saving := none, spent := 0, savcyc := 0, savepi := 0, issuedAt := none }

/-- A quadrant after reset. -/
def Quad.reset : Quad := { bank := Bank.reset, hold := none, cycle := 0, admissions := 0 }

/-- Empty caches. -/
def Caches.reset : Caches := { l1 := [], gd := 0, gv := 0, ic := [], igd := 0, igv := 0 }

/-- A frame at its first home, with nothing marked. -/
def Frame.reset : Frame := { home := none, moving := none, disc := false, wcnt := [], poison := [], hostCached := false, migAt := none, cid := none }

/-- No limits. -/
def Budget.reset : Budget := { limit := [], left := [], spent := [], delay := 0 }

/-- A frontier entry without lanes. -/
def Entry.reset : Entry :=
  { prio := 0xFFF, pc := 0, mask := 0, held := false, owner := false, count := 0, promoted := none, barWait := false,
    sleep := 0, replay := none, pend := none }

/-- A barrier at admission. -/
def NBar.reset : NBar := { gen := 0, arr := 0, cnt := 0, cv := false, brk := false }

/-- A tile sequencer without a team. -/
def Tile.reset : Tile :=
  { owned := false, tk := 0, pc := 0, run := .ended, stall := none, reply := none, loop := none, slots := [], bound := 0, table := [],
    next := 0, sq := [], nb := [], cb := [], acc := [], flags := 0 }

/-- A record with every field 0. -/
def FaultRec.reset : FaultRec :=
  { va := 0, kind := 0, s2 := false, sz := 0, pc := none, hdr := 0, park := false, lanes := 0, grid := 0, team := 0,
    group := 0, cause := 0, tmv := false, fn := 0, pasid := 0, tstamp := 0 }

/-- No request. -/
def Req.reset : Req :=
  { nearBank := false, core := 0, tk := 0, gk := 0, cid := none, base := FaultRec.reset, raw := 0, row := 0, off := 0, bytes := 0,
    flags := 0, book := 0, a := 0, asc := 0, checked := false, sent := false, down := false, svc := Svc.reset, closed := true, fault := none }

/-- No bundle on the port. -/
def Cur.reset : Cur :=
  { gk := 0, core := 0, unit := 0, entry := Entry.reset, act := 0, pc := 0, wpc := 0, npc := 4, src := Regs.reset, fails := [], moves := [],
    exited := 0, newPrio := none, bar := false, sleep := 0, base := none, stepped := false, arrived := false, broken := false, newLoop := none, words := [], pre := Regs.reset, walked := false, walkFails := [],
    answer := none, got := [], dry := false, blocked := none,
    walks := [], replay := none, chain := 0, svc := Svc.reset, serves := true, sampled := none, seed := 0, flights := 0 }

/-- A governor after reset with CALF = 1.0 (R74, R75). -/
def Arcade.reset : Arcade := { flits := [], acc := 0, bud := 340000, clmp := false, inj := 87040000, injTot := 0, expTot := 0 }

/-- An AQI entry with V = 0. -/
def AqiEntry.reset : AqiEntry := { v := false, fn := 0, anyp := false, hyp := false, tenant := 0, er := 0, pasid := 0 }

/-- An unassigned AQI. -/
def Aqi.reset : Aqi := { entry := AqiEntry.reset, queue := [], accepted := none }

/-- No packet. -/
def Job.reset : Job :=
  { aqi := 0, entry := AqiEntry.reset, raw := 0, pos := 0, found := [], grid := none, fault := none, killed := false, engines := [] }

/-- No saved team. -/
def Saved.reset : Saved :=
  { team := Team.reset, groups := [], tile := none, dormant := false, wake := [], wakeChild := false, immediate := false,
    cluster := 0, since := 0, bad := false }

/-- No routine. -/
def Routine.reset : Routine :=
  { num := 0, words := [], allow := 0, aqi := 0, seq := 0, tenant := none, retired := true, calls := [], place := none }

/-- An idle engine. -/
def Engine.reset : Engine := { raised := [], run := none, lastQueue := [], tickAt := [], slice := [] }

/-- The hypervisor before its first round. -/
def Hyp.reset : Hyp := { lastTenant := [], roundAt := 0, least := none }

/-- A firmware core held in reset; it starts in the boot ROM. -/
def Hart.reset : Hart := { x := [], f := [], pc := 0, user := false, csr := [], resv := none, held := true }

/-- Fuses that hold 0, CALF 1.0, and a part whose self tests pass. -/
def Fuses.reset : Fuses :=
  { calf := [], vnom := [], vfloor := [], keyDigest := 0, minVersion := 0, mez := false, image := [], config := [], chain := [],
    dieOk := 0xF, hbmOk := true }

/-- Before the first boot stage. -/
def Boot.reset : Boot := { stage := 0, fail := 0, fwver := 0, mzreq := false, dieOk := 0, capValid := false, mreg := [] }

/-- An idle cluster. -/
def Cluster.reset : Cluster :=
  { pool := 0, pend := none, cls := 0, point := 0, run := false, step := none, vote := 0, den := false, clock := 0, state := .idle, last := 0,
    sum := 0, nsmp := 0, busy := 0, stalled := 0, temp := 0, hotSince := none, emg := false, shut := false }

/-- A rail at a floor of 0. -/
def Rail.reset : Rail :=
  { vmv := 0, tgt := 0, hold := none, rampAt := 0, trim := 0, tdis := none, ce := 0, ue := 0, window := 0 }

/-- Power control after reset. -/
def Power.reset : Power :=
  { pkov := false, thr := 0, optEn := true, table := [], trimEn := false, low := 4, high := 16, tmax := 50, accSel := false,
    sampleAt := 0, budgetAt := 0, trimAt := 0 }

/-- The machine right after reset. -/
def State.reset : State :=
  { groups := [], teams := [], grids := [], quads := [], caches := [], frames := [], mem := [], tags := [], hostMem := [],
    iommuRefused := [], bisnp := [], bar0 := [], vfTab := [], tlb1 := [], tlb2 := [], budgets := [], nextTicket := 0, held := [], l2 := [], resvOrder := 0,
    tiles := [], seqBanks := [], reqs := [], nextReq := 0, mezz := none,
    arcades := [], deals := [], aqis := [], jobs := [], nextJob := 0, ringWait := [], ringSince := [], irTab := [], pools := [],
    peerTab := [], cfg := none, resetting := [], finv := [], msix := [], pba := [], interrupts := [], modules := 0, ports := 0, portOf := [],
    peerOut := [], slots := [], nextRoutine := 0, atrium := [], engines := [], hyp := Hyp.reset, masks := [], pickHeld := [],
    gridOrder := 0, saved := [], exits := [], discarding := none, harts := [], sram := [], rom := [], flashA := [],
    flashB := [], fuses := Fuses.reset, boot := Boot.reset, doe := none, spdm := .closed, hwRings := [], atriumBad := [], clusters := [],
    rails := [], power := Power.reset, interval := { cur := [], last := [] }, l2miss := [], acct := [], acctSnap := [], cur := Cur.reset, recs := [], ringCycles := [], free := 0, epoch := 0,
    schedule := [] }

end Sys2Proof.Machine
end

