-- ==== Sys2Proof/Machine/Map.lean ====
section
/-! DEFINITION. Tables keyed by number, and byte memories in their canonical form. -/

namespace Sys2Proof.Machine

/-- The entry of a table, or its default. -/
def nget {α : Type} (d : α) : NMap α → Nat → α
  | [], _ => d
  | (k, v) :: r, n => if k = n then v else nget d r n

/-- The table with one entry set, keys kept rising. -/
def nput {α : Type} : NMap α → Nat → α → NMap α
  | [], n, x => [(n, x)]
  | (k, v) :: r, n, x => if n < k then (n, x) :: (k, v) :: r else if n = k then (n, x) :: r else (k, v) :: nput r n x

/-- The table with an entry dropped. -/
def ndel {α : Type} (m : NMap α) (n : Nat) : NMap α := m.filter (fun e => e.1 != n)

/-- The keys are strictly rising. -/
def NMap.wf {α : Type} : NMap α → Bool
  | [] => true
  | [_] => true
  | (a, _) :: (b, y) :: r => decide (a < b) && NMap.wf ((b, y) :: r)

/-- The byte at an address of a memory; an unlisted byte is 0. -/
def mread (m : List Host.Cell) (a : Nat) : Byte := nget 0 m a

/-- The memory with one byte written; writing 0 leaves the byte unlisted. -/
def mwrite (m : List Host.Cell) (a : Nat) (x : Byte) : List Host.Cell :=
  if x = 0 then m.filter (fun c => c.1 != a) else nput m a x

/-- The canonical form: addresses strictly rising, no byte listed as 0. -/
def Memory.wf : List Host.Cell → Bool
  | [] => true
  | [(_, x)] => x != 0
  | (a, x) :: (b, y) :: r => decide (a < b) && x != 0 && Memory.wf ((b, y) :: r)

/-- `n` bytes from an address, the first at the low end (R7). -/
def mreadN (m : List Host.Cell) (a : Nat) : Nat → Nat
  | 0 => 0
  | n + 1 => (mread m a).toNat + 256 * mreadN m (a + 1) n

/-- `n` bytes of a number written from an address, low byte first (R7). -/
def mwriteN (m : List Host.Cell) (a : Nat) : Nat → Nat → List Host.Cell
  | 0, _ => m
  | n + 1, x => mwriteN (mwrite m a (BitVec.ofNat 8 x)) (a + 1) n (x / 256)

/-- The memory with `n` bytes from an address cleared. -/
def mclear (m : List Host.Cell) (a n : Nat) : List Host.Cell := m.filter (fun c => c.1 < a || a + n ≤ c.1)

end Sys2Proof.Machine
end

