-- ==== Sys2Proof/Machine/Ops.lean ====
section
/-! DEFINITION. The named operations over groups and frontiers: accessors, lane masks, the frontier (R44-R50), landings
(R51-R55), parking and ending lanes (R56-R60), loop passes (R249) and the commit of a bundle (R49). Taking a fault is
`raiseFails`; the return from one is `replayParked`. -/

namespace Sys2Proof.Machine

/-! ## Accessors -/

/-- A group by key. -/
def State.group (s : State) (gk : Nat) : Group := nget Group.reset s.groups gk
/-- The state with one group replaced. -/
def State.setGroup (s : State) (gk : Nat) (g : Group) : State := { s with groups := nput s.groups gk g }
/-- A team by key. -/
def State.team (s : State) (tk : Nat) : Team := nget Team.reset s.teams tk
/-- The state with one team replaced. -/
def State.setTeam (s : State) (tk : Nat) (t : Team) : State := { s with teams := nput s.teams tk t }
/-- A grid by id. -/
def State.grid (s : State) (id : BitVec 32) : Grid := nget Grid.reset s.grids id.toNat
/-- The state with one grid replaced. -/
def State.setGrid (s : State) (id : BitVec 32) (g : Grid) : State := { s with grids := nput s.grids id.toNat g }
/-- A quadrant by core × 4 + quadrant. -/
def State.quad (s : State) (q : Nat) : Quad := nget Quad.reset s.quads q
/-- The state with one quadrant replaced. -/
def State.setQuad (s : State) (q : Nat) (x : Quad) : State := { s with quads := nput s.quads q x }
/-- The caches of a core. -/
def State.cache (s : State) (c : Nat) : Caches := nget Caches.reset s.caches c
/-- The state with the caches of a core replaced. -/
def State.setCache (s : State) (c : Nat) (x : Caches) : State := { s with caches := nput s.caches c x }
/-- A frame by PA / 65536. -/
def State.frame (s : State) (f : Nat) : Frame := nget Frame.reset s.frames f
/-- The state with one frame replaced. -/
def State.setFrame (s : State) (f : Nat) (x : Frame) : State := { s with frames := nput s.frames f x }
/-- The tile sequencer of a core. -/
def State.tile (s : State) (c : Nat) : Tile := nget Tile.reset s.tiles c
/-- The state with a tile sequencer replaced. -/
def State.setTile (s : State) (c : Nat) (x : Tile) : State := { s with tiles := nput s.tiles c x }
/-- The state with its issue context changed. -/
def State.mapCur (s : State) (f : Cur → Cur) : State := { s with cur := f s.cur }
/-- The group whose bundle is on the port. -/
def State.cg (s : State) : Group := s.group s.cur.gk
/-- The state with that group changed. -/
def State.mapCg (s : State) (f : Group → Group) : State := s.setGroup s.cur.gk (f s.cg)
/-- The state with the registers of that group changed. -/
def State.mapRegs (s : State) (f : Regs → Regs) : State := s.mapCg (fun g => { g with regs := f g.regs })
/-- The team of the group on the port. -/
def State.ct (s : State) : Team := s.team s.cg.tk
/-- The state with that team changed. -/
def State.mapCt (s : State) (f : Team → Team) : State := s.setTeam s.cg.tk (f s.ct)
/-- The grid of the group on the port. -/
def State.cgrid (s : State) : Grid := s.grid s.ct.grid
/-- Core of a group key. -/
def coreOf (gk : Nat) : Nat := gk / 64
/-- Quadrant key of a group key. -/
def quadOf (gk : Nat) : Nat := gk / 16
/-- Die of a core (R16). -/
def dieOf (core : Nat) : Nat := core / 40
/-- Cluster of a core (R16). -/
def clusterOf (core : Nat) : Nat := core / 8
/-- TIME in nanoseconds: four ring cycles at 4.0 GHz each (R72, R266). -/
def State.time (s : State) : Nat :=
  ([0, 1, 2, 3].foldl (fun m d => Nat.max m (nget 0 s.ringCycles d)) 0) / 4
/-- Counter `j` of a tenant grows (R424). -/
def State.tally (s : State) (tenant j n : Nat) : State :=
  { s with acct := nput s.acct (tenant * 8 + j) (nget 0 s.acct (tenant * 8 + j) + BitVec.ofNat 64 n) }
/-- A counter of the current 100 µs interval grows (R348). -/
def State.count (s : State) (key n : Nat) : State :=
  { s with interval := { s.interval with cur := nput s.interval.cur key (nget 0 s.interval.cur key + n) } }
/-- Tokens paid for work of a tenant's queue (R81, R348, R424). -/
def State.tokens (s : State) (tenant queue n : Nat) : State :=
  ((s.tally tenant 0 n).count (queue * 4 + 2) n).count (2 ^ 20 + tenant) n
/-- A policy engine. -/
def State.engine (s : State) (k : Nat) : Engine := nget Engine.reset s.engines k
/-- The state with a policy engine replaced. -/
def State.setEngine (s : State) (k : Nat) (e : Engine) : State := { s with engines := nput s.engines k e }
/-- Nothing in particular raised. -/
def Raised.reset : Raised :=
  { point := .enq, tenant := 0, cluster := 0, grid := 0, team := 0, frame := 0, again := false }
/-- A waiting decision takes a raised one in: a PICK for its cluster is merged, a TICK of its tenant is dropped (R347). -/
def absorbs (w r : Raised) : Bool :=
  w.point == r.point &&
    (match r.point with
     | .pick => w.cluster == r.cluster
     | .hypPick => w.cluster == r.cluster
     | .tick => w.tenant == r.tenant
     | .hypTick => w.tenant == r.tenant
     | _ => false)
/-- A decision is raised on an engine (R347). -/
def State.raiseOn (s : State) (k : Nat) (r : Raised) : State :=
  let e := s.engine k
  if e.raised.any (fun w => absorbs w r) then s else s.setEngine k { e with raised := e.raised ++ [r] }
/-- The next free value. -/
def State.takeFree (s : State) : Nat × State := (Config.freeNat s.free, { s with free := s.free + 1 })

/-! ## Lane masks -/

/-- The lanes 0-31. -/
def lanes32 : List Nat := List.range 32
/-- Lanes of a mask, lowest first. -/
def lanesOf (m : LaneMask) : List Nat := lanes32.filter (fun l => m.getLsbD l)
/-- The mask of the lanes that satisfy a test. -/
def maskOf (f : Nat → Bool) : LaneMask := BitVec.ofBoolListLE (lanes32.map f) |>.setWidth 32
/-- The mask of one lane. -/
def oneLane (l : Nat) : LaneMask := 1#32 <<< l

/-! ## Faults -/

/-- Causes that park their lanes (R367, R370-R374). -/
def parkable (c : Nat) : Bool :=
  c == 0x08A || c == 0x090 || c == 0x091 || c == 0x0C8 || c == 0x140 || c == 0x141 ||
  (0x40 ≤ c && c < 0x60 && (c % 8 == 1 || c % 8 == 2 || c % 8 == 5))

/-- A class 1 code (R369). -/
def class1 (kind reason : Nat) : Nat := 0x040 + 8 * kind + reason

/-- A failure without memory access: only its cause. -/
def failOf (cause lane : Nat) : Fail := { lane := lane, cause := some cause, va := 0, kind := 0, s2 := false, sz := 0 }

/-- Every lane of the entry on the port fails with one cause (R57, uniform words). -/
def uniformFail (s : State) (cause : Nat) : List Fail := (lanesOf s.cur.entry.mask).map (failOf cause)

/-- A record about lanes of a group (R377, R378). -/
def groupRec (s : State) (gk : Nat) (f : Fail) (cause : Nat) (lanes : LaneMask) (pc : Dword) (park : Bool) : FaultRec :=
  let g := s.group gk
  let t := s.team g.tk
  let r := s.grid t.grid
  { va := f.va, kind := f.kind, s2 := f.s2, sz := f.sz, pc := some pc, hdr := r.hdr, park := park, lanes := lanes,
    grid := t.grid, team := t.id, group := g.gid, cause := cause, tmv := false, fn := r.fn, pasid := r.pasid,
    tstamp := BitVec.ofNat 22 (s.time / 1024) }

/-- A record raised: it waits for its fault queue (R379). -/
def State.raise (s : State) (r : FaultRec) : State := { s with recs := s.recs ++ [r] }
/-- A record that has been written counts for its grid (R334, R381). -/
def State.countRecord (s : State) (r : FaultRec) : State :=
  let g := s.grid r.grid
  if g.present then
    s.setGrid r.grid { g with
      nflt := g.nflt + 1, firstCause := if r.tmv then g.firstCause else some (g.firstCause.getD r.cause) }
  else s

/-! ## Frontier -/

/-- An entry takes part in merges (R45). -/
def Entry.mergeable (e : Entry) : Bool :=
  !e.owner && !e.barWait && e.sleep == 0 && e.replay.isNone && e.pend.isNone

/-- An entry joins a frontier, merging with the mergeable entry at its PC (R45): held lanes with held ones, running lanes with
running ones (R54). -/
def insertEntry (e : Entry) : List Entry → List Entry
  | [] => if e.mask = 0 then [] else [e]
  | f :: r =>
    if e.mask = 0 then f :: r
    else if e.pc = f.pc ∧ e.held = f.held ∧ e.mergeable ∧ f.mergeable then
      { f with mask := f.mask ||| e.mask, prio := if f.prio.ult e.prio then e.prio else f.prio, count := 0, promoted := none } :: r
    else f :: insertEntry e r

/-- Entries that have become mergeable join those at their PC. -/
def normFrontier (l : List Entry) : List Entry := l.foldl (fun acc e => insertEntry e acc) []

/-- Lanes leave every entry of a frontier; entries without lanes vanish. -/
def dropLanes (m : LaneMask) (l : List Entry) : List Entry :=
  (l.map (fun e => { e with mask := e.mask &&& ~~~m })).filter (fun e => e.mask != 0)

/-- Lanes in the frontier, held ones included. -/
def Group.frontLanes (g : Group) : LaneMask := g.frontier.foldl (fun m e => m ||| e.mask) 0

/-- PARKED (R58). -/
def Group.parkedLanes (g : Group) : LaneMask := g.parked.foldl (fun m p => m ||| p.mask) 0

/-- A lane remains in the frontier, held or parked (R60). -/
def Group.live (g : Group) : Bool := g.present && !(g.frontier.isEmpty && g.parked.isEmpty)

/-- The order of R47: promotion, priority, PC. -/
def ahead (a b : Entry) : Bool :=
  match a.promoted, b.promoted with
  | some x, some y => decide (x < y)
  | some _, none => true
  | none, some _ => false
  | none, none => b.prio.ult a.prio || (a.prio == b.prio && a.pc.ult b.pc)

/-! ## Landings -/

/-- Join PC of a landing, from the header VA of its kernel. -/
def Landing.pc (h : Dword) (l : Landing) : Dword := h + (l.joff.setWidth 64) * 4

/-- Lanes leave landings: those of `m` leave every landing that the test selects; emptied landings are discarded (R55). -/
def leaveLandings (m : LaneMask) (sel : Landing → Bool) (ls : List Landing) : List Landing :=
  (ls.map (fun l => if sel l then { l with await := l.await &&& ~~~m, held := l.held &&& ~~~m } else l)).filter
    (fun l => l.await != 0)

/-- The break rule (R55) for lanes whose priority fell to `p`. -/
def breakRule (m : LaneMask) (p : BitVec 12) (ls : List Landing) : List Landing :=
  leaveLandings m (fun l => p.ult l.jprio) ls

/-- Lanes of `m` at `pc` become held by the most recently pushed landing that awaits them there (R54). -/
def holdLanes (h pc : Dword) (m : LaneMask) : List Landing → LaneMask × List Landing
  | [] => (0, [])
  | l :: r =>
    let (got, r') := holdLanes h pc m r
    let mine := if l.pc h = pc then m &&& ~~~got &&& l.await else 0
    (got ||| mine, { l with held := l.held ||| mine } :: r')

/-- An entry reaches its PC: its awaited lanes are held, the others run on (R54). -/
def arrive (h : Dword) (e : Entry) (g : Group) : Group :=
  let (got, ls) := holdLanes h e.pc e.mask g.landings
  let heldPart := { e with mask := e.mask &&& got, held := true, count := 0, promoted := none }
  let rest := { e with mask := e.mask &&& ~~~got }
  { g with landings := ls, frontier := insertEntry rest (insertEntry heldPart g.frontier) }

/-- The oldest landing whose awaited lanes are all held. -/
def completeOne (ls : List Landing) : Option Landing := ls.find? (fun l => l.await != 0 && l.await == l.held)

/-- The entries that the released lanes of a landing form (R45, R54): one of the lanes that run on, and beside it the parts of
entries that wait after a `bar` or sleep, which take part in no merge. -/
def releasedEntries (h : Dword) (l : Landing) (f : List Entry) : List Entry :=
  let part := (f.filter (fun e => e.mask &&& l.await != 0)).map (fun e =>
    { e with prio := l.jprio, pc := l.pc h, mask := e.mask &&& l.await, held := false, count := 0, promoted := none })
  let run := part.filter (fun e => !e.barWait && e.sleep == 0)
  { Entry.reset with
    prio := l.jprio, pc := l.pc h, mask := run.foldl (fun m e => m ||| e.mask) 0, owner := run.any (·.owner) } ::
    part.filter (fun e => e.barWait || e.sleep != 0)
/-- Lanes of an entry that had a higher priority in another frontier. -/
def fallen (old : List Entry) (e : Entry) : LaneMask :=
  old.foldl (fun m x => if e.prio.ult x.prio then m ||| (x.mask &&& e.mask) else m) 0
/-- Released lanes that an older landing awaits at their PC become held by it (R54). -/
def holdReleased (h : Dword) (rel : LaneMask) (g : Group) : Group :=
  let x := g.frontier.foldl (fun (x : List Entry × List Entry × List Landing) e =>
    if e.held then (x.1 ++ [e], x.2)
    else
      let r := holdLanes h e.pc (e.mask &&& rel) x.2.2
      (x.1 ++ [{ e with mask := e.mask &&& ~~~r.1 }],
       x.2.1 ++ [{ e with mask := e.mask &&& r.1, held := true, count := 0, promoted := none }], r.2)) ([], [], g.landings)
  { g with landings := x.2.2, frontier := x.2.1.foldl (fun l e => insertEntry e l) (x.1.filter (fun e => e.mask != 0)) }
/-- A complete landing goes (R54): its lanes are released and merge, those whose priority fell leave the landings above it, and older
landings hold the lanes that they await. -/
def releaseLanding (h : Dword) (l : Landing) (g : Group) : Group :=
  let f := (releasedEntries h l g.frontier).foldl (fun f e => insertEntry e f) (dropLanes l.await g.frontier)
  let ls := f.foldl (fun ls e => breakRule (fallen g.frontier e &&& l.await) e.prio ls) (g.landings.erase l)
  holdReleased h l.await { g with landings := ls, frontier := f }
/-- Landings that are complete release their lanes (R54), one after the other. -/
def completeLandings (h : Dword) : Nat → Group → Group
  | 0, g => g
  | n + 1, g =>
    match completeOne g.landings with
    | none => g
    | some l => completeLandings h n (releaseLanding h l g)

/-- Every landing that can complete does. -/
def settle (h : Dword) (g : Group) : Group := completeLandings h (g.landings.length + 1) g

/-! ## Ending and parking lanes -/

/-- The loop owner ceases when no entry is the owner (R61). -/
def ownerCheck (g : Group) : Group :=
  if g.frontier.any (·.owner) then g else { g with loops := [] }

/-- Lanes end (R60): they leave the frontier, every landing and the parked sub-groups, and lose their reservations. -/
def endLanes (h : Dword) (m : LaneMask) (g : Group) : Group :=
  if m = 0 then g else
  let g := { g with
    frontier := dropLanes m g.frontier
    landings := leaveLandings m (fun _ => true) g.landings
    parked := (g.parked.map (fun p => { p with mask := p.mask &&& ~~~m })).filter (fun p => p.mask != 0)
    resv := g.resv.filter (fun r => !m.getLsbD r.1) }
  let g := ownerCheck g
  settle h { g with frontier := normFrontier g.frontier }

/-- The failures of a bundle by cause, in the order of each cause's lowest lane (R56, R313). -/
def groupFails (fs : List Fail) : List (Option Nat × List Fail) :=
  lanes32.foldl (fun acc l =>
    match fs.find? (fun f => f.lane == l) with
    | none => acc
    | some f =>
      if acc.any (fun x => x.1 == f.cause) then acc.map (fun x => if x.1 == f.cause then (x.1, x.2 ++ [f]) else x)
      else acc ++ [(f.cause, [f])]) []

/-- What stays with a sub-group that parks at a bundle (R58, R235). -/
structure ParkContext where
  /-- Bundle or fetch PC. -/
  pc : Dword
  /-- Priority of the entry. -/
  prio : BitVec 12
  /-- lc0-lc2 before the bundle. -/
  lc : NMap Dword
  /-- Loop context before the bundle. -/
  loops : List LoopLevel
  /-- Saved SB or m-register. -/
  base : Option SavedBase
deriving DecidableEq, Repr

/-- One group of failures takes effect on lanes that have left the frontier already (R56): a team-memory violation switches
off, a parkable cause parks, any other cause ends. -/
def raiseGroup (gk : Nat) (x : ParkContext) (s : State) (fs : Option Nat × List Fail) : State :=
  let m := fs.2.foldl (fun m f => m ||| oneLane f.lane) 0
  let h := (s.grid (s.team (s.group gk).tk).grid).hdr
  match fs.1, fs.2 with
  | none, _ =>
    let g := s.group gk
    s.setGroup gk (endLanes h m { g with faultmask := g.faultmask ||| m })
  | some _, [] => s
  | some c, f :: _ =>
    let r := groupRec s gk f c m x.pc (parkable c)
    let s := s.raise r
    let g := s.group gk
    if parkable c then
      s.setGroup gk { g with
        parked := g.parked ++ [{ mask := m, pc := x.pc, prio := x.prio, record := r, lc := x.lc, loops := x.loops,
                                 base := x.base, reply := none }]
        resv := g.resv.filter (fun r => !m.getLsbD r.1) }
    else s.setGroup gk (endLanes h m { g with faulted := g.faulted ||| m })

/-- TAKING FAULTS: the failing lanes of one bundle or fetch leave the frontier, park or end, and their records are raised
(R56-R60, R313). -/
def raiseFails (gk : Nat) (x : ParkContext) (fs : List Fail) (s : State) : State :=
  (groupFails fs).foldl (raiseGroup gk x) s

/-- THE RETURN FROM A FAULT: a parked sub-group re-enters the frontier at its PC and priority, as an entry of its own
(R59). -/
def replayParked (p : Parked) (g : Group) : Group :=
  { g with
    parked := g.parked.erase p
    frontier := g.frontier ++ [{ Entry.reset with
      prio := p.prio, pc := p.pc, mask := p.mask
      replay := some { lc := p.lc, loops := p.loops, base := p.base,
                       trap := p.record.cause == 0x140 || p.record.cause == 0x141 } }] }

/-! ## Commit -/

/-- The pass ends of a bundle whose last word is at `last` (R249): the counters, the levels left, and the PC of a new
pass. -/
def passEnd (last : Dword) : List LoopLevel → NMap Dword → NMap Dword × List LoopLevel × Option Dword
  | [], lc => (lc, [], none)
  | l :: outer, lc =>
    -- levels are given innermost first
    if l.first + BitVec.ofNat 64 (4 * l.len) = last then
      let c := nget 0 lc l.lc - 1
      let lc := nput lc l.lc c
      if c = 0 then passEnd last outer lc else (lc, l :: outer, some l.first)
    else (lc, l :: outer, none)

/-- Lanes of a list of moves. -/
def movedLanes (ms : List (LaneMask × Dword)) : LaneMask := ms.foldl (fun m x => m ||| x.1) 0

/-- The context that lanes failing in the bundle on the port park with. -/
def parkContext (s : State) : ParkContext :=
  { pc := s.cur.pc, prio := s.cur.entry.prio, lc := s.cur.src.lc,
    loops := if s.cur.entry.owner then s.cg.loops else [], base := s.cur.base }

/-- What the end of the bundle on the port does to its loops (R249): counters, levels left innermost first, PC of a new pass. -/
def passResult (s : State) : NMap Dword × List LoopLevel × Option Dword :=
  if s.cur.entry.owner && s.cur.act &&& ~~~s.cur.exited != 0 then
    passEnd (s.cur.npc - 4) s.cg.loops.reverse s.cg.regs.lc
  else (s.cg.regs.lc, s.cg.loops.reverse, none)

/-- The group with the loops of the bundle on the port. -/
def loopedGroup (s : State) : Group :=
  if s.cur.entry.owner || s.cur.newLoop.isSome then
    { s.cg with loops := (passResult s).2.1.reverse ++ s.cur.newLoop.toList, regs := { s.cg.regs with lc := (passResult s).1 } }
  else s.cg

/-- The surviving lanes of the bundle go on: `exit`, the end of a loop pass, `prio` with the break rule, and the PCs the
lanes reach (R49, R50, R54, R249, R250, R262, R269). -/
def advanceLanes (s : State) : State :=
  let c := s.cur
  let h := s.cgrid.hdr
  let stay := c.act &&& ~~~c.exited
  let g := loopedGroup s
  let owner := (c.entry.owner || c.newLoop.isSome) && !g.loops.isEmpty
  -- prio and the break rule
  let p := c.newPrio.getD c.entry.prio
  let g := if p.ult c.entry.prio then { g with landings := breakRule stay p g.landings } else g
  let next := (passResult s).2.2.getD c.npc
  let entryAt (m : LaneMask) (pc : Dword) : Entry :=
    { Entry.reset with prio := p, pc := pc, mask := m, owner := owner, barWait := c.bar, sleep := c.sleep }
  let g := arrive h (entryAt (stay &&& ~~~movedLanes c.moves) next) g
  let g := c.moves.foldl (fun g x => arrive h (entryAt (x.1 &&& stay) x.2) g) g
  s.mapCg (fun _ => endLanes h (c.act &&& c.exited) g)

/-- The end of a bundle (R49): its failing lanes park or end, the others perform it whole and go on. -/
def commitBundle (s : State) : State :=
  let x := parkContext s
  let fs := s.cur.fails
  let s := advanceLanes s
  let s := raiseFails s.cur.gk x fs s
  let h := s.cgrid.hdr
  let s := s.mapCg (fun g => settle h (ownerCheck { g with frontier := normFrontier g.frontier }))
  s.mapCur (fun c => { c with fails := [], moves := [], exited := 0, newPrio := none, bar := false, sleep := 0, newLoop := none, act := 0 })

/-- Saving ends (R86, R87). -/
def leaveSaving (b : Bank) : Bank := { b with saving := none, starve := 0, oldest := none }
/-- The bank of a sequencer. -/
def State.seqBank (s : State) (core : Nat) : Bank := nget Bank.reset s.seqBanks core
/-- The bank of a sequencer replaced. -/
def State.setSeqBank (s : State) (core : Nat) (b : Bank) : State := { s with seqBanks := nput s.seqBanks core b }
/-- CLOCK of a core's cluster (R266). -/
def State.clockOf (s : State) (core : Nat) : Dword := (nget Cluster.reset s.clusters (clusterOf core)).clock
/-- TOKBANK of a quadrant (R91). -/
def tokbank (q : Quad) : Nat :=
  let sav := match q.bank.saving with | some x => 2 ^ 12 + x.price * 2 ^ 16 | none => 0
  let hold := match q.hold with | some h => if h.waiting then 2 ^ 13 else 0 | none => 0
  q.bank.level + sav + hold + q.bank.starve * 2 ^ 32
/-- What `rsys`, `tokq` and `amocas` of a group read beside its registers, as it stands now. -/
def State.sampleOf (s : State) (gk : Nat) : Sampled :=
  let g := s.group gk
  let q := s.quad (quadOf gk)
  let b := nget Bank.reset s.seqBanks (coreOf gk)
  { parked := g.parkedLanes, faultmask := g.faultmask, landings := g.landings, phase := (s.team g.tk).phase,
    tokbank := tokbank q, clock := s.clockOf (coreOf gk), time := s.time,
    toks := [q.bank.spent.toNat, q.bank.savcyc.toNat, q.bank.savepi.toNat, b.savcyc.toNat, b.spent.toNat] }
/-- The same for the group on the port. -/
def State.sampleHere (s : State) : Sampled := s.sampleOf s.cur.gk
/-- What the bundle on the port reads of it: as it stood when the bundle issued (R48, R266). -/
def State.sampledNow (s : State) : Sampled := s.cur.sampled.getD s.sampleHere

/-- A bundle that must wait goes back into the frontier, issued and uncommitted; nothing of it has happened but the
increment of AM 2 and AM 3 (R45, R235, R261, R272). -/
def blockBundle (k : WaitKind) (s : State) : State :=
  let c := s.cur
  let now := s.cg.regs
  let regs := match c.base.filter (fun _ => c.stepped) with
    | none => c.pre
    | some b => if b.isM then { c.pre with m := nput c.pre.m b.reg (nget 0 now.m b.reg) }
                else { c.pre with s := nput c.pre.s b.reg (nget 0 now.s b.reg)
                                  stags := c.pre.stags &&& ~~~(1#64 <<< b.reg) }
  let p : Pend := { kind := k, act := c.act, src := c.src, words := c.words, npc := c.npc, walks := c.walks,
                    fails := c.walkFails, walked := c.walked, arrived := c.arrived, broken := c.broken, stage := .start, turn := s.nextTicket, answer := c.answer, got := c.got, replay := c.replay, base := c.base, chain := c.chain, svc := c.svc
                    sampled := some (c.sampled.getD s.sampleHere) }
  let s := if k = .pub then { s with nextTicket := s.nextTicket + 1 } else s
  s.mapCg (fun g => { g with regs := regs, frontier := g.frontier ++ [{ c.entry with pend := some p }] })

/-- The end of a word: C = 1 leaves the bundle open for the next word, C = 0 commits it (R176). -/
def finish (c : BitVec 1) (s : State) : State :=
  if c = 1 ∨ s.cur.dry then s.mapCur (fun x => { x with wpc := x.wpc + 4 })
  else match s.cur.blocked with
    | some k => blockBundle k s
    | none => commitBundle s

/-- A word finds that its bundle must wait. A `pub` takes its place in the order of walks first (R138). -/
def State.block (s : State) (k : WaitKind) : State :=
  s.mapCur (fun c => { c with blocked := some (if k = .pub then k else c.blocked.getD k) })

/-- Failures of a word: the lanes that fail perform no word of the bundle; an earlier word's failure of a lane stands
(R49, R57). -/
def addFails (fs : List Fail) (s : State) : State :=
  s.mapCur (fun c =>
    let new := fs.filter (fun f => c.act.getLsbD f.lane)
    { c with fails := c.fails ++ new, act := c.act &&& ~~~(new.foldl (fun m f => m ||| oneLane f.lane) 0) })

end Sys2Proof.Machine
end

