-- ==== Sys2Proof/Machine/Operands.lean ====
section
/-! DEFINITION. Operand forms: vector operand codes (R179), elements of a register (R8, R148), scalar and mask registers
(R180, R204), latches (R64, R65), and the frame that every vector word shares (R177, R195, R222). -/

namespace Sys2Proof.Machine

/-- Answer of an instruction. -/
abbrev Out := Host.Outcome State Fault Refusal

/-! ## Elements -/

/-- An integer element type (R148). -/
structure ITy where
  /-- Width in bits. -/
  w : Nat
  /-- Two's complement. -/
  signed : Bool
deriving DecidableEq, Repr

/-- TY3 in its integer coding (R148, R181). -/
def ity (t : BitVec 3) : ITy := { w := 8 * 2 ^ (t.toNat % 4), signed := decide (t.toNat < 4) }
/-- Width of a 2-bit W field (R181, R188). -/
def widthOf (w : BitVec 2) : Nat := 8 * 2 ^ w.toNat
/-- Element `e` of width `w` of a register image, as a bit pattern (R8). -/
def elem (x : VReg) (w e : Nat) : Nat := (x.toNat >>> (w * e)) % 2 ^ w
/-- The first `n` elements of a function, packed. -/
def packNat (w : Nat) (f : Nat → Nat) : Nat → Nat
  | 0 => 0
  | n + 1 => packNat w f n + (f n % 2 ^ w) <<< (w * n)
/-- The register image whose element `e` is `f e`. -/
def image (w : Nat) (f : Nat → Nat) : VReg := BitVec.ofNat 2048 (packNat w f (2048 / w))
/-- Every element holds one pattern: the scalar operand of majors 4 and 5 (R182). -/
def splat (w x : Nat) : VReg := image w (fun _ => x)
/-- Value of a bit pattern under a type. -/
def ival (ty : ITy) (x : Nat) : Int :=
  let v := x % 2 ^ ty.w
  if ty.signed ∧ 2 ^ (ty.w - 1) ≤ v then (v : Int) - 2 ^ ty.w else v
/-- The low `w` bits of an integer, as a pattern: wrap_int (R149). -/
def patt (w : Nat) (x : Int) : Nat := (x % 2 ^ w).toNat
/-- Two's-complement value of `n` bits (R188). -/
def sext (x n : Nat) : Int := ival { w := n, signed := true } x
/-- Lane that holds element `e` of width `w`. -/
def laneOf (w e : Nat) : Nat := e * w / 64
/-- Lane ℓ of a register image. -/
def laneVal (x : VReg) (l : Nat) : Dword := BitVec.ofNat 64 (elem x 64 l)
/-- The image with all bits of the lanes of a mask set. -/
def laneImage (m : LaneMask) : VReg := image 64 (fun l => if m.getLsbD l then 2 ^ 64 - 1 else 0)
/-- The lanes of `m` from `new`, the others from `old`. -/
def mixLanes (m : LaneMask) (old new : VReg) : VReg := (old &&& ~~~laneImage m) ||| (new &&& laneImage m)

/-! ## Reading operands -/

/-- The vector register or latch or constant that an operand code reads, at element width `w` (R179). -/
def readOpnd (r : Regs) (c : BitVec 6) (w : Nat) : VReg :=
  if c.toNat < 0x38 then nget 0 r.v c.toNat
  else if c.toNat < 0x3E then (nget { val := 0, chain := 0, packet := 0 } r.latch (c.toNat - 0x38)).val
  else if c.toNat = 0x3E then 0
  else image w (fun e => e)
/-- Tag bits that an operand code reads: only registers carry tags (R129). -/
def readTags (r : Regs) (c : BitVec 6) : LaneMask := if c.toNat < 0x38 then nget 0 r.vtags c.toNat else 0
/-- A scalar register. -/
def readS (r : Regs) (n : BitVec 6) : Dword := nget 0 r.s n.toNat
/-- A source vector operand of the bundle on the port (R48, R49). -/
def State.opnd (s : State) (c : BitVec 6) (w : Nat) : VReg := readOpnd s.cur.src c w
/-- A source scalar of the bundle on the port. -/
def State.sreg (s : State) (n : BitVec 6) : Dword := readS s.cur.src n
/-- A source p-register. -/
def State.preg (s : State) (n : Nat) : LaneMask := nget 0 s.cur.src.p n

/-! ## Landing registers -/

/-- The 64-bit value of a landing (R51). -/
def landingWord (l : Landing) : Nat := l.await.toNat + l.jprio.toNat * 2 ^ 32 + l.joff.toNat * 2 ^ 44
/-- The image of a landing register: landings from number `o` on (R52). -/
def landingImage (ls : List Landing) (o : Nat) : VReg :=
  image 64 (fun i => match ls[i + o]? with | some l => landingWord l | none => 0)

/-! ## Latches -/

/-- A latch read that keeps R65: written earlier in this hold chain, from this packet or the one before. -/
def latchLegal (s : State) (c : BitVec 6) : Bool :=
  let l := nget { val := 0, chain := 0, packet := 0 } s.cur.src.latch (c.toNat - 0x38)
  let here := s.cur.wpc &&& ~~~15#64
  l.chain == s.cur.chain && l.chain != 0 && (here == l.packet || here == l.packet + 16)
/-- An operand code that names a latch. -/
def isLatch (c : BitVec 6) : Bool := decide (0x38 ≤ c.toNat ∧ c.toNat < 0x3E)
/-- Latch misuse (R65): every lane of the entry fails. -/
def latchFails (s : State) (codes : List (BitVec 6)) : List Fail :=
  if codes.any (fun c => isLatch c && !latchLegal s c) then uniformFail s 0x0C3 else []

/-! ## Writing results -/

/-- A vector register written in the lanes of a mask; their tag bits become those given (R129, R179). -/
def writeV (d : BitVec 6) (m : LaneMask) (val : VReg) (tags : LaneMask) (r : Regs) : Regs :=
  if d.toNat < 0x38 then
    { r with
      v := nput r.v d.toNat (mixLanes m (nget 0 r.v d.toNat) val)
      vtags := nput r.vtags d.toNat ((nget 0 r.vtags d.toNat &&& ~~~m) ||| (tags &&& m)) }
  else r
/-- A scalar register written, with its tag bit. -/
def writeS (d : BitVec 6) (x : Dword) (tag : Bool) (r : Regs) : Regs :=
  { r with
    s := nput r.s d.toNat x
    stags := if tag then r.stags ||| (1#64 <<< d.toNat) else r.stags &&& ~~~(1#64 <<< d.toNat) }
/-- The latches of pipe 0 (V0), 1 (V1) or 2 (X) take a new last result; inactive lanes hold 0 (R64). -/
def pushLatch (pipe : Nat) (m : LaneMask) (val : VReg) (chain : Nat) (wpc : Dword) (r : Regs) : Regs :=
  let old := nget { val := 0, chain := 0, packet := 0 } r.latch (2 * pipe)
  { r with latch := nput (nput r.latch (2 * pipe + 1) old) (2 * pipe)
             { val := val &&& laneImage m, chain := chain, packet := wpc &&& ~~~15#64 } }
/-- Flags ORed into NFLAGS (R157). -/
def raiseFlags (f : BitVec 8) (r : Regs) : Regs := { r with nflags := r.nflags ||| f }

/-! ## The frame of a vector word -/

/-- The result of a vector word of pipe V0, V1 or X: latch, register unless K, flags (R64, R177, R195). -/
def putResult (pipe : Nat) (k : BitVec 1) (d : BitVec 6) (val : VReg) (flags : BitVec 8) (s : State) : State :=
  let m := s.cur.act
  if m = 0 then s
  else s.mapRegs (fun r =>
    let r := pushLatch pipe m val s.cur.chain s.cur.wpc r
    let r := if k = 1 then r else writeV d m val 0 r
    raiseFlags flags r)

/-- A vector word: latch misuse is judged on the codes it reads, then its result is written. -/
def vecWord (pipe : Nat) (c k : BitVec 1) (d : BitVec 6) (reads : List (BitVec 6)) (f : State → VReg × BitVec 8)
    (s : State) : Out :=
  let s := addFails (latchFails s reads) s
  let r := f s
  .next (finish c (putResult pipe k d r.1 r.2 s))

/-- Element results with flags: the image, and the union of the flags of the elements of active lanes (R157). -/
def emap (w : Nat) (act : LaneMask) (f : Nat → Nat × BitVec 8) : VReg × BitVec 8 :=
  (image w (fun e => (f e).1),
   (List.range (2048 / w)).foldl (fun g e => if act.getLsbD (laneOf w e) then g ||| (f e).2 else g) 0)

/-- A scalar word without faults: it executes once for its bundle, if any lane performs it (R202). -/
def scalarWord (c : BitVec 1) (f : State → Regs → Regs) (s : State) : Out :=
  .next (finish c (if s.cur.act = 0 then s else s.mapRegs (f s)))

end Sys2Proof.Machine
end

