-- ==== Sys2Proof/Machine/Flags.lean ====
section
/-! DEFINITION. Flags and the two ways an exact integer reaches its destination (R149, R156, R157). -/

namespace Sys2Proof.Machine

/-- NV: invalid operation. -/
def flagNV : BitVec 8 := 0x01
/-- DZ: division by zero. -/
def flagDZ : BitVec 8 := 0x02
/-- OF: overflow. -/
def flagOF : BitVec 8 := 0x04
/-- UF: underflow. -/
def flagUF : BitVec 8 := 0x08
/-- NX: inexact. -/
def flagNX : BitVec 8 := 0x10
/-- SA: integer saturation. -/
def flagSA : BitVec 8 := 0x20
/-- CL: conversion clamp. -/
def flagCL : BitVec 8 := 0x40
/-- NI: NaN input. -/
def flagNI : BitVec 8 := 0x80

/-- Least value of a type. -/
def ITy.lo (ty : ITy) : Int := if ty.signed then -(2 ^ (ty.w - 1)) else 0
/-- Greatest value of a type. -/
def ITy.hi (ty : ITy) : Int := if ty.signed then 2 ^ (ty.w - 1) - 1 else 2 ^ ty.w - 1
/-- An exact integer clamped to a type. -/
def clampInt (ty : ITy) (x : Int) : Int := if x < ty.lo then ty.lo else if ty.hi < x then ty.hi else x
/-- wrap_int: the pattern, no flag. -/
def wrapInt (ty : ITy) (x : Int) : Nat × BitVec 8 := (patt ty.w x, 0)
/-- sat_int: the clamped pattern, SA when the clamp changed the value. -/
def satInt (ty : ITy) (x : Int) : Nat × BitVec 8 := (patt ty.w (clampInt ty x), if clampInt ty x = x then 0 else flagSA)

end Sys2Proof.Machine
end

