-- ==== Sys2Proof/Machine/Float.lean ====
section
/-! DEFINITION. Float formats, exact values, rounding and conversions (chapter "Number Formats and Arithmetic",
R150-R163). A finite value is exact: sign, magnitude m × 2^e. A quotient or a root carries enough bits that its last bit,
set when the rest is not zero, decides no rounding wrongly. -/

namespace Sys2Proof.Machine

/-- The float formats (R150). -/
inductive FFmt where
  | f64 | f32 | bf16 | f16 | e4m3 | e5m2 | e3m2 | e2m3 | e2m1
deriving DecidableEq, Repr

/-- Bits of a format. -/
def FFmt.bits : FFmt → Nat
  | .f64 => 64 | .f32 => 32 | .bf16 => 16 | .f16 => 16 | .e4m3 => 8 | .e5m2 => 8 | .e3m2 => 6 | .e2m3 => 6 | .e2m1 => 4
/-- Width of the fraction field. -/
def FFmt.frac : FFmt → Nat
  | .f64 => 52 | .f32 => 23 | .bf16 => 7 | .f16 => 10 | .e4m3 => 3 | .e5m2 => 2 | .e3m2 => 2 | .e2m3 => 3 | .e2m1 => 1
/-- Exponent bias. -/
def FFmt.bias : FFmt → Int
  | .f64 => 1023 | .f32 => 127 | .bf16 => 127 | .f16 => 15 | .e4m3 => 7 | .e5m2 => 15 | .e3m2 => 3 | .e2m3 => 1 | .e2m1 => 1
/-- The format has infinities. -/
def FFmt.infs : FFmt → Bool
  | .f64 => true | .f32 => true | .bf16 => true | .f16 => true | .e5m2 => true
  | .e4m3 => false | .e3m2 => false | .e2m3 => false | .e2m1 => false
/-- The all-ones exponent field. -/
def FFmt.eOnes (f : FFmt) : Nat := 2 ^ (f.bits - 1 - f.frac) - 1
/-- Exponent of the smallest normal binade. -/
def FFmt.emin (f : FFmt) : Int := 1 - f.bias
/-- Exponent of the binade of the largest finite value. -/
def FFmt.emax (f : FFmt) : Int := (f.eOnes : Int) - f.bias - (if f.infs then 1 else 0)
/-- Significand of the largest finite value, frac + 1 bits. -/
def FFmt.maxSig (f : FFmt) : Nat := 2 ^ (f.frac + 1) - (if f = .e4m3 then 2 else 1)
/-- Canonical NaN (R150); the formats without NaN codes deliver +0 (R159). -/
def FFmt.nan : FFmt → Nat
  | .f64 => 0x7FF8000000000000 | .f32 => 0x7FC00000 | .bf16 => 0x7FC0 | .f16 => 0x7E00 | .e4m3 => 0x7F | .e5m2 => 0x7E
  | .e3m2 => 0 | .e2m3 => 0 | .e2m1 => 0
/-- TY3 in its float coding (R181). -/
def ffmt (t : BitVec 3) : FFmt :=
  match t.toNat % 4 with
  | 0 => .f64 | 1 => .f32 | 2 => .bf16 | _ => .f16

/-- A float value. -/
inductive FVal where
  /-- NaN, signalling or quiet. -/
  | nan (sig : Bool)
  /-- Infinity. -/
  | inf (neg : Bool)
  /-- Sign, magnitude m × 2^e; m = 0 is a zero. -/
  | num (neg : Bool) (m : Nat) (e : Int)
deriving DecidableEq, Repr

/-- Sign bit, exponent field and fraction field of a pattern. -/
def FFmt.split (f : FFmt) (x : Nat) : Bool × Nat × Nat :=
  (x.testBit (f.bits - 1), (x >>> f.frac) % 2 ^ (f.bits - 1 - f.frac), x % 2 ^ f.frac)
/-- value_of (R150). -/
def valueOf (f : FFmt) (x : Nat) : FVal :=
  let (s, ex, fr) := f.split x
  if ex = f.eOnes ∧ f.infs then
    if fr = 0 then .inf s
    else .nan (f.bits != 8 && !fr.testBit (f.frac - 1))
  else if f = .e4m3 ∧ ex = 15 ∧ fr = 7 then .nan false
  else if ex = 0 then .num s fr (f.emin - f.frac)
  else .num s (2 ^ f.frac + fr) ((ex : Int) - f.bias - f.frac)
/-- The pattern of an infinity. -/
def FFmt.infPat (f : FFmt) (neg : Bool) : Nat := (if neg then 2 ^ (f.bits - 1) else 0) + f.eOnes <<< f.frac
/-- The pattern of the largest finite magnitude. -/
def FFmt.maxPat (f : FFmt) (neg : Bool) : Nat :=
  (if neg then 2 ^ (f.bits - 1) else 0) + (f.emax + f.bias).toNat <<< f.frac + (f.maxSig - 2 ^ f.frac)
/-- The pattern of a zero. -/
def FFmt.zeroPat (f : FFmt) (neg : Bool) : Nat := if neg then 2 ^ (f.bits - 1) else 0

/-- Where roundings take their mode and their random bits. -/
structure REnv where
  /-- Rounding mode 0-5 (R158). -/
  rm : Nat
  /-- FZI. -/
  fzi : Bool
  /-- FZO. -/
  fzo : Bool
  /-- SEED (R161). -/
  seed : Dword
deriving DecidableEq, Repr

/-- Round to nearest even, no flush: the fixed rounding of engines and of `amofadd`. -/
def REnv.rne : REnv := { rm := 0, fzi := false, fzo := false, seed := 0 }

/-- sr_draw (R161). -/
def srDraw (seed : Dword) (e : Nat) : Nat :=
  let z := seed + BitVec.ofNat 64 (e + 1) * 0x9E3779B97F4A7C15#64
  let z := (z ^^^ (z >>> 30)) * 0xBF58476D1CE4E5B9#64
  let z := (z ^^^ (z >>> 27)) * 0x94D049BB133111EB#64
  let z := z ^^^ (z >>> 31)
  (z >>> 48).toNat
/-- sr_advance (R161). -/
def srAdvance (seed : Dword) : Dword := seed * 0x5851F42D4C957F2D#64 + 0x14057B7EF767814F#64

/-- m × 2^e as floor at exponent q with the rest: integer part, rest and its scale (rest < scale). -/
def atExp (m : Nat) (e q : Int) : Nat × Nat × Nat :=
  if q ≤ e then (m <<< (e - q).toNat, 0, 1)
  else let k := (q - e).toNat
       (m >>> k, m % 2 ^ k, 2 ^ k)
/-- The magnitude goes up from the floor (R158): mode, sign, floor, rest, scale, draw. -/
def roundUp (rm : Nat) (neg : Bool) (n r k draw : Nat) : Bool :=
  if r = 0 then false
  else match rm with
    | 0 => decide (k < 2 * r ∨ (2 * r = k ∧ n % 2 = 1))
    | 1 => false
    | 2 => !neg
    | 3 => neg
    | 4 => decide (k ≤ 2 * r)
    | _ => if neg then !decide (draw < 65536 * (k - r) / k) else decide (draw < 65536 * r / k)
/-- Binary exponent of m × 2^e, m ≠ 0. -/
def binExp (m : Nat) (e : Int) : Int := (Nat.log2 m : Int) + e

/-- round_float of a non-zero finite value (R157-R160): pattern and flags. -/
def roundNum (f : FFmt) (env : REnv) (draw : Nat) (neg : Bool) (m : Nat) (e : Int) : Nat × BitVec 8 :=
  let sgn := f.zeroPat neg
  let b := binExp m e
  let top := max f.emin (min b f.emax)
  let q := top - f.frac
  let (n, r, k) := atExp m e q
  let n' := if roundUp env.rm neg n r k draw then n + 1 else n
  let inexact := r != 0
  let past := decide (q = f.emax - f.frac ∧ f.maxSig < n')
  if past then
    if f.infs then
      let fin := env.rm == 1 || (env.rm == 2 && neg) || (env.rm == 3 && !neg)
      (if fin then f.maxPat neg else f.infPat neg, flagOF ||| flagNX)
    else (f.maxPat neg, flagCL ||| flagNX)
  else
    -- tininess: the rounding with an unbounded exponent range stays below the minimum normal
    let (n2, r2, k2) := atExp m e (b - f.frac)
    let n2' := if roundUp env.rm neg n2 r2 k2 draw then n2 + 1 else n2
    let tiny := decide (b < f.emin) && !decide (b = f.emin - 1 ∧ n2' = 2 ^ (f.frac + 1))
    let fl : BitVec 8 := if inexact then (if tiny then flagUF ||| flagNX else flagNX) else 0
    if n' < 2 ^ f.frac then
      if n' ≠ 0 ∧ env.fzo then (sgn, flagUF ||| flagNX) else (sgn + n', fl)
    else if n' = 2 ^ (f.frac + 1) then (sgn + (q + 1 + f.frac + f.bias).toNat <<< f.frac, fl)
    else (sgn + (q + f.frac + f.bias).toNat <<< f.frac + (n' - 2 ^ f.frac), fl)

/-- round_float of any value into a format (R158, R159): a NaN gives the canonical NaN, with NV in the formats that have
no NaN code; an infinity gives the largest magnitude with NV where the format has none. -/
def roundVal (f : FFmt) (env : REnv) (draw : Nat) (v : FVal) : Nat × BitVec 8 :=
  match v with
  | .nan _ => (f.nan, if f = .e3m2 ∨ f = .e2m3 ∨ f = .e2m1 then flagNV else 0)
  | .inf s => if f.infs then (f.infPat s, 0) else (f.maxPat s, flagNV)
  | .num s m e => if m = 0 then (f.zeroPat s, 0) else roundNum f env draw s m e

/-! ## Exact operations -/

/-- NI for a NaN, NV as well for a signalling one (R154). -/
def nanFlags (vs : List FVal) : BitVec 8 :=
  vs.foldl (fun g v => match v with | .nan true => g ||| flagNI ||| flagNV | .nan false => g ||| flagNI | _ => g) 0
/-- A NaN is among the values. -/
def anyNaN (vs : List FVal) : Bool := vs.any (fun v => match v with | .nan _ => true | _ => false)
/-- Value with its sign inverted. -/
def FVal.negate : FVal → FVal
  | .nan s => .nan s | .inf s => .inf (!s) | .num s m e => .num (!s) m e
/-- Signed integer significand of a finite value at exponent q ≤ e. -/
def sigAt (neg : Bool) (m : Nat) (e q : Int) : Int := (if neg then -1 else 1) * ((m <<< (e - q).toNat : Nat) : Int)
/-- Exact sum of two values; none is an invalid ∞ − ∞. `rdn` gives the sign of an exact zero of opposite signs. -/
def addVal (rdn : Bool) (x y : FVal) : Option FVal :=
  match x, y with
  | .nan s, _ => some (.nan s)
  | _, .nan s => some (.nan s)
  | .inf s, .inf t => if s = t then some (.inf s) else none
  | .inf s, _ => some (.inf s)
  | _, .inf s => some (.inf s)
  | .num s m e, .num t n g =>
    if m = 0 ∧ n = 0 then some (.num (if s = t then s else rdn) 0 0)
    else if m = 0 then some (.num t n g)
    else if n = 0 then some (.num s m e)
    else
      let q := min e g
      let z := sigAt s m e q + sigAt t n g q
      some (if z = 0 then .num rdn 0 0 else .num (decide (z < 0)) z.natAbs q)
/-- Exact product; none is an invalid 0 × ∞. -/
def mulVal (x y : FVal) : Option FVal :=
  match x, y with
  | .nan s, .nan t => some (.nan (s || t))
  | .nan s, _ => some (.nan s)
  | _, .nan s => some (.nan s)
  | .inf s, .inf t => some (.inf (s != t))
  | .inf s, .num t n _ => if n = 0 then none else some (.inf (s != t))
  | .num s m _, .inf t => if m = 0 then none else some (.inf (s != t))
  | .num s m e, .num t n g => some (.num (s != t) (m * n) (e + g))
/-- Quotient of finite non-zero magnitudes, with 96 bits beyond the divisor and a last bit for the rest. -/
def divNum (s : Bool) (m n : Nat) (e : Int) : FVal :=
  let k := Nat.log2 n + 96
  let x := m <<< k
  .num s (2 * (x / n) + if x % n = 0 then 0 else 1) (e - k - 1)
/-- Integer square root, bit by bit from bit `i`. -/
def isqrtFrom (n : Nat) : Nat → Nat → Nat
  | 0, r => r
  | i + 1, r => if (r + 2 ^ i) * (r + 2 ^ i) ≤ n then isqrtFrom n i (r + 2 ^ i) else isqrtFrom n i r
/-- Integer square root. -/
def isqrt (n : Nat) : Nat := isqrtFrom n (Nat.log2 n / 2 + 1) 0
/-- Square root of a positive magnitude, with a last bit for the rest. -/
def sqrtNum (m : Nat) (e : Int) : FVal :=
  let e2 := if e % 2 = 0 then e - 200 else e - 201
  let x := m <<< (e - e2).toNat
  let r := isqrt x
  .num false (2 * r + if r * r = x then 0 else 1) (Int.fdiv e2 2 - 1)

/-! ## Operands under FPC -/

/-- A subnormal pattern replaced by zero of its sign under FZI; only the four arithmetic formats flush (R160). -/
def flushIn (f : FFmt) (fzi : Bool) (x : Nat) : Nat :=
  let (s, ex, _) := f.split x
  if fzi ∧ ex = 0 then f.zeroPat s else x
/-- An operand of a float word (R207). -/
def fread (env : REnv) (f : FFmt) (x : Nat) : FVal := valueOf f (flushIn f env.fzi x)
/-- A rounded result: a NaN result is canonical; flags of NaN inputs are given (R154). -/
def fres (f : FFmt) (env : REnv) (i : Nat) (fl : BitVec 8) (v : Option FVal) : Nat × BitVec 8 :=
  match v with
  | none => (f.nan, fl ||| flagNV)
  | some v =>
    let r := roundVal f env (srDraw env.seed i) v
    (r.1, fl ||| r.2)

/-- The integer nearest a finite value under a mode, with its inexactness: rounding on the integer grid (R158). -/
def roundInt (rm : Nat) (draw : Nat) (s : Bool) (m : Nat) (e : Int) : Int × Bool :=
  let (n, r, k) := atExp m e 0
  let n' := if roundUp rm s n r k draw then n + 1 else n
  (if s then -(n' : Int) else n', r != 0)
/-- cvt_f2i (R162). -/
def cvtF2I (env : REnv) (i : Nat) (ty : ITy) (v : FVal) : Nat × BitVec 8 :=
  match v with
  | .nan _ => (0, flagNV)
  | .inf s => (patt ty.w (if s then ty.lo else ty.hi), flagNV)
  | .num s m e =>
    let (y, ix) := roundInt env.rm (srDraw env.seed i) s m e
    if ty.hi < y then (patt ty.w ty.hi, flagCL ||| flagNX)
    else if y < ty.lo then (patt ty.w ty.lo, flagCL ||| flagNX)
    else (patt ty.w y, if ix then flagNX else 0)
/-- The exact value of an integer. -/
def intVal (x : Int) : FVal := .num (decide (x < 0)) x.natAbs 0

/-- FPC from before the cycle (R157), and the SEED that the word on the port draws with: that from before the cycle, or what
the last advance in it left (R161). -/
def State.renv (s : State) : REnv :=
  { rm := (s.cur.src.fpc &&& 7).toNat, fzi := s.cur.src.fpc.getLsbD 3, fzo := s.cur.src.fpc.getLsbD 4,
    seed := s.cur.seed }
/-- SEED advances once for a word that rounds under SR, whatever its lanes (R161, R207). -/
def advanceSeed (draws : Bool) (s : State) : State :=
  if draws ∧ s.renv.rm = 5 then
    (s.mapRegs (fun r => { r with seed := srAdvance s.cur.seed })).mapCur (fun c => { c with seed := srAdvance c.seed })
  else s

end Sys2Proof.Machine
end

