-- ==== Sys2Proof/Machine/FloatOps.lean ====
section
/-! DEFINITION. The float words of majors 1 and 5 (R207-R212). -/

namespace Sys2Proof.Machine

/-- One element of a float word: environment, format, element index, patterns of a, b, old d. -/
abbrev FloatOp := REnv → FFmt → Nat → Nat → Nat → Nat → Nat × BitVec 8

/-- Sum of two optional values: an invalid part makes the whole invalid. -/
def addOpt (rdn : Bool) (x : Option FVal) (y : FVal) : Option FVal :=
  match x with
  | none => none
  | some v => addVal rdn v y

/-- `fadd`. -/
def fopAdd : FloatOp := fun env f i a b _ =>
  let x := fread env f a; let y := fread env f b
  fres f env i (nanFlags [x, y]) (addVal (env.rm == 3) x y)
/-- `fsub`. -/
def fopSub : FloatOp := fun env f i a b _ =>
  let x := fread env f a; let y := fread env f b
  fres f env i (nanFlags [x, y]) (addVal (env.rm == 3) x y.negate)
/-- `fmul`. -/
def fopMul : FloatOp := fun env f i a b _ =>
  let x := fread env f a; let y := fread env f b
  fres f env i (nanFlags [x, y]) (mulVal x y)
/-- a × b ± d with the signs given, rounded once. -/
def fusedOp (negProd negD : Bool) : FloatOp := fun env f i a b d =>
  let x := fread env f a; let y := fread env f b; let z := fread env f d
  let p := (mulVal x y).map (fun v => if negProd then v.negate else v)
  fres f env i (nanFlags [x, y, z]) (addOpt (env.rm == 3) p (if negD then z.negate else z))
/-- `fma`. -/
def fopFma : FloatOp := fusedOp false false
/-- `fms`. -/
def fopFms : FloatOp := fusedOp false true
/-- `fnma`. -/
def fopFnma : FloatOp := fusedOp true false
/-- A sign change of a pattern: a NaN becomes canonical, FZI acts (R207, R209). -/
def signOp (g : Bool → Bool) : REnv → FFmt → Nat → Nat × BitVec 8 := fun env f a =>
  let x := flushIn f env.fzi a
  let v := valueOf f x
  if anyNaN [v] then (f.nan, nanFlags [v])
  else (x % 2 ^ (f.bits - 1) + f.zeroPat (g (x.testBit (f.bits - 1))), 0)
/-- `fabs`. -/
def fopAbs : FloatOp := fun env f _ a _ _ => signOp (fun _ => false) env f a
/-- `fneg`. -/
def fopNeg : FloatOp := fun env f _ a _ _ => signOp (fun b => !b) env f a
/-- `fcopysign`. -/
def fopCopysign : FloatOp := fun env f _ a b _ => signOp (fun _ => b.testBit (f.bits - 1)) env f a
/-- `fscale`: the scale is a signed integer; beyond ±5000 every format has overflowed or underflowed. -/
def fopScale : FloatOp := fun env f i a b _ =>
  let x := fread env f a
  let m := max (-5000) (min 5000 (sext b f.bits))
  fres f env i (nanFlags [x]) (some (match x with | .num s n e => .num s n (e + m) | v => v))
/-- `frnd`: an integral value of the format. -/
def fopRnd : FloatOp := fun env f i a _ _ =>
  let x := fread env f a
  match x with
  | .num s m e =>
    let (y, ix) := roundInt env.rm (srDraw env.seed i) s m e
    let r := if y = 0 then (f.zeroPat s, 0) else roundVal f { env with rm := 1, fzo := false } 0 (intVal y)
    (r.1, if ix then flagNX else 0)
  | v => fres f env i (nanFlags [v]) (some v)
/-- Order of two non-NaN values with −0 below +0 when `zeros` is set: a < b. -/
def ltVal (zeros : Bool) (x y : FVal) : Bool :=
  match x, y with
  | .inf s, .inf t => s && !t
  | .inf s, _ => s
  | _, .inf t => !t
  | .num s m e, .num t n g =>
    if m = 0 ∧ n = 0 then zeros && s && !t
    else decide (sigAt s m e (min e g) < sigAt t n g (min e g))
  | _, _ => false
/-- `fmin` and its kin: `pickSecond x y` says that the second operand is returned (R211). -/
def minmaxOp (numWins : Bool) (pickSecond : FVal → FVal → Bool) : FloatOp := fun env f _ a b _ =>
  let pa := flushIn f env.fzi a; let pb := flushIn f env.fzi b
  let x := valueOf f pa; let y := valueOf f pb
  let fl := nanFlags [x, y]
  match anyNaN [x], anyNaN [y] with
  | true, true => (f.nan, fl)
  | true, false => (if numWins then pb else f.nan, fl)
  | false, true => (if numWins then pa else f.nan, fl)
  | false, false => (if pickSecond x y then pb else pa, fl)
/-- `fmin`. -/
def fopMin : FloatOp := minmaxOp false (fun x y => ltVal true y x)
/-- `fmax`. -/
def fopMax : FloatOp := minmaxOp false (fun x y => ltVal true x y)
/-- `fminm`. -/
def fopMinm : FloatOp := minmaxOp true (fun x y => ltVal true y x)
/-- `fmaxm`. -/
def fopMaxm : FloatOp := minmaxOp true (fun x y => ltVal true x y)
/-- A float compare: its relation on non-NaN values, its answer on NaN, and whether a quiet NaN raises NV (R212). -/
def fcmpOp (rel : FVal → FVal → Bool) (onNaN quietNV : Bool) : FloatOp := fun env f _ a b _ =>
  let x := fread env f a; let y := fread env f b
  let nan := anyNaN [x, y]
  let fl := nanFlags [x, y] ||| (if nan && quietNV then flagNV else 0)
  (if (if nan then onNaN else rel x y) then 2 ^ f.bits - 1 else 0, fl)
/-- `fceq`. -/
def fopCeq : FloatOp := fcmpOp (fun x y => !ltVal false x y && !ltVal false y x) false false
/-- `fclt`. -/
def fopClt : FloatOp := fcmpOp (ltVal false) false true
/-- `fcle`. -/
def fopCle : FloatOp := fcmpOp (fun x y => !ltVal false y x) false true
/-- `fcun`. -/
def fopCun : FloatOp := fcmpOp (fun _ _ => false) true false
/-- `fcls`: one bit for the class of the pattern (R212). -/
def fopCls : FloatOp := fun _ f _ a _ _ =>
  let (s, ex, fr) := f.split a
  let bit := match valueOf f a with
    | .nan sig => if sig then 8 else 9
    | .inf neg => if neg then 0 else 7
    | .num _ _ _ =>
      if ex = 0 ∧ fr = 0 then (if s then 3 else 4)
      else if ex = 0 then (if s then 2 else 5)
      else (if s then 1 else 6)
  (2 ^ bit, 0)

/-- Element-wise result of a float word. -/
def floatImage (t : BitVec 3) (op : FloatOp) (env : REnv) (act : LaneMask) (a b d : VReg) : VReg × BitVec 8 :=
  let f := ffmt t
  emap f.bits act (fun e => op env f e (elem a f.bits e) (elem b f.bits e) (elem d f.bits e))

/-- A vector word that may draw (R161): its result is written, then SEED advances. -/
def drawWord (pipe : Nat) (draws : Bool) (c k : BitVec 1) (d : BitVec 6) (reads : List (BitVec 6))
    (f : State → VReg × BitVec 8) (s : State) : Out :=
  let s := addFails (latchFails s reads) s
  let r := f s
  .next (finish c (advanceSeed draws (putResult pipe k d r.1 r.2 s)))

/-- A word of major 1. -/
def floatWord (rd draws : Bool) (op : FloatOp) (c k : BitVec 1) (t : BitVec 3) (d a b : BitVec 6) (s : State) : Out :=
  let w := (ffmt t).bits
  drawWord 0 draws c k d ([a, b] ++ if rd then [d] else [])
    (fun s => floatImage t op s.renv s.cur.act (s.opnd a w) (s.opnd b w) (s.opnd d w)) s
/-- A word of major 5: every element reads the low bits of s(B). -/
def floatWordS (rd draws : Bool) (op : FloatOp) (c k : BitVec 1) (t : BitVec 3) (d a b : BitVec 6) (s : State) : Out :=
  let w := (ffmt t).bits
  drawWord 0 draws c k d ([a] ++ if rd then [d] else [])
    (fun s => floatImage t op s.renv s.cur.act (s.opnd a w) (splat w (s.sreg b).toNat) (s.opnd d w)) s
/-- A unary word of major 1. -/
def floatUnary (pipe : Nat) (draws : Bool) (op : FloatOp) (c k : BitVec 1) (t : BitVec 3) (d a : BitVec 6) (s : State) : Out :=
  let w := (ffmt t).bits
  drawWord pipe draws c k d [a] (fun s => floatImage t op s.renv s.cur.act (s.opnd a w) 0 0) s

/-- x + p + q as a whole (R210): none for a product 0 × ∞ and for infinities of opposite sign among the three terms. -/
def dotSum (rdn : Bool) (x : FVal) (p q : Option FVal) : Option FVal :=
  match p, q with
  | some p, some q =>
    if [x, p, q].contains (.inf false) && [x, p, q].contains (.inf true) then none else addOpt rdn (addVal rdn x p) q
  | _, _ => none
/-- `fdot2` (R210): pairs of 16-bit products and an f32 accumulator, one rounding. -/
def fdot2Image (t : BitVec 3) (env : REnv) (act : LaneMask) (a b d : VReg) : VReg × BitVec 8 :=
  let f := ffmt t
  emap 32 act (fun j =>
    let rd (x : VReg) (e : Nat) := fread env f (elem x 16 e)
    let x := fread env .f32 (elem d 32 j)
    let ins := [x, rd a (2 * j), rd b (2 * j), rd a (2 * j + 1), rd b (2 * j + 1)]
    let s := dotSum (env.rm == 3) x (mulVal (rd a (2 * j)) (rd b (2 * j))) (mulVal (rd a (2 * j + 1)) (rd b (2 * j + 1)))
    fres .f32 env j (nanFlags ins) s)
/-- `fdot2` with a vector B. -/
def execFdot2 (c k : BitVec 1) (t : BitVec 3) (d a b : BitVec 6) (s : State) : Out :=
  drawWord 0 true c k d [a, b, d]
    (fun s => fdot2Image t s.renv s.cur.act (s.opnd a 16) (s.opnd b 16) (s.opnd d 32)) s
/-- `fdot2` with a scalar B. -/
def execFdot2Scalar (c k : BitVec 1) (t : BitVec 3) (d a b : BitVec 6) (s : State) : Out :=
  drawWord 0 true c k d [a, d]
    (fun s => fdot2Image t s.renv s.cur.act (s.opnd a 16) (splat 16 (s.sreg b).toNat) (s.opnd d 32)) s

/-- `fadd`, vector B. -/
def execFadd (c k : BitVec 1) (t : BitVec 3) (d a b : BitVec 6) (s : State) : Out :=
  floatWord false true fopAdd c k t d a b s
/-- `fadd`, scalar B. -/
def execFaddScalar (c k : BitVec 1) (t : BitVec 3) (d a b : BitVec 6) (s : State) : Out :=
  floatWordS false true fopAdd c k t d a b s
/-- `fsub`, vector B. -/
def execFsub (c k : BitVec 1) (t : BitVec 3) (d a b : BitVec 6) (s : State) : Out :=
  floatWord false true fopSub c k t d a b s
/-- `fsub`, scalar B. -/
def execFsubScalar (c k : BitVec 1) (t : BitVec 3) (d a b : BitVec 6) (s : State) : Out :=
  floatWordS false true fopSub c k t d a b s
/-- `fmul`, vector B. -/
def execFmul (c k : BitVec 1) (t : BitVec 3) (d a b : BitVec 6) (s : State) : Out :=
  floatWord false true fopMul c k t d a b s
/-- `fmul`, scalar B. -/
def execFmulScalar (c k : BitVec 1) (t : BitVec 3) (d a b : BitVec 6) (s : State) : Out :=
  floatWordS false true fopMul c k t d a b s
/-- `fma`, vector B. -/
def execFma (c k : BitVec 1) (t : BitVec 3) (d a b : BitVec 6) (s : State) : Out :=
  floatWord true true fopFma c k t d a b s
/-- `fma`, scalar B. -/
def execFmaScalar (c k : BitVec 1) (t : BitVec 3) (d a b : BitVec 6) (s : State) : Out :=
  floatWordS true true fopFma c k t d a b s
/-- `fms`, vector B. -/
def execFms (c k : BitVec 1) (t : BitVec 3) (d a b : BitVec 6) (s : State) : Out :=
  floatWord true true fopFms c k t d a b s
/-- `fms`, scalar B. -/
def execFmsScalar (c k : BitVec 1) (t : BitVec 3) (d a b : BitVec 6) (s : State) : Out :=
  floatWordS true true fopFms c k t d a b s
/-- `fnma`, vector B. -/
def execFnma (c k : BitVec 1) (t : BitVec 3) (d a b : BitVec 6) (s : State) : Out :=
  floatWord true true fopFnma c k t d a b s
/-- `fnma`, scalar B. -/
def execFnmaScalar (c k : BitVec 1) (t : BitVec 3) (d a b : BitVec 6) (s : State) : Out :=
  floatWordS true true fopFnma c k t d a b s
/-- `fmin`, vector B. -/
def execFmin (c k : BitVec 1) (t : BitVec 3) (d a b : BitVec 6) (s : State) : Out :=
  floatWord false false fopMin c k t d a b s
/-- `fmin`, scalar B. -/
def execFminScalar (c k : BitVec 1) (t : BitVec 3) (d a b : BitVec 6) (s : State) : Out :=
  floatWordS false false fopMin c k t d a b s
/-- `fmax`, vector B. -/
def execFmax (c k : BitVec 1) (t : BitVec 3) (d a b : BitVec 6) (s : State) : Out :=
  floatWord false false fopMax c k t d a b s
/-- `fmax`, scalar B. -/
def execFmaxScalar (c k : BitVec 1) (t : BitVec 3) (d a b : BitVec 6) (s : State) : Out :=
  floatWordS false false fopMax c k t d a b s
/-- `fminm`, vector B. -/
def execFminm (c k : BitVec 1) (t : BitVec 3) (d a b : BitVec 6) (s : State) : Out :=
  floatWord false false fopMinm c k t d a b s
/-- `fminm`, scalar B. -/
def execFminmScalar (c k : BitVec 1) (t : BitVec 3) (d a b : BitVec 6) (s : State) : Out :=
  floatWordS false false fopMinm c k t d a b s
/-- `fmaxm`, vector B. -/
def execFmaxm (c k : BitVec 1) (t : BitVec 3) (d a b : BitVec 6) (s : State) : Out :=
  floatWord false false fopMaxm c k t d a b s
/-- `fmaxm`, scalar B. -/
def execFmaxmScalar (c k : BitVec 1) (t : BitVec 3) (d a b : BitVec 6) (s : State) : Out :=
  floatWordS false false fopMaxm c k t d a b s
/-- `fceq`, vector B. -/
def execFceq (c k : BitVec 1) (t : BitVec 3) (d a b : BitVec 6) (s : State) : Out :=
  floatWord false false fopCeq c k t d a b s
/-- `fceq`, scalar B. -/
def execFceqScalar (c k : BitVec 1) (t : BitVec 3) (d a b : BitVec 6) (s : State) : Out :=
  floatWordS false false fopCeq c k t d a b s
/-- `fclt`, vector B. -/
def execFclt (c k : BitVec 1) (t : BitVec 3) (d a b : BitVec 6) (s : State) : Out :=
  floatWord false false fopClt c k t d a b s
/-- `fclt`, scalar B. -/
def execFcltScalar (c k : BitVec 1) (t : BitVec 3) (d a b : BitVec 6) (s : State) : Out :=
  floatWordS false false fopClt c k t d a b s
/-- `fcle`, vector B. -/
def execFcle (c k : BitVec 1) (t : BitVec 3) (d a b : BitVec 6) (s : State) : Out :=
  floatWord false false fopCle c k t d a b s
/-- `fcle`, scalar B. -/
def execFcleScalar (c k : BitVec 1) (t : BitVec 3) (d a b : BitVec 6) (s : State) : Out :=
  floatWordS false false fopCle c k t d a b s
/-- `fcun`, vector B. -/
def execFcun (c k : BitVec 1) (t : BitVec 3) (d a b : BitVec 6) (s : State) : Out :=
  floatWord false false fopCun c k t d a b s
/-- `fcun`, scalar B. -/
def execFcunScalar (c k : BitVec 1) (t : BitVec 3) (d a b : BitVec 6) (s : State) : Out :=
  floatWordS false false fopCun c k t d a b s
/-- `fcopysign`, vector B. -/
def execFcopysign (c k : BitVec 1) (t : BitVec 3) (d a b : BitVec 6) (s : State) : Out :=
  floatWord false false fopCopysign c k t d a b s
/-- `fcopysign`, scalar B. -/
def execFcopysignScalar (c k : BitVec 1) (t : BitVec 3) (d a b : BitVec 6) (s : State) : Out :=
  floatWordS false false fopCopysign c k t d a b s
/-- `fscale`, vector B. -/
def execFscale (c k : BitVec 1) (t : BitVec 3) (d a b : BitVec 6) (s : State) : Out :=
  floatWord false true fopScale c k t d a b s
/-- `fscale`, scalar B. -/
def execFscaleScalar (c k : BitVec 1) (t : BitVec 3) (d a b : BitVec 6) (s : State) : Out :=
  floatWordS false true fopScale c k t d a b s
/-- `fabs`. -/
def execFabs (c k : BitVec 1) (t : BitVec 3) (d a : BitVec 6) (s : State) : Out :=
  floatUnary 0 false fopAbs c k t d a s
/-- `fneg`. -/
def execFneg (c k : BitVec 1) (t : BitVec 3) (d a : BitVec 6) (s : State) : Out :=
  floatUnary 0 false fopNeg c k t d a s
/-- `fcls`. -/
def execFcls (c k : BitVec 1) (t : BitVec 3) (d a : BitVec 6) (s : State) : Out :=
  floatUnary 0 false fopCls c k t d a s
/-- `frnd`. -/
def execFrnd (c k : BitVec 1) (t : BitVec 3) (d a : BitVec 6) (s : State) : Out :=
  floatUnary 0 true fopRnd c k t d a s

end Sys2Proof.Machine
end

