-- ==== Sys2Proof/Machine/Access.lean ====
section
/-! DEFINITION. Translation (R94-R98, R338, R384-R386), homes, tag halfwords and caches (R99-R101, R117, R125-R134), and
the one read and the one write that every agent makes at a home. -/

namespace Sys2Proof.Machine

/-! ## Physical memory at the home -/

/-- Host memory is named by PA[51] (R98). -/
def isHost (pa : Nat) : Bool := decide (2 ^ 51 ≤ pa)
/-- A PA of usable HBM (R98). -/
def isHbm (pa : Nat) : Bool := decide (pa < 2 ^ 39 ∧ pa % 2 ^ 36 < 0xF80000000)
/-- A host address as it is sent with a PASID, or without one (R98, R335): 2^51 × (1 + PASID) + I/O virtual address, and
2^51 × (1 + 2^20) + address without one. Any other address stays. -/
def hostAt (pasid : Option (BitVec 20)) (pa : Nat) : Nat :=
  if isHost pa then 2 ^ 51 * (1 + (match pasid with | some p => p.toNat | none => 2 ^ 20)) + pa % 2 ^ 51 else pa
/-- Stack of an HBM address. -/
def stackOf (pa : Nat) : Nat := pa / 2 ^ 36
/-- Home die of an address: the die of its stack until the frame moves (R101). -/
def State.homeDie (s : State) (pa : Nat) : Nat := (s.frame (pa / 65536)).home.getD (stackOf pa / 2)
/-- The tag halfword of a line; a line of a discarded frame reads clear (R117), a host line reads RT 0, P 1, D (R126). -/
def State.tagOf (s : State) (pa : Nat) : BitVec 16 :=
  if isHost pa then 0x0100 else if (s.frame (pa / 65536)).disc then 0 else nget 0 s.tags (pa / 64)
/-- RT bits. -/
def tagRT (t : BitVec 16) : BitVec 8 := t.setWidth 8
/-- P. -/
def tagP (t : BitVec 16) : Bool := t.getLsbD 8
/-- CS: 0 D, 1 T, 2 X; 3 counts as D (R125). -/
def tagCS (t : BitVec 16) : Nat := let c := ((t >>> 9) &&& 3).toNat; if c = 3 then 0 else c
/-- V. -/
def tagV (t : BitVec 16) : Bool := t.getLsbD 11
/-- Halfword with another code state. -/
def setCS (t : BitVec 16) (c : Nat) : BitVec 16 := (t &&& ~~~0x0600#16) ||| (BitVec.ofNat 16 c <<< 9)
/-- Bytes read at the home: a discarded frame reads 0 (R117). -/
def State.pread (s : State) (pa n : Nat) : Nat :=
  if isHost pa then mreadN s.hostMem (pa - 2 ^ 51) n
  else if (s.frame (pa / 65536)).disc then 0 else mreadN s.mem pa n
/-- The first write to a discarded frame fills it with zeros and clears the discard state (R117). -/
def State.undiscard (s : State) (pa : Nat) : State :=
  let f := s.frame (pa / 65536)
  if f.disc then
    let base := pa / 65536
    { s.setFrame base { f with disc := false } with
      mem := mclear s.mem (base * 65536) 65536
      tags := s.tags.filter (fun t => t.1 / 1024 != base) }
  else s
/-- The tag halfword of a line set at the home. -/
def State.setTag (s : State) (pa : Nat) (t : BitVec 16) : State :=
  let s := s.undiscard pa
  { s with tags := nput s.tags (pa / 64) t }
/-- RT bits of the words that `n` bytes from `pa` touch, within one line. -/
def wordsTouched (pa n : Nat) : BitVec 8 :=
  BitVec.ofNat 8 ((List.range 8).foldl (fun m w =>
    if pa % 64 < 8 * (w + 1) ∧ 8 * w < pa % 64 + n then m + 2 ^ w else m) 0)
/-- Reservations of firmware cores on the 64-byte blocks that `n` bytes from a firmware PA touch are lost. -/
def State.dropHarts (s : State) (a n : Nat) : State :=
  let hit (h : Hart) : Bool := h.resv.any (fun r => decide (a / 64 ≤ r.1 / 64 ∧ r.1 / 64 ≤ (a + n - 1) / 64))
  { s with harts := s.harts.map (fun h => (h.1, if hit h.2 then { h.2 with resv := none } else h.2)) }
/-- Bytes of the Atrium written, by the offset that State.atrium uses (R353, R394). -/
def State.atriumWrite (s : State) (o n x : Nat) : State :=
  { s with atrium := mwriteN s.atrium o n x }.dropHarts (0x10000000 + o) n
/-- Reservations on a granule are lost (R113, R257), those of firmware cores with them. -/
def State.dropResv (s : State) (tm : Bool) (granule : Nat) : State :=
  let s : State := if tm then s else s.dropHarts (2 ^ 40 + granule * 64) 64
  { s with groups := s.groups.map (fun g => (g.1, { g.2 with resv := g.2.resv.filter (fun r => !(r.2.tm == tm && r.2.granule == granule)) })) }
/-- A line written in a frame by an agent of a die counts once in that die's write counter, which saturates (R114). -/
def State.countLine (s : State) (pa die : Nat) : State :=
  let f := s.frame (pa / 65536)
  let c := nget 0 f.wcnt die
  s.setFrame (pa / 65536) { f with wcnt := nput f.wcnt die (if c = 0xFFFF then 0xFFFF else c + 1) }
/-- Who writes a line: an agent of a die, for a core and a tenant (R102, R114). -/
structure Writer where
  /-- Core. -/
  core : Nat
  /-- Die that the agent belongs to. -/
  die : Nat
  /-- Tenant. -/
  tenant : Nat
deriving DecidableEq, Repr
/-- MIGRATE is raised when a write counter of a die other than the home reaches 0x0400 above the home's, at most once per
frame and millisecond (R346). -/
def State.migrateRaise (s : State) (w : Writer) (frame : Nat) : State :=
  let f := s.frame frame
  let home := s.homeDie (frame * 65536)
  let c := (nget 0 f.wcnt w.die).toNat
  if w.die ≠ home ∧ c = 0x400 ∧ (nget 0 f.wcnt home).toNat < c ∧
      (f.migAt.all (fun t => decide (t + 1000000 ≤ s.time))) then
    (s.setFrame frame { f with migAt := some s.time }).raiseOn (clusterOf w.core)
      { Raised.reset with point := .migrate, tenant := w.tenant, cluster := clusterOf w.core, frame := frame }
  else s
/-- WAKE is raised for the dormant teams whose wake set holds a written line (R352). -/
def State.wakeRaise (s : State) (line : Nat) : State :=
  s.saved.foldl (fun s x =>
    let v := x.2
    if v.dormant && v.wake.contains line then
      s.raiseOn v.cluster { Raised.reset with
        point := .wake, tenant := (s.grid v.team.grid).tenant, cluster := v.cluster, grid := v.team.grid, team := v.team.id }
    else s) s
/-- A write of `n` bytes within one line, performed at the home: data, RT, code state to D, write counter of the writing
die, reservations (R113, R114, R117, R127, R142). A host write only changes host memory. `who` is the agent whose line write it is;
none for a further part of a line write that has been counted, and for agents of no die. -/
def State.pwrite (s : State) (pa n x : Nat) (tagged : Bool) (who : Option Writer) : State :=
  if isHost pa then { s with hostMem := mwriteN s.hostMem (pa - 2 ^ 51) n x }
  else
    let s := s.undiscard pa
    let t := nget 0 s.tags (pa / 64)
    let w := (wordsTouched pa n).setWidth 16
    let t := setCS (if tagged then t ||| w else t &&& ~~~w) 0
    let s := { s with mem := mwriteN s.mem pa n x, tags := nput s.tags (pa / 64) t }
    let s := match who with
      | some w => (s.countLine pa w.die).migrateRaise w (pa / 65536)
      | none => s
    (s.dropResv false (pa / 64)).wakeRaise (pa / 64)

/-! ## Translation -/

/-- Why a translation fails: REASON (R369), and whether stage 2 found it. -/
structure XErr where
  /-- REASON. -/
  reason : Nat
  /-- Found at stage 2. -/
  s2 : Bool
deriving DecidableEq, Repr

/-- What a translation gives (R96, R338). -/
structure Xlat where
  /-- The 52-bit PA. -/
  pa : Nat
  /-- R, W and X on the intersection of both leaves. -/
  r : Bool
  /-- W. -/
  w : Bool
  /-- X. -/
  x : Bool
  /-- CL with its CID. -/
  cid : Option (BitVec 16)
  /-- M. -/
  m : Bool
  /-- NB. -/
  nb : Bool
deriving DecidableEq, Repr

/-- Canonical: bits [63:57] equal bit 56 (R94). -/
def canonical (va : Dword) : Bool := va == (va.setWidth 57).signExtend 64
/-- Index of a level (R95). -/
def vaIndex (va : Nat) (level : Nat) : Nat := (va >>> (16 + 9 * level)) % (if level = 4 then 32 else 512)
/-- Bytes of a leaf's page at a level. -/
def pageSize (level : Nat) : Nat := 2 ^ (16 + 9 * level)
/-- PA[51:16] of a leaf, as an address. -/
def leafPA (e : Nat) : Nat := (e / 2 ^ 12 % 2 ^ 36) * 65536
/-- A leaf entry is malformed (R97, R338): `s2` adds the stage-2 conditions, `ia` spares the PA map to an IA. -/
def leafMalformed (e level : Nat) (s2 ia : Bool) : Bool :=
  let pa := leafPA e
  decide (level ≥ 3) || decide (e / 2 ^ 9 % 8 ≠ 0) || (!e.testBit 4 && decide (e / 2 ^ 48 ≠ 0)) ||
  decide (pa % pageSize level ≠ 0) || (e.testBit 2 && e.testBit 3) ||
  (e.testBit 7 && !ia && (isHost pa || !decide (pa / 2 ^ 36 = (pa + pageSize level - 1) / 2 ^ 36))) ||
  (!ia && !(isHost pa || (isHbm pa && isHbm (pa + pageSize level - 1)))) ||
  (s2 && (e.testBit 4 || e.testBit 5 || e.testBit 6 || e.testBit 7))
/-- A pointer entry is malformed (R384). -/
def pointerMalformed (e : Nat) : Bool := decide (e % 256 ≠ 1 ∨ e / 2 ^ 9 % 8 ≠ 0 ∨ e / 2 ^ 52 ≠ 0)
/-- A walk (R385) from a node, with the read of its entries given: reason, or the leaf and its level. -/
def walkFrom (rd : Nat → Except XErr Nat) (s2 ia : Bool) (va : Nat) : Nat → Nat → Except XErr (Nat × Nat)
  | 0, node =>
    match rd (node + 8 * vaIndex va 0) with
    | .error e => .error e
    | .ok e =>
      if !e.testBit 0 then .error ⟨1, s2⟩
      else if !e.testBit 8 || leafMalformed e 0 s2 ia then .error ⟨3, s2⟩
      else .ok (e, 0)
  | l + 1, node =>
    match rd (node + 8 * vaIndex va (l + 1)) with
    | .error e => .error e
    | .ok e =>
      if !e.testBit 0 then .error ⟨1, s2⟩
      else if !e.testBit 8 then
        (if pointerMalformed e then .error ⟨3, s2⟩ else walkFrom rd s2 ia va l ((e / 2 ^ 12 % 2 ^ 40) * 4096))
      else if leafMalformed e (l + 1) s2 ia then .error ⟨3, s2⟩
      else .ok (e, l + 1)
/-- The cached entry or the walk's (R386): a differing cached entry may or may not be used, one way within a step. -/
def cachedOr (s : State) (c : Option (Nat × Nat)) (page : Nat) (w : Except XErr (Nat × Nat)) : Except XErr (Nat × Nat) :=
  match c with
  | none => w
  | some l =>
    match w with
    | .ok n => if n = l then w else if Config.useCached s.epoch page then .ok l else w
    | .error _ => if Config.useCached s.epoch page then .ok l else w
/-- Stage 2 is on for a function (R323). -/
def State.stage2 (s : State) (fn : Nat) : Option Nat :=
  let e := nget 0 s.vfTab fn
  if e.getLsbD 0 ∧ (e >>> 52) = 0 ∧ (e.toNat / 2 % 2 ^ 11) = 0 then some ((e.toNat / 2 ^ 12 % 2 ^ 40) * 4096) else none
/-- The line is poisoned at its home (R375). -/
def State.poisoned (s : State) (pa : Nat) : Bool :=
  !isHost pa && (s.frame (pa / 65536)).poison.contains (pa / 64 % 1024)
/-- A node entry read at its home, or in host memory without a PASID (R335, R385). One that no memory backs reads as
malformed; a poisoned one fails with REASON 7 (R375). -/
def State.nodeRead (s : State) (pa : Nat) (s2 : Bool) : Except XErr Nat :=
  if s.poisoned pa then .error ⟨7, s2⟩
  else if isHost pa || isHbm pa then .ok (s.pread (hostAt none pa) 8) else .error ⟨3, s2⟩
/-- The stage-2 leaf of an IA. -/
def State.leaf2 (s : State) (fn root ia : Nat) : Except XErr (Nat × Nat) :=
  let c := (s.tlb2.find? (fun t => t.fn == fn && t.page == ia / 65536)).map (·.leaf)
  cachedOr s c (ia / 65536) (walkFrom (fun a => s.nodeRead a true) true false ia 4 root)
/-- PA of an IA or function address: through stage 2 when it is on (R335, R338). -/
def State.ia2pa (s : State) (fn ia : Nat) : Except XErr Nat :=
  match s.stage2 fn with
  | none => .ok (hostAt none ia)
  | some root =>
    match s.leaf2 fn root ia with
    | .error e => .error e
    | .ok (e, l) => .ok (hostAt none (leafPA e + ia % pageSize l))
/-- BAR0 register of a function. -/
def State.reg (s : State) (fn off : Nat) : Dword := nget 0 s.bar0 (fn * 65536 + off)
/-- BAR0 register of a function set. -/
def State.setReg (s : State) (fn off : Nat) (x : Dword) : State := { s with bar0 := nput s.bar0 (fn * 65536 + off) x }
/-- Root of the stage-1 tables of a PASID (R324): REASON 6 when it is not valid. -/
def State.pasidRoot (s : State) (fn : Nat) (pasid : BitVec 20) : Except XErr Nat :=
  if (s.reg fn 0x58).toNat % 2 ^ 20 < pasid.toNat then .error ⟨6, false⟩
  else
    match s.ia2pa fn ((s.reg fn 0x50).toNat + 16 * pasid.toNat) with
    | .error e => .error e
    | .ok pa =>
      if s.poisoned pa then .error ⟨7, false⟩
      else if !(isHost pa || isHbm pa) then .error ⟨6, false⟩
      else
        let e := s.pread pa 16
        if e % 2 = 0 ∨ e / 2 % 2 ^ 11 ≠ 0 ∨ e / 2 ^ 52 ≠ 0 then .error ⟨6, false⟩ else .ok ((e / 2 ^ 12 % 2 ^ 40) * 4096)
/-- The stage-1 leaf of a VA; node addresses pass through stage 2. -/
def State.leaf1 (s : State) (fn : Nat) (pasid : BitVec 20) (va : Nat) : Except XErr (Nat × Nat) :=
  let c := (s.tlb1.find? (fun t => t.fn == fn && t.pasid == pasid && t.page == va / 65536)).map (·.leaf)
  let rd (a : Nat) : Except XErr Nat :=
    match s.ia2pa fn a with
    | .error e => .error e
    | .ok pa => s.nodeRead pa false
  match s.pasidRoot fn pasid with
  | .error e => cachedOr s c (va / 65536) (.error e)
  | .ok root => cachedOr s c (va / 65536) (walkFrom rd false (s.stage2 fn).isSome va 4 root)
/-- The PA of an IA under stage 2. -/
def State.finalPA (s : State) (fn root ia : Nat) : Option Nat :=
  match s.leaf2 fn root ia with
  | .ok (e, l) => some (leafPA e + ia % pageSize l)
  | .error _ => none
/-- Stage 2 puts every part of a page that it maps in one stack of HBM (R97, log 151). -/
def State.oneStack (s : State) (fn root : Nat) (leaf : Nat × Nat) (pa : Nat) : Bool :=
  (List.range (pageSize leaf.2 / 65536)).all (fun i =>
    (s.finalPA fn root (leafPA leaf.1 + 65536 * i)).all (fun x => isHbm x && stackOf x == stackOf pa))
/-- A VA translated in a context (R338), without rights. -/
def State.translate (s : State) (fn : Nat) (pasid : BitVec 20) (va : Dword) : Except XErr Xlat :=
  let a := va.toNat % 2 ^ 57
  match s.leaf1 fn pasid a with
  | .error e => .error e
  | .ok (e, l) =>
    let ia := leafPA e + a % pageSize l
    let mk (pa : Nat) (e2 : Nat) : Xlat :=
      { pa := hostAt (some pasid) pa, r := e.testBit 1 && e2.testBit 1, w := e.testBit 2 && e2.testBit 2, x := e.testBit 3 && e2.testBit 3,
        cid := if e.testBit 4 then some (BitVec.ofNat 16 (e / 2 ^ 48)) else none, m := e.testBit 6, nb := e.testBit 7 }
    match s.stage2 fn with
    | none => .ok (mk ia 0xE)
    | some root =>
      match s.leaf2 fn root ia with
      | .error e => .error e
      | .ok (e2, l2) =>
        let pa := leafPA e2 + ia % pageSize l2
        if e.testBit 7 && !s.oneStack fn root (e, l) pa then .error ⟨3, false⟩ else .ok (mk pa e2)
/-- The rights of a KIND (R369); `either` is the W or X of `xpub` and PUBLISH-CODE. -/
def rightsOk (kind : Nat) (either : Bool) (x : Xlat) : Bool :=
  if either then x.w || x.x
  else match kind with
    | 0 => x.r | 1 => x.w | 2 => x.r && x.w | 3 => x.x | 4 => x.r | 5 => x.w | 6 => x.r | _ => x.w
/-- The host IOMMU refuses an I/O virtual address of a PASID. -/
def State.refused (s : State) (pasid : BitVec 20) (pa : Nat) : Bool :=
  isHost pa && s.iommuRefused.contains (pasid, pa % 2 ^ 51 / 4096)
/-- The checks 1 to 7 of R385 on one access. -/
def State.access (s : State) (fn : Nat) (pasid : BitVec 20) (va : Dword) (kind : Nat) (either noHost : Bool) :
    Except XErr Xlat :=
  if !canonical va then .error ⟨0, false⟩
  else match s.translate fn pasid va with
  | .error e => .error e
  | .ok x =>
    if !rightsOk kind either x then .error ⟨2, false⟩
    else if noHost && isHost x.pa then .error ⟨4, false⟩
    else if s.refused pasid x.pa then .error ⟨5, false⟩
    else .ok x
/-- The home keeps the cloister id of the leaf that an access went through (R421). -/
def State.noteLeaf (s : State) (x : Xlat) : State :=
  let f := s.frame (x.pa / 65536)
  if isHost x.pa || f.cid == x.cid then s else s.setFrame (x.pa / 65536) { f with cid := x.cid }
/-- The translations that an access used are cached (R386). -/
def State.cacheLeaves (s : State) (fn : Nat) (pasid : BitVec 20) (va : Dword) : State :=
  let a := va.toNat % 2 ^ 57
  match s.leaf1 fn pasid a with
  | .error _ => s
  | .ok (e, l) =>
    let t1 : TlbEntry := { fn := fn, pasid := pasid, page := a / 65536, leaf := (e, l) }
    let s1 := { s with tlb1 := t1 :: s.tlb1.filter (fun t => !(t.fn == fn && t.pasid == pasid && t.page == a / 65536)) }
    match s.stage2 fn with
    | none => s1
    | some root =>
      let ia := leafPA e + a % pageSize l
      match s.leaf2 fn root ia with
      | .error _ => s1
      | .ok lf =>
        { s1 with tlb2 := { fn := fn, pasid := 0, page := ia / 65536, leaf := lf } ::
                            s1.tlb2.filter (fun t => !(t.fn == fn && t.page == ia / 65536)) }
/-- What an access leaves behind of its translation. -/
def State.fillTlb (s : State) (fn : Nat) (pasid : BitVec 20) (va : Dword) : State :=
  match s.translate fn pasid va with
  | .error _ => s
  | .ok x => (s.cacheLeaves fn pasid va).noteLeaf x

/-! ## Pages that never move -/

/-- The well-formed leaves under a node of a level, each with its level (R95-R97, R384). -/
def leavesFrom (rd : Nat → Except XErr Nat) (ia : Bool) : Nat → Nat → List (Nat × Nat)
  | 0, node => (List.range 512).filterMap (fun i =>
    match rd (node + 8 * i) with
    | .ok e => if e.testBit 0 && e.testBit 8 && !leafMalformed e 0 false ia then some (e, 0) else none
    | .error _ => none)
  | l + 1, node => (List.range (if l = 3 then 32 else 512)).flatMap (fun i =>
    match rd (node + 8 * i) with
    | .ok e =>
      if !e.testBit 0 then []
      else if !e.testBit 8 then (if pointerMalformed e then [] else leavesFrom rd ia l ((e / 2 ^ 12 % 2 ^ 40) * 4096))
      else if leafMalformed e (l + 1) false ia then [] else [(e, l + 1)]
    | .error _ => [])
/-- The node entry at a stage-1 node address of a function (R385). -/
def State.nodeAt (s : State) (fn a : Nat) : Except XErr Nat :=
  match s.ia2pa fn a with
  | .error e => .error e
  | .ok pa => s.nodeRead pa false
/-- The stage-1 leaves of a function's contexts. -/
def State.leaves (s : State) (fn : Nat) : List (Nat × Nat) :=
  (List.range ((s.reg fn 0x58).toNat % 2 ^ 20 + 1)).flatMap (fun p =>
    match s.pasidRoot fn (BitVec.ofNat 20 p) with
    | .ok root => leavesFrom (s.nodeAt fn) (s.stage2 fn).isSome 4 root
    | .error _ => [])
/-- The page of a leaf takes in a frame. -/
def State.covers (s : State) (fn frame : Nat) (leaf : Nat × Nat) : Bool :=
  match s.stage2 fn with
  | none => decide (leafPA leaf.1 / 65536 ≤ frame ∧ frame < (leafPA leaf.1 + pageSize leaf.2) / 65536)
  | some root => (List.range (pageSize leaf.2 / 65536)).any (fun i =>
      (s.finalPA fn root (leafPA leaf.1 + 65536 * i)).any (fun x => x / 65536 == frame))
/-- M or NB of a leaf (R96). -/
def leafPins (e : Nat) : Bool := e.testBit 6 || e.testBit 7
/-- A frame never changes home (R96, R114, R389): a page with M or NB takes it in, mapped in some context or still cached. -/
def State.pinned (s : State) (frame : Nat) : Bool :=
  (List.range 64).any (fun fn => (s.leaves fn).any (fun l => leafPins l.1 && s.covers fn frame l)) ||
    s.tlb1.any (fun t => leafPins t.leaf.1 && s.covers t.fn frame t.leaf)

/-! ## Table nodes that a translation reads -/

/-- Addresses of the entries that a walk reads, from a node of a level. -/
def nodePath (rd : Nat → Except XErr Nat) (va : Nat) : Nat → Nat → List Nat
  | 0, node => [node + 8 * vaIndex va 0]
  | l + 1, node =>
    let a := node + 8 * vaIndex va (l + 1)
    a :: (match rd a with
      | .ok e =>
        if e.testBit 0 && !e.testBit 8 && !pointerMalformed e then nodePath rd va l ((e / 2 ^ 12 % 2 ^ 40) * 4096) else []
      | .error _ => [])
/-- PAs of the stage-2 nodes that the translation of an IA reads: none while its leaf is cached. -/
def State.iaNodes (s : State) (fn ia : Nat) : List Nat :=
  match s.stage2 fn with
  | none => []
  | some root =>
    if s.tlb2.any (fun t => t.fn == fn && t.page == ia / 65536) then []
    else (nodePath (fun a => s.nodeRead a true) ia 4 root).map (hostAt none)
/-- The PA of an IA with the nodes that its translation reads. -/
def State.iaLines (s : State) (fn ia : Nat) : List Nat :=
  s.iaNodes fn ia ++ (match s.ia2pa fn ia with | .ok pa => [pa] | .error _ => [])
/-- PAs that the translation of a VA reads (R385): the PASID entry and the nodes of both stages, but for what is cached. -/
def State.nodeLines (s : State) (fn : Nat) (pasid : BitVec 20) (va : Dword) : List Nat :=
  let a := va.toNat % 2 ^ 57
  let leaf := match s.leaf1 fn pasid a with
    | .ok (e, l) => s.iaNodes fn (leafPA e + a % pageSize l)
    | .error _ => []
  if !canonical va then []
  else if s.tlb1.any (fun t => t.fn == fn && t.pasid == pasid && t.page == a / 65536) then leaf
  else
    s.iaLines fn ((s.reg fn 0x50).toNat + 16 * pasid.toNat) ++
      (match s.pasidRoot fn pasid with
       | .ok root => (nodePath (s.nodeAt fn) a 4 root).flatMap (s.iaLines fn)
       | .error _ => []) ++ leaf

/-! ## Homes and arbiters -/

/-- Whose service of waiting accesses an agent uses. -/
inductive Who where
  /-- The bundle on the port. -/
  | port
  /-- An engine request. -/
  | req (n : Nat)
  /-- An agent with a place of its own in the queues. -/
  | sender (k : Sender)
deriving DecidableEq, Repr

/-- For whom an access is made (R89, R102, R132). -/
structure Agent where
  /-- Core. -/
  core : Nat
  /-- Die that it belongs to; 4 is the I/O die. -/
  die : Nat
  /-- Function. -/
  fn : Nat
  /-- PASID. -/
  pasid : BitVec 20
  /-- Cloister id of its team. -/
  cid : Option (BitVec 16)
  /-- Tenant. -/
  tenant : Nat
  /-- Queue of its grid. -/
  queue : Nat
  /-- Whose service it uses. -/
  who : Who
  /-- Its global lines are not kept in L2 (NT, R278). -/
  nt : Bool
deriving DecidableEq, Repr
/-- The agent as the writer of a line. -/
def Agent.writer (ag : Agent) : Writer := { core := ag.core, die := ag.die, tenant := ag.tenant }

/-- The agent of a team on a core, for a sender. -/
def State.teamAgent (s : State) (core tk : Nat) (k : Sender) : Agent :=
  let t := s.team tk
  let g := s.grid t.grid
  { core := core, die := dieOf core, fn := g.fn, pasid := g.pasid, cid := t.cid, tenant := g.tenant, queue := g.queue
    who := .sender k, nt := false }
/-- The agent of a group's fetch. -/
def State.groupAgent (s : State) (gk : Nat) : Agent := s.teamAgent (coreOf gk) (s.group gk).tk (.group gk 0)
/-- The agent of a team's sequencer, for its fetch. -/
def State.seqAgent (s : State) (core : Nat) : Agent := s.teamAgent core (s.tile core).tk (.tile core 0)
/-- The agent of a unit of the I/O die in a context: it has no core and no cluster and acts for no team (R89, R132). -/
def ioAgent (fn : Nat) (pasid : BitVec 20) (tenant queue : Nat) (k : Sender) : Agent :=
  { core := 160, die := 4, fn := fn, pasid := pasid, cid := none, tenant := tenant, queue := queue, who := .sender k, nt := false }
/-- The core that stands for the host among those that wait. -/
def hostCore : Nat := 161
/-- The agent of a sender that waits. -/
def State.senderAgent (s : State) (k : Sender) : Agent :=
  match k with
  | .group gk _ => { s.groupAgent gk with who := .sender k }
  | .tile core _ => { s.seqAgent core with who := .sender k }
  | .slot core _ => { s.seqAgent core with who := .sender k }
  | .task core _ => { s.seqAgent core with who := .sender k }
  | .host _ => { ioAgent 0 0 0 0 k with core := hostCore }
  | k => ioAgent 0 0 0 0 k

/-- Budgets of a cluster. -/
def State.budget (s : State) (cl : Nat) : Budget := nget Budget.reset s.budgets cl
/-- The slice that holds a line: home die and slice number (R101). -/
def State.sliceKey (s : State) (pa : Nat) : Nat := s.homeDie pa * 128 + Config.sliceOf (pa / 64) % 128
/-- A line access misses its home L2: always when the slice does not hold the line; whether the slice has kept a line that
it held is free. -/
def State.missesL2 (s : State) (pa : Nat) : Bool :=
  !(nget [] s.l2 (s.sliceKey pa)).contains (pa / 64) || Config.missesL2 s.free (pa / 64)
/-- A line comes into its slice of 8,192 lines (R3); a full slice gives up one, which one is free. -/
def State.l2Fill (s : State) (pa : Nat) : NMap (List Nat) :=
  let l := nget [] s.l2 (s.sliceKey pa)
  if l.contains (pa / 64) then s.l2
  else
    let l := if l.length < 8192 then l else l.eraseIdx (Config.freeNat s.free % l.length)
    nput s.l2 (s.sliceKey pa) (l ++ [pa / 64])

/-- An access that waits, as the homes and arbiters see it. -/
structure Waiter where
  /-- Arrival number. -/
  ticket : Nat
  /-- Core. -/
  core : Nat
  /-- Tenant. -/
  tenant : Nat
  /-- Queue. -/
  queue : Nat
  /-- Frames at whose home it is queued. -/
  frames : List Nat
  /-- It waits for the host's answer to a snoop. -/
  snooping : Bool
  /-- Lines not served. -/
  due : List DueLine
deriving DecidableEq, Repr
/-- A service that waits, with its agent. -/
def Svc.waiter (v : Svc) (core tenant queue : Nat) : List Waiter :=
  match v.ticket with
  | some t =>
    [{ ticket := t, core := core, tenant := tenant, queue := queue, frames := v.frames, snooping := v.snooping, due := v.due }]
  | none => []
/-- The issued bundles of a group that wait: those of its entries, then the `pub`s whose lanes have been ended (R135). -/
def Group.pends (g : Group) : List Pend := g.frontier.filterMap (·.pend) ++ g.walks
/-- Everything that waits (R90, R115). -/
def State.waiters (s : State) : List Waiter :=
  s.groups.flatMap (fun g =>
    let r := s.grid (s.team g.2.tk).grid
    g.2.pends.flatMap (fun p => p.svc.waiter (coreOf g.1) r.tenant r.queue)) ++
  s.reqs.flatMap (fun q =>
    let r := s.grid q.2.base.grid
    q.2.svc.waiter q.2.core r.tenant r.queue) ++
  s.held.flatMap (fun h =>
    let ag := s.senderAgent h.1
    h.2.waiter ag.core ag.tenant ag.queue)
/-- A waiter comes before an access with an arrival number, or without one. -/
def Waiter.before (w : Waiter) (t : Option Nat) : Bool := match t with | some n => decide (w.ticket < n) | none => true
/-- The home serves no access of a core to a frame: it moves, or accesses that arrived before are queued for it (R115, R116). The home
queues 256; an access behind them is held back at its sender, and waits for them and for those of its own core (log 146). A host
access does not wait for a write that waits for the host (log 147). -/
def State.frameBusy (s : State) (t : Option Nat) (core pa : Nat) : Bool :=
  !isHost pa && ((s.frame (pa / 65536)).moving.isSome ||
    (let l := s.waiters.filter (fun w => w.before t && w.frames.contains (pa / 65536))
     l.any (fun w => (w.core == core || decide ((l.filter (fun x => decide (x.ticket < w.ticket))).length < 256)) &&
       !(core == hostCore && w.snooping))))
/-- An arbiter serves a line of a cluster now: budget is left, and no earlier line of the cluster and class waits (R90). -/
def State.mayServe (s : State) (cl cls : Nat) (t : Option Nat) : Bool :=
  let b := s.budget cl
  decide (nget 0 b.limit cls = 0) ||
    (decide (nget 0 b.left cls ≠ 0) &&
      !s.waiters.any (fun w => w.before t && clusterOf w.core == cl && w.due.any (fun d => d.cls == cls)))
/-- One line is served (R89, R92): a budget with a limit pays. -/
def Budget.pay (b : Budget) (cls : Nat) : Budget :=
  { b with left := if nget 0 b.limit cls = 0 then b.left else nput b.left cls (nget 0 b.left cls - 1)
           spent := nput b.spent cls (nget 0 b.spent cls + 1) }
/-- One line is served (R89): the cluster's budget pays, and its tenant and queue are charged (R348, R424). -/
def State.payLine (s : State) (cl tenant queue cls : Nat) : State :=
  let hbm := decide (cls = 0)
  { s with
    budgets := nput s.budgets cl ((s.budget cl).pay cls)
    acct := if cls = 2 then s.acct else (s.tally tenant (if hbm then 1 else 2) 64).acct
    interval := if hbm then (s.count (queue * 4 + 1) 1).interval else s.interval }
/-- Due lines that the arbiters serve now, in order; those that stay. -/
def State.payDue (ag : Agent) (t : Option Nat) : List DueLine → State → List DueLine × State
  | [], s => ([], s)
  | d :: r, s =>
    if s.mayServe (clusterOf ag.core) d.cls t then
      State.payDue ag t r (s.payLine (clusterOf ag.core) ag.tenant ag.queue d.cls)
    else
      let (l, s) := State.payDue ag t r s
      (d :: l, s)
/-- A line of a class that a service asks for: it is due while the cluster's budget has a limit, and is paid at once where it has
none. -/
def State.chargeLine (ag : Agent) (line cls : Nat) (asks : Bool) (v : Svc) (s : State) : Svc × State :=
  let cl := clusterOf ag.core
  if nget 0 (s.budget cl).limit cls = 0 then
    (v, let b := s.budget cl
        let t := s.payLine cl ag.tenant ag.queue cls
        { s with
          budgets := nput s.budgets cl { b with spent := if asks then nput b.spent cls (nget 0 b.spent cls + 1) else b.spent }
          acct := if asks then t.acct else s.acct, interval := if asks then t.interval else s.interval })
  else ({ v with due := if asks then v.due ++ [⟨cls, line, false⟩] else v.due }, s)
/-- A line of a service arrives at its home, once: the classes that serve it (R89), and the L2 miss (R348). `near` is a line of
B, which a near-bank unit reads in the banks. Units of the I/O die are charged to no cluster (R330). -/
def State.arriveLine (s : State) (ag : Agent) (near : Bool) (tag pa : Nat) (v : Svc) : Svc × State :=
  if v.seen.contains (tag * 2 ^ 80 + pa / 64) then (v, s)
  else
    let io := decide (160 ≤ ag.core)
    let miss := !near && !isHost pa && s.missesL2 pa
    let far := !near && (isHost pa || s.homeDie pa != ag.die)
    let c := clusterOf ag.core
    let v := { v with seen := v.seen ++ [tag * 2 ^ 80 + pa / 64] }
    let t : State := { s with
      l2 := if miss && !ag.nt then s.l2Fill pa else s.l2
      interval := if miss && !io then (s.count (ag.queue * 4) 1).interval else s.interval
      l2miss := if miss && !io then nput s.l2miss c (nget 0 s.l2miss c + 1) else s.l2miss
      free := s.free + 1 }
    if io then (v, t)
    else
      let (v, t) := State.chargeLine ag (pa / 64) 1 near v t
      let (v, t) := State.chargeLine ag (pa / 64) 2 far v t
      State.chargeLine ag (pa / 64) 0 miss v t
/-- The lines of an access arrive, those whose frame is busy excepted. -/
def State.arriveLines (ag : Agent) (near : Bool) (tag : Nat) : List Nat → Svc → State → Svc × State
  | [], v, s => (v, s)
  | pa :: r, v, s =>
    if s.frameBusy v.ticket ag.core pa then
      State.arriveLines ag near tag r { v with frames := if v.frames.contains (pa / 65536) then v.frames else v.frames ++ [pa / 65536] } s
    else
      let (v, s) := s.arriveLine ag near tag pa v
      State.arriveLines ag near tag r v s
/-- The service of a sender. -/
def State.heldSvc (s : State) (k : Sender) : Svc :=
  match s.held.find? (fun h => h.1 == k) with | some h => h.2 | none => Svc.reset
/-- A sender keeps its service until its access is made. -/
def State.setHeld (s : State) (k : Sender) (v : Svc) : State :=
  if v ≠ Svc.reset then { s with held := s.held.filter (fun h => h.1 != k) ++ [(k, v)] }
  else { s with held := s.held.filter (fun h => h.1 != k) }
/-- The service that an agent uses. -/
def State.svcOf (s : State) : Who → Svc
  | .port => s.cur.svc
  | .req n => (nget Req.reset s.reqs n).svc
  | .sender k => s.heldSvc k
/-- That service changed. -/
def State.setSvc (s : State) (w : Who) (v : Svc) : State :=
  match w with
  | .port => s.mapCur (fun c => { c with svc := v })
  | .req n => { s with reqs := nput s.reqs n { nget Req.reset s.reqs n with svc := v } }
  | .sender k => s.setHeld k v
/-- A sender whose access is made leaves the queues. -/
def State.leave (s : State) (w : Who) : State :=
  match w with
  | .sender k => if s.held.any (fun h => h.1 == k) then s.setHeld k Svc.reset else s
  | _ => s
/-- A service that waits has its arrival number. -/
def State.enqueue (s : State) (w : Who) (v : Svc) : State :=
  match v.ticket with
  | some _ => s.setSvc w v
  | none => { s with nextTicket := s.nextTicket + 1 }.setSvc w { v with ticket := some s.nextTicket }
/-- THE SERVICE OF AN ACCESS: its lines arrive at their homes, and the arbiters serve them or not (R89, R90, R115). True when
every line is served; an access that must wait has its arrival number, and keeps its places and what has been served. Lines of `tag`
are told from those of another word of the bundle. -/
def State.serveLines (s : State) (ag : Agent) (near : Bool) (tag : Nat) (pas : List Nat) : Bool × State :=
  let v0 := s.svcOf ag.who
  let busy := pas.any (s.frameBusy v0.ticket ag.core)
  let (v, s1) := State.arriveLines ag near tag pas { v0 with snooping := false } s
  let (due, s2) := State.payDue ag v.ticket v.due s1
  let v := { v with due := due }
  if !busy && due.isEmpty then (true, s2.setSvc ag.who v)
  else (false, s2.enqueue ag.who v)
/-- The lines of an access with those that its translation reads. -/
def State.withNodes (s : State) (ag : Agent) (vas : List Dword) (pas : List Nat) : List Nat :=
  vas.flatMap (fun va => s.nodeLines ag.fn ag.pasid va) ++ pas
/-- What a home comes to for an access of a sender. -/
inductive AtHome where
  /-- The access can be made; its sender has left the queue. -/
  | ok (s : State)
  /-- It waits, with its place. -/
  | wait (s : State)
deriving DecidableEq, Repr
/-- An access that no cluster is charged for, at the homes of some lines (R115, R330): it takes its places while one is busy, and keeps
them until it leaves. -/
def State.places (s : State) (ag : Agent) (pas : List Nat) : AtHome :=
  let v := s.svcOf ag.who
  let busy := pas.filter (s.frameBusy v.ticket ag.core)
  if busy.isEmpty then .ok s
  else .wait (s.enqueue ag.who { v with snooping := false, frames := (v.frames ++ busy.map (· / 65536)).eraseDups })
/-- Such an access that is all that its sender makes. -/
def State.atHome (s : State) (ag : Agent) (pas : List Nat) : AtHome :=
  match s.places ag pas with
  | .ok s1 => .ok (s1.leave ag.who)
  | .wait s1 => .wait s1
/-- The machine with what the homes and arbiters have done in another one for the same bundle, and nothing else of it. -/
def State.keepService (s t : State) : State :=
  { s with budgets := t.budgets, l2 := t.l2, l2miss := t.l2miss, nextTicket := t.nextTicket, held := t.held, acct := t.acct,
           interval := t.interval, bisnp := s.bisnp ++ t.bisnp.filter (fun b => !s.bisnp.contains b), free := t.free, cur := { s.cur with svc := t.cur.svc } }
/-- A write would change an RT bit of a line with V = 1 (R128). -/
def State.vBlocked (s : State) (pa n : Nat) (tagged : Bool) : Bool :=
  let t := s.tagOf pa
  let w := wordsTouched pa n
  !isHost pa && tagV t && (if tagged then tagRT t &&& w != w else tagRT t &&& w != 0)
/-- The host has not answered the snoop that a write to a line waits for (R319). -/
def State.unsnooped (s : State) (pa : Nat) : Bool :=
  !isHost pa && (s.frame (pa / 65536)).hostCached && !s.bisnp.contains (pa / 64, true)
/-- A write to a line must wait: a snoop of the host is unanswered (R319), or V = 1 and an RT bit would change (R128). -/
def State.writeBlocked (s : State) (pa n : Nat) (tagged : Bool) : Bool := s.unsnooped pa || s.vBlocked pa n tagged
/-- An access whose turn has come waits for V or for the host: one that waits for V has left the queues of its homes, so that the walk
can reach its lines (log 147). -/
def State.setAside (s : State) (w : Who) (v : Bool) : State :=
  let x := s.svcOf w
  if x.ticket.isNone then s
  else s.setSvc w (if v then { x with frames := [] } else { x with snooping := true })
/-- The snoop of a line that a device write waits for is sent (R319). -/
def State.sendSnoop (s : State) (pa : Nat) : State :=
  if s.unsnooped pa && !s.bisnp.contains (pa / 64, false)
  then { s with bisnp := s.bisnp ++ [(pa / 64, false)] } else s
/-- The answer of a snoop is used up by the write it allows. -/
def State.useSnoop (s : State) (pa : Nat) : State := { s with bisnp := s.bisnp.filter (fun b => b != (pa / 64, true)) }
/-- A write of `n` bytes at its home that no cluster is charged for, with RT = 0 (R115, R128, R319): it waits, or may be made. -/
def State.writePlaces (s : State) (ag : Agent) (pas : List Nat) (pa n : Nat) : AtHome :=
  match s.places ag pas with
  | .wait s1 => .wait s1
  | .ok s1 =>
    if s1.writeBlocked pa n false then .wait ((s1.setAside ag.who (s1.vBlocked pa n false)).sendSnoop pa)
    else .ok (s1.useSnoop pa)
/-- Such a write that is all that its sender makes. -/
def State.writeAtHome (s : State) (ag : Agent) (pas : List Nat) (pa n : Nat) : AtHome :=
  match s.writePlaces ag pas pa n with
  | .ok s1 => .ok (s1.leave ag.who)
  | .wait s1 => .wait s1

/-! ## The L1 data cache -/

/-- A cached line may be used by a team with cloister id `cid` (R100, R133). -/
def lineValid (gd gv : BitVec 4) (cid : Option (BitVec 16)) (l : CacheLine) : Bool :=
  match l.cls with
  | .die => l.gen == gd
  | .device => l.gen == gv
  | .cloister c => cid == some c
/-- The line of an address in a core's L1, if a read may hit it. -/
def State.l1Hit (s : State) (core : Nat) (cid : Option (BitVec 16)) (pa : Nat) : Option CacheLine :=
  let c := s.cache core
  match c.l1.find? (fun l => l.1 == pa / 64) with
  | some l => if lineValid c.gd c.gv cid l.2 then some l.2 else none
  | none => none
/-- A line drops out of a core's L1. -/
def State.l1Drop (s : State) (core pa : Nat) : State :=
  let c := s.cache core
  s.setCache core { c with l1 := ndel c.l1 (pa / 64) }
/-- The fill class of a line (R100, R133). -/
def State.fillClass (s : State) (core : Nat) (cid : Option (BitVec 16)) (x : Xlat) : FillClass :=
  match x.cid with
  | some c => if cid = some c ∧ !tagP (s.tagOf x.pa) then .cloister c
              else if isHost x.pa || s.homeDie x.pa != dieOf core then .device else .die
  | none => if isHost x.pa || s.homeDie x.pa != dieOf core then .device else .die
/-- A read that misses fills the line from its home; a full L1 of 4,096 lines gives up one of them, which one is free. -/
def State.l1Fill (s : State) (core : Nat) (cid : Option (BitVec 16)) (x : Xlat) : State :=
  let c := s.cache core
  let cls := s.fillClass core cid x
  let line : CacheLine :=
    { cls := cls, gen := match cls with | .die => c.gd | .device => c.gv | .cloister _ => 0
      data := BitVec.ofNat 512 (s.pread (x.pa / 64 * 64) 64) }
  let l1 := if c.l1.length < 4096 ∨ (c.l1.any (fun l => l.1 == x.pa / 64)) then c.l1
            else c.l1.eraseIdx (Config.freeNat s.free % c.l1.length)
  { s.setCache core { c with l1 := nput l1 (x.pa / 64) line } with free := s.free + 1 }
/-- A store changes the core's L1 copy of its line, if one is present (R99). -/
def State.l1Update (s : State) (core pa n v : Nat) : State :=
  let c := s.cache core
  if c.l1.any (fun l => l.1 == pa / 64) then
    let sh := 8 * (pa % 64)
    let m := BitVec.ofNat 512 ((2 ^ (8 * n) - 1) <<< sh)
    s.setCache core { c with l1 := c.l1.map (fun l => if l.1 = pa / 64 then
      (l.1, { l.2 with data := (l.2.data &&& ~~~m) ||| (BitVec.ofNat 512 (v % 2 ^ (8 * n) <<< sh) &&& m) }) else l) }
  else s
/-- Bytes of a cached line. -/
def lineBytes (d : BitVec 512) (pa n : Nat) : Nat := (d.toNat >>> (8 * (pa % 64))) % 2 ^ (8 * n)
/-- An acquire at a scope steps the generations of a core (R100). -/
def Caches.acquire (sc : Nat) (c : Caches) : Caches :=
  let stepD (c : Caches) : Caches :=
    { c with gd := c.gd + 1, l1 := if c.gd = 15 then c.l1.filter (fun l => l.2.cls != .die) else c.l1 }
  let stepV (c : Caches) : Caches :=
    { c with gv := c.gv + 1, l1 := if c.gv = 15 then c.l1.filter (fun l => l.2.cls != .device) else c.l1 }
  if sc < 2 then c else if sc = 2 then stepD c else stepV (stepD c)
/-- The acquire part of an ordering at a scope, for a core (R104, R105). -/
def State.acquire (s : State) (core : Nat) (sc : Nat) : State := s.setCache core ((s.cache core).acquire sc)

end Sys2Proof.Machine
end

