-- ==== Sys2Proof/Machine/Regions.lean ====
section
/-! DEFINITION. The fields of engine requests and slot descriptors, and the team-memory bytes that requests and tile tasks
read and write (R110, R278-R286, R297-R308, R315). -/

namespace Sys2Proof.Machine

/-- Rows of `len` bytes, `pitch` apart, in team memory. -/
structure Strided where
  /-- Offset of row 0. -/
  base : Nat
  /-- Bytes between rows. -/
  pitch : Nat
  /-- Rows. -/
  rows : Nat
  /-- Bytes per row. -/
  len : Nat
deriving DecidableEq, Repr

/-- `n` bytes from `a` touch a row. -/
def Strided.hits (r : Strided) (a n : Nat) : Bool :=
  let k := if a < r.base + r.len then 0 else (a - r.base - r.len) / r.pitch + 1
  r.len != 0 && n != 0 && decide (k < r.rows) && decide (r.base + k * r.pitch < a + n) &&
    decide (a < r.base + k * r.pitch + r.len)
/-- Two sets of rows share a byte. -/
def Strided.meets (r t : Strided) : Bool := (List.range r.rows).any (fun i => t.hits (r.base + i * r.pitch) r.len)
/-- One block of bytes. -/
def block (a n : Nat) : Strided := { base := a, pitch := 0, rows := 1, len := n }

/-! ## Copy and near-bank requests -/

/-- `n` bytes of a request at an offset (R278, R285). -/
def rawField (raw : BitVec 512) (o n : Nat) : Nat := (raw.toNat >>> (8 * o)) % 256 ^ n
/-- A signed 4-byte field. -/
def rawInt (raw : BitVec 512) (o : Nat) : Int := sext (rawField raw o 4) 32
/-- CTL. -/
def ctl (raw : BitVec 512) : Nat := rawField raw 0 8
/-- KIND. -/
def rqKind (raw : BitVec 512) : Nat := ctl raw % 16
/-- FMT. -/
def rqFmt (raw : BitVec 512) : Nat := ctl raw / 2 ^ 4 % 16
/-- CTY. -/
def rqCty (raw : BitVec 512) : Nat := ctl raw / 2 ^ 8 % 4
/-- SC. -/
def rqSc (raw : BitVec 512) : Nat := ctl raw / 2 ^ 10 % 8
/-- TSRC. -/
def rqTsrc (raw : BitVec 512) : Bool := (ctl raw).testBit 14
/-- CB. -/
def rqCb (raw : BitVec 512) : Nat := ctl raw / 2 ^ 16 % 8
/-- SQ. -/
def rqSq (raw : BitVec 512) : Nat := ctl raw / 2 ^ 19 % 4
/-- PDEV. -/
def rqPdev (raw : BitVec 512) : Nat := ctl raw / 2 ^ 24 % 1024
/-- SCD. -/
def rqScd (raw : BitVec 512) : Nat := ctl raw / 2 ^ 34 % 2 ^ 19
/-- EXT0. -/
def rqExt (raw : BitVec 512) : Nat := rawField raw 0x28 2
/-- N1, N2, N3. -/
def rqN (raw : BitVec 512) (i : Nat) : Nat := rawField raw (0x28 + 2 * i) 2
/-- Rows of a copy request. -/
def rqRows (raw : BitVec 512) : Nat := rqN raw 1 * rqN raw 2 * rqN raw 3
/-- PITCH. -/
def rqPitch (raw : BitVec 512) : Nat := rawField raw 0x3C 4
/-- Bits of an element of a source format. -/
def fmtBits (f : Nat) : Nat := [8, 8, 6, 6, 4, 4, 16, 8].getD f 8
/-- Bits of an element of a canonical type. -/
def ctyBits (c : Nat) : Nat := [8, 4, 16, 8].getD c 8
/-- Bytes of a dense row: the canonical type's for kind 0, raw otherwise (R280). -/
def rqDense (raw : BitVec 512) : Nat := rqExt raw * (if rqKind raw = 0 then ctyBits (rqCty raw) else 8) / 8
/-- Bytes of a source row (R280). -/
def rqSrcRow (raw : BitVec 512) : Nat := rqExt raw * fmtBits (rqFmt raw) / 8
/-- Offset of row `r` on the global side (R281). -/
def rqStep (raw : BitVec 512) (r : Nat) : Int :=
  let i1 := r % rqN raw 1
  let i2 := r / rqN raw 1 % rqN raw 2
  let i3 := r / (rqN raw 1 * rqN raw 2)
  i1 * rawInt raw 0x30 + i2 * rawInt raw 0x34 + i3 * rawInt raw 0x38
/-- An address plus a signed offset. -/
def addOff (a : Nat) (o : Int) : Nat := (((a : Int) + o) % 2 ^ 64).toNat
/-- Row stride of the near-bank layout for `k` elements of a format (R284). -/
def nbStride (bits k : Nat) (scaled : Bool) : Nat := ((k * bits / 8 + (if scaled then k / 32 else 0) + 63) / 64) * 64
/-- Near-bank BFMT. -/
def nbFmt (raw : BitVec 512) : Nat := ctl raw % 4
/-- Bytes of a near-bank result element. -/
def nbOut (raw : BitVec 512) : Nat := if (ctl raw).testBit 2 then 2 else 4
/-- The result goes to global memory. -/
def nbGlobal (raw : BitVec 512) : Bool := (ctl raw).testBit 6
/-- Near-bank SC. -/
def nbSc (raw : BitVec 512) : Nat := ctl raw / 8 % 8
/-- Near-bank K. -/
def nbK (raw : BitVec 512) : Nat := rawField raw 0x10 4
/-- Near-bank ROWS. -/
def nbRows (raw : BitVec 512) : Nat := rawField raw 0x14 4
/-- Bits of an element of B. -/
def nbBits (raw : BitVec 512) : Nat := [4, 8, 16].getD (nbFmt raw) 16
/-- Bytes of A. -/
def nbABytes (raw : BitVec 512) : Nat := if nbFmt raw = 2 then 2 * nbK raw else nbK raw
/-- Row stride of B. -/
def nbBStride (raw : BitVec 512) : Nat := nbStride (nbBits raw) (nbK raw) (nbFmt raw != 2)
/-- Scope of a request. -/
def Req.sc (q : Req) : Nat := if q.nearBank then nbSc q.raw else rqSc q.raw
/-- VA of its arrival object. -/
def Req.aova (q : Req) : Nat := rawField q.raw (if q.nearBank then 0x28 else 0x20) 8

/-- Team-memory bytes that a request reads. -/
def reqReads (nearBank : Bool) (raw : BitVec 512) : List Strided :=
  if nearBank then
    [block (rawField raw 0x18 4) (nbABytes raw)] ++
      (if nbFmt raw = 2 then [] else [block (rawField raw 0x1C 4) (nbK raw / 32)])
  else if rqKind raw = 1 then [{ base := rawField raw 8 8, pitch := rqPitch raw, rows := rqRows raw, len := rqExt raw }]
  else if rqTsrc raw then (List.range (rqRows raw)).map (fun r => block (addOff (rawField raw 8 8) (rqStep raw r)) (rqExt raw))
  else []
/-- Team-memory bytes that a request writes. -/
def reqWrites (nearBank : Bool) (raw : BitVec 512) : List Strided :=
  if nearBank then (if nbGlobal raw then [] else [block (rawField raw 0x20 8) (nbRows raw * nbOut raw)])
  else if rqKind raw = 0 then
    [{ base := rawField raw 0x10 8, pitch := rqPitch raw, rows := rqRows raw, len := rqDense raw }] ++
      (if rqCty raw < 2 then [block (rqScd raw) (rqRows raw * (rqExt raw / 32))] else [])
  else []

/-! ## Slots and tile tasks -/

/-- `n` bytes of a slot descriptor at an offset (R297). -/
def slotField (d : BitVec 256) (o n : Nat) : Nat := (d.toNat >>> (8 * o)) % 256 ^ n
/-- BASE. -/
def slotBase (d : BitVec 256) : Nat := slotField d 0 4
/-- ROWS. -/
def slotRows (d : BitVec 256) : Nat := slotField d 4 2
/-- COLS. -/
def slotCols (d : BitVec 256) : Nat := slotField d 6 2
/-- PITCH. -/
def slotPitch (d : BitVec 256) : Nat := slotField d 8 4
/-- SCB. -/
def slotScb (d : BitVec 256) : Nat := slotField d 0xC 4
/-- TYPE. -/
def slotType (d : BitVec 256) : Nat := slotField d 0x10 1
/-- Codebook of CBS. -/
def slotBook (d : BitVec 256) : Nat := slotField d 0x11 1 % 8
/-- Scope of CBS. -/
def slotScope (d : BitVec 256) : Nat := slotField d 0x11 1 / 8 % 8
/-- GEN. -/
def slotGen (d : BitVec 256) : Nat := slotField d 0x12 2
/-- TSC. -/
def slotTsc (d : BitVec 256) : Nat := slotField d 0x14 4
/-- RDY. -/
def slotRdy (d : BitVec 256) : Nat := slotField d 0x18 8
/-- RK. -/
def slotRk (d : BitVec 256) : Nat := slotRdy d % 4
/-- NB. -/
def slotNb (d : BitVec 256) : Nat := slotRdy d / 16 % 16
/-- VA of the object, VA[56:4] extended by bit 56. -/
def slotAova (d : BitVec 256) : Dword := ((BitVec.ofNat 57 (slotRdy d / 2 ^ 8 % 2 ^ 53 * 16)).signExtend 64)
/-- Bits of a row by TYPE (R298). -/
def typeRowBits (t cols : Nat) : Nat :=
  match t with
  | 0 => 8 * cols | 1 => 4 * cols | 2 => 16 * cols | 3 => 32 * cols | 4 => 16 * cols | _ => 4 * cols
/-- Whole bytes of a row by TYPE. -/
def typeRow (t cols : Nat) : Nat := (typeRowBits t cols + 7) / 8
/-- Types with e8 scales. -/
def typeScaled (t : Nat) : Bool := t == 0 || t == 1 || t == 5
/-- All rows of a slot's tile. -/
def slotTile (d : BitVec 256) : Strided :=
  { base := slotBase d, pitch := slotPitch d, rows := slotRows d, len := typeRow (slotType d) (slotCols d) }
/-- Part of each row of a slot's tile. -/
def slotPart (d : BitVec 256) (first len : Nat) : Strided :=
  { base := slotBase d + first, pitch := slotPitch d, rows := slotRows d, len := len }
/-- Offset of the scale of row `i`, block `b` (R299): i × COLS/32, rounded down (DESIGN CHOICE, log 176). -/
def slotScaleAt (d : BitVec 256) (i b : Nat) : Nat := slotScb d + i * slotCols d / 32 + b
/-- Part of each row of a slot's scales. -/
def slotScales (d : BitVec 256) (first len : Nat) : List Strided :=
  if slotCols d % 32 = 0 then [{ base := slotScb d + first, pitch := slotCols d / 32, rows := slotRows d, len := len }]
  else (List.range (slotRows d)).map (fun i => block (slotScaleAt d i first) len)
/-- ks of a multiply (R304). -/
def ksOf (k i : Nat) (pass : Nat) : Nat := k + (if i = 1 then pass else 0)
/-- Bytes of a dense operand that block `ks` of a `tmma` reads. -/
def blockBytes (d : BitVec 256) (ks : Nat) : List Strided :=
  match slotType d with
  | 0 => slotPart d (32 * ks) 32 :: slotScales d ks 1
  | 1 => slotPart d (16 * ks) 16 :: slotScales d ks 1
  | _ => [slotPart d (32 * ks) 32]
/-- Slot `i` that a task names. -/
def Task.slot (t : Task) (i : Nat) : BitVec 256 := t.slots.getD i 0
/-- Team-memory bytes that a task reads (R304-R307). -/
def taskReads (t : Task) : List Strided :=
  match t.word with
  | .tmma _ _ _ _ i k =>
    let ks := ksOf k.toNat i.toNat t.pass
    blockBytes (t.slot 0) ks ++ blockBytes (t.slot 1) ks
  | .tmmas _ _ _ _ i _ k =>
    let ks := ksOf k.toNat i.toNat t.pass
    let b := t.slot 1
    slotPart (t.slot 0) (32 * ks) 32 :: (if slotType b = 1 then slotPart b (32 * ks) 32 else slotPart b (64 * ks) 64) ::
      (slotScales (t.slot 0) (2 * ks) 2 ++ slotScales b (2 * ks) 2)
  | .tacc _ _ _ => [slotTile (t.slot 0)]
  | .tcbk _ o => [block (32 * o.toNat) 32]
  | _ => []
/-- Team-memory bytes that a task writes (R306). -/
def taskWrites (t : Task) : List Strided :=
  match t.word with
  | .tcvt _ _ _ => [slotTile (t.slot 0)]
  | _ => []
/-- The accumulator tile of a task. -/
def taskTile (t : Task) : Option (Nat × Nat) :=
  match t.word with
  | .tmma _ _ r c _ _ => some (r.toNat, c.toNat)
  | .tmmas _ _ r c _ _ _ => some (r.toNat, c.toNat)
  | .tzero r c => some (r.toNat, c.toNat)
  | .tscale _ r c => some (r.toNat, c.toNat)
  | .tcvt _ r c => some (r.toNat, c.toNat)
  | .tacc _ r c => some (r.toNat, c.toNat)
  | _ => none
/-- Row `row`, columns `col` to `col + 63` lie in an accumulator tile (R303). -/
def tileTouches (rc : Nat × Nat) (row col : Nat) : Bool :=
  decide (row / 64 = rc.1 ∧ 64 * rc.2 < col + 64 ∧ col < 64 * rc.2 + 128)

/-! ## Ill-timed accesses -/

/-- A lane access to `n` bytes of team memory at `a` is ill-timed (R110). -/
def State.illTimed (s : State) (tk a n : Nat) (write : Bool) : Bool :=
  let t := s.tile (tk / 64)
  s.reqs.any (fun q => q.2.tk == tk &&
    ((reqWrites q.2.nearBank q.2.raw).any (·.hits a n) || (write && (reqReads q.2.nearBank q.2.raw).any (·.hits a n)))) ||
  (t.owned && t.tk == tk && t.table.any (fun k => k.issued &&
    ((taskWrites k).any (·.hits a n) || (write && (taskReads k).any (·.hits a n)))))

end Sys2Proof.Machine
end

