-- ==== Sys2Proof/Machine/Memory.lean ====
section
/-! DEFINITION. Memory access by lanes: the checks of R237, loads and stores, team memory, the accumulator row words,
gather and scatter: majors 9 and 10 (R233-R244). -/

namespace Sys2Proof.Machine

/-! ## One element -/

/-- The agent of the lanes on the port. -/
def State.agent (s : State) : Agent :=
  { s.groupAgent s.cur.gk with who := .port }

/-- What an access asks for beyond its KIND. -/
structure Ask where
  /-- KIND (R369). -/
  kind : Nat
  /-- Element bytes, and the alignment wanted. -/
  n : Nat
  /-- A read that may hit in L1. -/
  cached : Bool
  /-- A cloister check as a write (R132). -/
  write : Bool
  /-- A tagged store (R134). -/
  tagged : Bool
  /-- Host memory fails with REASON 4 (R253). -/
  noHost : Bool
deriving DecidableEq, Repr

/-- The escape checks of R132 and R134 at the home; a tagged store that breaks both takes the code of R132 (log 144). -/
def State.escape (s : State) (ag : Agent) (x : Xlat) (q : Ask) : Option Nat :=
  let t := s.tagOf x.pa
  let own := x.cid.isSome && x.cid == ag.cid
  if x.cid.isSome && !own && !tagP t then some (if q.write then 0x081 else 0x080)
  else if q.tagged && !(own && !tagP t) then some 0x083
  else none

/-- One element's checks in the order of R237: cause and stage, or the translation. -/
def State.checkElem (s : State) (ag : Agent) (q : Ask) (va : Dword) : Except (Nat × Bool) Xlat :=
  if !canonical va then .error (class1 q.kind 0, false)
  else if va.toNat % q.n ≠ 0 then .error (0x0C8, false)
  else
    match s.access ag.fn ag.pasid va q.kind false q.noHost with
    | .error e => .error (class1 q.kind e.reason, e.s2)
    | .ok x =>
      if q.cached && (s.l1Hit ag.core ag.cid x.pa).isSome then .ok x
      else if s.poisoned x.pa then .error (class1 q.kind 7, false)
      else
        match s.escape ag x q with
        | some c => .error (c, false)
        | none => .ok x

/-- The failure of a lane at an address (R377). -/
def memFail (q : Ask) (va : Dword) (lane : Nat) (e : Nat × Bool) : Fail :=
  { lane := lane, cause := some e.1, va := va, kind := q.kind, s2 := e.2, sz := Nat.log2 q.n }

/-- A lane's failure: that of its first failing element. -/
def State.firstFail (s : State) (ag : Agent) (lane : Nat) : List (Ask × Dword) → Option Fail
  | [] => none
  | (q, va) :: r =>
    match s.checkElem ag q va with
    | .error e => some (memFail q va lane e)
    | .ok _ => s.firstFail ag lane r

/-- The accesses of some elements that go to a home: those that pass their checks and do not hit in L1. -/
def State.homeAccesses (s : State) (ag : Agent) (es : List (Ask × Dword)) : List (Ask × Dword × Xlat) :=
  es.filterMap (fun e =>
    match s.checkElem ag e.1 e.2 with
    | .error _ => none
    | .ok x => if e.1.cached && (s.l1Hit ag.core ag.cid x.pa).isSome then none else some (e.1, e.2, x))

/-- The first of some addresses in each page. -/
def pageFirsts (vas : List Dword) : List Dword :=
  vas.foldl (fun l va => if l.any (fun x => x.toNat / 65536 == va.toNat / 65536) then l else l ++ [va]) []
/-- The lines that the accesses of some elements ask homes for: those of their translations, and their own unless they hit in L1. -/
def State.wordLines (s : State) (ag : Agent) (es : List (Ask × Dword)) : List Nat :=
  let vas := es.filterMap (fun e => match s.checkElem ag e.1 e.2 with | .ok _ => some e.2 | .error _ => none)
  s.withNodes ag (pageFirsts vas) ((s.homeAccesses ag es).map (·.2.2.pa))
/-- A walk has marked the line of a write, which must wait at its home (R128). -/
def State.markHeld (s : State) (q : Ask) (x : Xlat) : Bool :=
  s.vBlocked x.pa q.n q.tagged || (q.tagged && tagV (s.tagOf x.pa))
/-- Writes that a word makes, by their PA, each with whether a walk has marked its line. -/
abbrev HomeWrites := List (Nat × Bool)
/-- A write must wait at its home (R128, R319): a walk has marked the line, or a snoop is unanswered. -/
def State.writesHeld (s : State) (ws : HomeWrites) : Bool := ws.any (fun w => w.2 || s.unsnooped w.1)
/-- A bundle waits with its writes: the snoops are sent (R319), and what waits for V leaves the queues of its homes. -/
def State.holdWrites (s : State) (ws : HomeWrites) : State :=
  ((ws.foldl (fun t w => t.sendSnoop w.1) s).setAside .port (ws.any (·.2))).block .home
/-- The homes and arbiters serve the accesses of a word on the port (R89, R90, R115): true, or the word must wait, with what has been
served kept. So must a word whose writes, found once the homes serve it, are held there (R128, R319). Words of a bundle whose failures
alone are looked for are not served. -/
def State.serveThen (s : State) (es : List (Ask × Dword)) (writes : State → HomeWrites) : Bool × State :=
  if !s.cur.serves then (true, s)
  else
    let (ok, s1) := s.serveLines s.agent false s.cur.wpc.toNat (s.wordLines s.agent es)
    if !ok then (false, s1.block .home)
    else if s1.writesHeld (writes s1) then (false, s1.holdWrites (writes s1))
    else (true, s1)
/-- The writes among some accesses. -/
def State.elemWrites (s : State) (es : List (Ask × Dword)) : HomeWrites :=
  ((s.homeAccesses s.agent es).filter (·.1.write)).map (fun x => (x.2.2.pa, s.markHeld x.1 x.2.2))
/-- The service of a word that performs each of its accesses. -/
def State.serveWord (s : State) (es : List (Ask × Dword)) : Bool × State := s.serveThen es (fun t => t.elemWrites es)

/-- What the checks of an element found before its word performs: the translation, and the L1 line that a cached read
hits. A word checks all of its elements first and performs them on these translations. -/
def State.plan (s : State) (ag : Agent) (q : Ask) (va : Dword) : Option (Xlat × Option CacheLine) :=
  match s.checkElem ag q va with
  | .error _ => none
  | .ok x => some (x, if q.cached then s.l1Hit ag.core ag.cid x.pa else none)
/-- One element read, through L1 unless it bypasses it (R99). -/
def State.loadElem (s : State) (ag : Agent) (q : Ask) (va : Dword) (p : Option (Xlat × Option CacheLine)) : Nat × State :=
  match p with
  | none => (0, s)
  | some (x, some l) => (lineBytes l.data x.pa q.n, s.fillTlb ag.fn ag.pasid va)
  | some (x, none) =>
    (s.pread x.pa q.n,
     if q.cached then
       if (s.l1Hit ag.core ag.cid x.pa).isSome then s.fillTlb ag.fn ag.pasid va
       else (s.fillTlb ag.fn ag.pasid va).l1Fill ag.core ag.cid x
     else s.fillTlb ag.fn ag.pasid va)

/-- One element written at its home; L1 keeps its copy current, or drops it (R99). `first` says that it is the first element of
its word in its line, which the line's write counter counts (R114). -/
def State.storeElem (s : State) (ag : Agent) (q : Ask) (va : Dword) (v : Nat) (drop first : Bool)
    (p : Option (Xlat × Option CacheLine)) : State :=
  match p with
  | none => s
  | some (x, _) =>
    let s := ((s.fillTlb ag.fn ag.pasid va).useSnoop x.pa).pwrite x.pa q.n v q.tagged
      (if first then some ag.writer else none)
    if drop then s.l1Drop ag.core x.pa else s.l1Update ag.core x.pa q.n v

/-! ## Addresses of a vector word -/

/-- Address of element `e` under AM 0, 1 and 2 (R234). -/
def elemAddr (am : Nat) (base : Dword) (off : BitVec 5) (w e : Nat) : Dword :=
  match am with
  | 0 => base + 16 * off.signExtend 64 + BitVec.ofNat 64 (e * (w / 8))
  | 1 => base + 16 * off.signExtend 64
  | _ => base + BitVec.ofNat 64 (e * (w / 8))
/-- The base of a word: the saved value on a replay, else s(SB) before the bundle (R235). -/
def State.memBase (s : State) (b : BitVec 6) : Dword :=
  match s.cur.replay.bind (·.base) with
  | some x => if x.isM then s.sreg b else x.val
  | none => s.sreg b
/-- The increment of AM 2, once for the bundle and not on a replay (R235). The base that is kept for a replay is that of a word with an
increment (log 167). -/
def State.incBase (s : State) (am : Nat) (b : BitVec 6) (inc : BitVec 5) : State :=
  if am = 2 then
    match s.cur.replay.bind (·.base) with
    | some x => s.mapCur (fun c => { c with base := some x })
    | none =>
      if s.cur.base.isSome then s
      else
        let old := s.sreg b
        (s.mapRegs (writeS b (old + 64 * inc.setWidth 64) false)).mapCur
          (fun c => { c with base := some { isM := false, reg := b.toNat, val := old }, stepped := true })
  else s
/-- The elements of a lane, in order. -/
def laneElems (w l : Nat) : List Nat := (List.range (64 / w)).map (fun j => 64 / w * l + j)
/-- The failures of the active lanes of a vector access. -/
def State.accessFails (s : State) (ask : Nat → Ask) (addr : Nat → Dword) (w : Nat) : List Fail :=
  (lanesOf s.cur.act).filterMap (fun l =>
    s.firstFail s.agent l ((laneElems w l).map (fun e => (ask e, addr e))))
/-- Elements of the performing lanes, in order. -/
def activeElems (act : LaneMask) (w : Nat) : List Nat := (lanesOf act).flatMap (laneElems w)

/-! ## Loads and stores -/

/-- A destination that waits for its data (R46, R237), with the element requests that fetch it. -/
def State.markLoad (s : State) (scalar : Bool) (reg n : Nat) : State :=
  if !scalar && 0x38 ≤ reg then s
  else s.mapCg (fun g => { g with inFlight := g.inFlight ++ [{ scalar := scalar, reg := reg, mask := s.cur.act, elems := n }] })
/-- Values of elements read one after the other, each with its plan. -/
def State.loadAll (ag : Agent) (ask : Ask) (addr : Nat → Dword) (plan : Nat → Option (Xlat × Option CacheLine)) :
    List Nat → State → List (Nat × Nat) × State
  | [], s => ([], s)
  | e :: r, s =>
    let (v, s) := s.loadElem ag ask (addr e) (plan e)
    let (l, s) := State.loadAll ag ask addr plan r s
    ((e, v) :: l, s)
/-- The image of the values read. -/
def valueImage (w : Nat) (l : List (Nat × Nat)) : VReg := image w (fun e => ((l.find? (fun x => x.1 == e)).getD (0, 0)).2)
/-- A vector load after its checks; AM 1 reads once (R237). -/
def loadBody (ask : Ask) (addr : Nat → Dword) (one : Bool) (w : Nat) (d : BitVec 6) (s : State) : State :=
  let es := activeElems s.cur.act w
  match es with
  | [] => s
  | e :: _ =>
    let (ok, s) := s.serveWord (es.map (fun e => (ask, addr e)))
    if !ok then s
    else
      let (vs, s) := State.loadAll s.agent ask addr (fun e => s.plan s.agent ask (addr e)) (if one then [e] else es) s
      let img := if one then splat w ((vs.headD (0, 0)).2) else valueImage w vs
      (s.mapRegs (writeV d s.cur.act img 0)).markLoad false d.toNat (if one then 1 else es.length)
/-- The first of some elements in each line. -/
def firstInLine (line : Nat → Nat) : List Nat → List Nat → List Nat
  | _, [] => []
  | seen, e :: r => if seen.contains (line e) then firstInLine line seen r else e :: firstInLine line (line e :: seen) r
/-- A vector store after its checks, in increasing element order (R106, R237). -/
def storeBody (ask : Nat → Ask) (addr : Nat → Dword) (data : VReg) (drop : Bool) (w : Nat) (s : State) : State :=
  let es := activeElems s.cur.act w
  let (ok, s) := s.serveWord (es.map (fun e => (ask e, addr e)))
  if !ok then s
  else
    let s0 := s
    let plan (e : Nat) := s0.plan s0.agent (ask e) (addr e)
    let firsts := firstInLine (fun e => match plan e with | some p => p.1.pa / 64 | none => 0) [] es
    es.foldl (fun s e => s.storeElem s0.agent (ask e) (addr e) (elem data w e) drop (firsts.contains e) (plan e)) s
/-- A relaxed lane read of `n` bytes. -/
def readAsk (n : Nat) (cached : Bool) : Ask :=
  { kind := 0, n := n, cached := cached, write := false, tagged := false, noHost := false }
/-- A relaxed lane write. -/
def writeAsk (n : Nat) (tagged : Bool) : Ask :=
  { kind := 1, n := n, cached := false, write := true, tagged := tagged, noHost := false }
/-- The request of element `e` of a store: tagged when its 64-bit lane is (R129). -/
def storeAsk (w : Nat) (tags : LaneMask) (e : Nat) : Ask := writeAsk (w / 8) (w == 64 && tags.getLsbD e)

/-- `ld` and `ldnt` (R237). -/
def globalLoad (c : BitVec 1) (cached : Bool) (d b : BitVec 6) (m : BitVec 3) (w : BitVec 2) (o : BitVec 5) (s : State) :
    Out :=
  let wd := widthOf w
  let base := s.memBase b
  let addr := elemAddr m.toNat base o wd
  let s := s.incBase m.toNat b o
  let s := addFails (s.accessFails (fun _ => readAsk (wd / 8) cached) addr wd) s
  .next (finish c (loadBody (readAsk (wd / 8) cached) addr (m == 1) wd d s))
/-- `st` and `stnt` (R237). -/
def globalStore (c : BitVec 1) (drop : Bool) (d b : BitVec 6) (m : BitVec 3) (w : BitVec 2) (o : BitVec 5) (s : State) :
    Out :=
  let wd := widthOf w
  let base := s.memBase b
  let addr := elemAddr m.toNat base o wd
  let ask := storeAsk wd (readTags s.cur.src d)
  let data := s.opnd d wd
  let s := s.incBase m.toNat b o
  let s := addFails (s.accessFails ask addr wd) s
  .next (finish c (storeBody ask addr data drop wd s))
/-- LD (R237). -/
def execLd (c : BitVec 1) (d : BitVec 6) (b : BitVec 6) (m : BitVec 3) (w : BitVec 2) (o : BitVec 5) (s : State) : Out :=
  globalLoad c true d b m w o s
/-- LDNT (R99, R237). -/
def execLdnt (c : BitVec 1) (d : BitVec 6) (b : BitVec 6) (m : BitVec 3) (w : BitVec 2) (o : BitVec 5) (s : State) : Out :=
  globalLoad c false d b m w o s
/-- ST (R237). -/
def execSt (c : BitVec 1) (d : BitVec 6) (b : BitVec 6) (m : BitVec 3) (w : BitVec 2) (o : BitVec 5) (s : State) : Out :=
  globalStore c false d b m w o s
/-- STNT (R99, R237). -/
def execStnt (c : BitVec 1) (d : BitVec 6) (b : BitVec 6) (m : BitVec 3) (w : BitVec 2) (o : BitVec 5) (s : State) : Out :=
  globalStore c true d b m w o s

/-- A failing uniform access charges every lane of the entry (R238). -/
def State.uniformAccess (s : State) (q : Ask) (va : Dword) : List Fail :=
  match s.checkElem s.agent q va with
  | .ok _ => []
  | .error e => (lanesOf s.cur.entry.mask).map (fun l => memFail q va l e)
/-- LDS (R238). A base that is its own destination ends as the incremented base where the word performs an increment (R234, R235, log 41);
on a replay that performs none it ends as the value loaded. -/
def execLds (c : BitVec 1) (d : BitVec 6) (b : BitVec 6) (m : BitVec 3) (w : BitVec 2) (o : BitVec 5) (s : State) : Out :=
  let wd := widthOf w
  let va := elemAddr m.toNat (s.memBase b) o wd 0
  let q := readAsk (wd / 8) true
  let s := s.incBase m.toNat b o
  let s := addFails (s.uniformAccess q va) s
  .next (finish c (
    if s.cur.act = 0 then s
    else
      let (ok, s) := s.serveWord [(q, va)]
      if !ok then s
      else
        let (v, s) := s.loadElem s.agent q va (s.plan s.agent q va)
        let s := if m = 2 ∧ d = b ∧ (s.cur.replay.bind (·.base)).isNone then s else s.mapRegs (writeS d (BitVec.ofNat 64 v) false)
        s.markLoad true d.toNat 1))
/-- STS (R238). -/
def execSts (c : BitVec 1) (d : BitVec 6) (b : BitVec 6) (m : BitVec 3) (w : BitVec 2) (o : BitVec 5) (s : State) : Out :=
  let wd := widthOf w
  let va := elemAddr m.toNat (s.memBase b) o wd 0
  let q := writeAsk (wd / 8) (wd == 64 && s.cur.src.stags.getLsbD d.toNat)
  let v := (s.sreg d).toNat % 2 ^ wd
  let s := s.incBase m.toNat b o
  let s := addFails (s.uniformAccess q va) s
  .next (finish c (
    if s.cur.act = 0 then s
    else
      let (ok, s) := s.serveWord [(q, va)]
      if !ok then s else s.storeElem s.agent q va v false true (s.plan s.agent q va)))

/-- The lines of a `pref`: four under AM 0, one under AM 1 (R241). -/
def prefLines (am : Nat) (base : Dword) (o : BitVec 5) : List Dword :=
  (List.range (if am = 0 then 4 else 1)).map (fun i => base + 16 * o.signExtend 64 + BitVec.ofNat 64 (64 * i))
/-- What a `pref` asks for each of its lines: host memory fails, so that it is skipped (R241). -/
def prefAsk : Ask := { readAsk 1 true with noHost := true }
/-- PREF (R241): lines that fail any check are skipped; the others come into L1 as those of a load do. -/
def execPref (c : BitVec 1) (b : BitVec 6) (m : BitVec 3) (o : BitVec 5) (s : State) : Out :=
  .next (finish c (
    if s.cur.act = 0 ∨ s.cur.dry then s
    else
      let vas := prefLines m.toNat (s.sreg b) o
      let (ok, s) := s.serveWord (vas.map (fun va => (prefAsk, va)))
      if !ok then s
      else vas.foldl (fun s va => (s.loadElem s.agent prefAsk va (s.plan s.agent prefAsk va)).2) s))

/-! ## Team memory -/

/-- A team-memory violation of a lane (R56). -/
def tmFail (lane : Nat) : Fail := { lane := lane, cause := none, va := 0, kind := 0, s2 := false, sz := 0 }
/-- Declared team-memory bytes. -/
def State.tmSize (s : State) : Nat := s.cgrid.tmsize
/-- An element of team memory is in range, aligned and not ill-timed (R110, R239). -/
def State.tmOk (s : State) (a n : Nat) (write : Bool) : Bool :=
  decide (a % n = 0) && decide (a + n ≤ s.tmSize) && !s.illTimed s.cg.tk a n write
/-- The violations of the active lanes. -/
def State.tmFails (s : State) (addr : Nat → Nat) (w : Nat) (write : Bool) : List Fail :=
  (lanesOf s.cur.act).filterMap (fun l =>
    if (laneElems w l).all (fun e => s.tmOk (addr e) (w / 8) write) then none else some (tmFail l))
/-- Number of a team-memory granule of 64 bytes of a team (R257). -/
def tmGranule (tk a : Nat) : Nat := tk * 65536 + a / 64
/-- Bytes written to team memory; reservations on their granule are lost (R257). -/
def State.tmWrite (s : State) (tk a n v : Nat) : State :=
  let t := s.team tk
  (s.setTeam tk { t with tmem := mwriteN t.tmem a n v }).dropResv true (tmGranule tk a)
/-- Bytes read from team memory. -/
def State.tmRead (s : State) (tk a n : Nat) : Nat := mreadN (s.team tk).tmem a n
/-- A team-memory load after its checks. -/
def tmLoadBody (addr : Nat → Nat) (w : Nat) (d : BitVec 6) (s : State) : State :=
  let img := valueImage w ((activeElems s.cur.act w).map (fun e => (e, s.tmRead s.cg.tk (addr e) (w / 8))))
  if s.cur.act = 0 then s else (s.mapRegs (writeV d s.cur.act img 0)).markLoad false d.toNat 0
/-- A team-memory store after its checks. -/
def tmStoreBody (addr : Nat → Nat) (data : VReg) (w : Nat) (s : State) : State :=
  (activeElems s.cur.act w).foldl (fun s e => s.tmWrite s.cg.tk (addr e) (w / 8) (elem data w e)) s

/-- BASE of an m-register (R236). -/
def mBase (m : Dword) : Nat := m.toNat % 2 ^ 20
/-- LEN. -/
def mLen (m : Dword) : Nat := m.toNat / 2 ^ 20 % 2 ^ 20
/-- POS. -/
def mPos (m : Dword) : Nat := m.toNat / 2 ^ 40 % 2 ^ 20
/-- The buffer of an m-register can be used (R236). -/
def mValid (size : Nat) (m : Dword) : Bool :=
  decide (mBase m % 64 = 0 ∧ mLen m % 64 = 0 ∧ mPos m % 64 = 0 ∧ 256 ≤ mLen m ∧ mPos m < mLen m ∧ mBase m + mLen m ≤ size)
/-- Bytes that STEP advances POS by. -/
def mStep (x : BitVec 5) : Nat := [256, 64, 128, 256].getD (x.toNat % 4) 256
/-- An m-register with POS advanced. -/
def mAdvance (m : Dword) (x : BitVec 5) : Dword :=
  BitVec.ofNat 64 (mBase m + mLen m * 2 ^ 20 + (mPos m + mStep x) % mLen m * 2 ^ 40)
/-- The m-register a word reads: the saved value on a replay, else the register before the bundle. -/
def State.memM (s : State) (n : Nat) : Dword :=
  match s.cur.replay.bind (·.base) with
  | some x => if x.isM then x.val else nget 0 s.cur.src.m n
  | none => nget 0 s.cur.src.m n
/-- The increment of AM 3 (R235, R236). -/
def State.incM (s : State) (n : Nat) (x : BitVec 5) : State :=
  match s.cur.replay.bind (·.base) with
  | some b => s.mapCur (fun c => { c with base := some b })
  | none =>
    if s.cur.base.isSome then s
    else
      let old := nget 0 s.cur.src.m n
      (s.mapRegs (fun r => { r with m := nput r.m n (mAdvance old x) })).mapCur
        (fun c => { c with base := some { isM := true, reg := n, val := old }, stepped := true })
/-- The offsets of a team-memory word and its increment: none when its m-register is invalid (R234, R236). The field
holds the m-register in bits [4:2] and STEP in [1:0]. -/
def State.tmAddr (s : State) (b : BitVec 6) (am : Nat) (w : Nat) (o : BitVec 5) : Option ((Nat → Nat) × State) :=
  if am = 3 then
    let n := o.toNat / 4
    let m := s.memM n
    if mValid s.tmSize m then
      some (fun e => mBase m + (mPos m + e * (w / 8)) % mLen m, s.incM n o)
    else none
  else some (fun e => (elemAddr am (s.memBase b) o w e).toNat, s.incBase am b o)
/-- A team-memory word: violations, then its body on the other lanes (R239). -/
def tmWord (c : BitVec 1) (b : BitVec 6) (m : BitVec 3) (w : BitVec 2) (o : BitVec 5) (write : Bool)
    (body : (Nat → Nat) → State → State) (s : State) : Out :=
  match s.tmAddr b m.toNat (widthOf w) o with
  | none => .next (finish c (addFails ((lanesOf s.cur.act).map tmFail) s))
  | some (addr, s) => .next (finish c (body addr (addFails (s.tmFails addr (widthOf w) write) s)))
/-- LDTM (R239). -/
def execLdtm (c : BitVec 1) (d : BitVec 6) (b : BitVec 6) (m : BitVec 3) (w : BitVec 2) (o : BitVec 5) (s : State) : Out :=
  tmWord c b m w o false (fun addr => tmLoadBody addr (widthOf w) d) s
/-- STTM (R239). -/
def execSttm (c : BitVec 1) (d : BitVec 6) (b : BitVec 6) (m : BitVec 3) (w : BitVec 2) (o : BitVec 5) (s : State) : Out :=
  tmWord c b m w o true (fun addr => tmStoreBody addr (s.opnd d (widthOf w)) (widthOf w)) s

/-! ## The accumulator -/

/-- The row and column that an accumulator word names (R240). -/
def accFails (s : State) (b : BitVec 6) : List Fail :=
  let x := (s.sreg b).toNat
  if s.cgrid.tsoff = 0 then (lanesOf s.cur.act).map (failOf 0x0CA)
  else if x / 256 % 256 % 64 ≠ 0 ∨ x / 65536 ≠ 0 then (lanesOf s.cur.act).map (failOf 0x0C9)
  else []
/-- A task that has issued and not retired uses the row segment (R111). -/
def State.accBusy (s : State) (row col : Nat) : Bool :=
  (s.tile (coreOf s.cur.gk)).table.any (fun t => t.issued && (match taskTile t with
    | some rc => tileTouches rc row col
    | none => false))
/-- LDACC (R240). -/
def execLdacc (c : BitVec 1) (d : BitVec 6) (b : BitVec 6) (s : State) : Out :=
  let row := (s.sreg b).toNat % 256
  let col := (s.sreg b).toNat / 256 % 256
  let s := addFails (accFails s b) s
  .next (finish c (
    if s.cur.act = 0 then s
    else if s.accBusy row col then s.block .acc
    else
      let t := s.tile (coreOf s.cur.gk)
      let img := image 32 (fun e => (nget 0 t.acc (row * 256 + col + e)).toNat)
      (s.mapRegs (writeV d s.cur.act img 0)).markLoad false d.toNat 0))
/-- STACC (R240). -/
def execStacc (c : BitVec 1) (d : BitVec 6) (b : BitVec 6) (s : State) : Out :=
  let row := (s.sreg b).toNat % 256
  let col := (s.sreg b).toNat / 256 % 256
  let data := s.opnd d 32
  let s := addFails (accFails s b) s
  .next (finish c (
    if s.cur.act = 0 then s
    else if s.accBusy row col then s.block .acc
    else
      let core := coreOf s.cur.gk
      let t := s.tile core
      s.setTile core { t with acc := (activeElems s.cur.act 32).foldl (fun a e =>
        nput a (row * 256 + col + e) (BitVec.ofNat 32 (elem data 32 e))) t.acc }))

/-! ## Gather and scatter -/

/-- Address of element `e` of a gather or scatter (R243). -/
def gatherAddr (base : Dword) (idx : VReg) (w sc e : Nat) : Dword :=
  base + BitVec.ofInt 64 (sext (elem idx w e) w * 2 ^ sc)
/-- LDG (R243). -/
def execLdg (c : BitVec 1) (d : BitVec 6) (a : BitVec 6) (b : BitVec 6) (w : BitVec 2) (x : BitVec 2) (s : State) : Out :=
  let wd := widthOf w
  let addr := gatherAddr (s.sreg b) (s.opnd a wd) wd x.toNat
  let s := addFails (s.accessFails (fun _ => readAsk (wd / 8) true) addr wd) s
  .next (finish c (loadBody (readAsk (wd / 8) true) addr false wd d s))
/-- STG (R243). -/
def execStg (c : BitVec 1) (d : BitVec 6) (a : BitVec 6) (b : BitVec 6) (w : BitVec 2) (x : BitVec 2) (s : State) : Out :=
  let wd := widthOf w
  let addr := gatherAddr (s.sreg b) (s.opnd a wd) wd x.toNat
  let ask := storeAsk wd (readTags s.cur.src d)
  let data := s.opnd d wd
  let s := addFails (s.accessFails ask addr wd) s
  .next (finish c (storeBody ask addr data false wd s))
/-- LDGTM (R243). -/
def execLdgtm (c : BitVec 1) (d : BitVec 6) (a : BitVec 6) (b : BitVec 6) (w : BitVec 2) (x : BitVec 2) (s : State) : Out :=
  let wd := widthOf w
  let addr (e : Nat) := (gatherAddr (s.sreg b) (s.opnd a wd) wd x.toNat e).toNat
  let s := addFails (s.tmFails addr wd false) s
  .next (finish c (tmLoadBody addr wd d s))
/-- STGTM (R243). -/
def execStgtm (c : BitVec 1) (d : BitVec 6) (a : BitVec 6) (b : BitVec 6) (w : BitVec 2) (x : BitVec 2) (s : State) : Out :=
  let wd := widthOf w
  let addr (e : Nat) := (gatherAddr (s.sreg b) (s.opnd a wd) wd x.toNat e).toNat
  let data := s.opnd d wd
  let s := addFails (s.tmFails addr wd true) s
  .next (finish c (tmStoreBody addr data wd s))

end Sys2Proof.Machine
end

