-- ==== Sys2Proof/Machine/Atomics.lean ====
section
/-! DEFINITION. Atomics, reservations, fences, arrival objects and barriers: major 12 (R252-R258, R260-R263). -/

namespace Sys2Proof.Machine

/-! ## Orderings -/

/-- The acquire part of a word's OR at its SC: the core steps its generations once (R104, R105). -/
def State.acquirePart (s : State) (sc : BitVec 3) (o : BitVec 2) : State :=
  if o.getLsbD 0 && s.cur.act != 0 then s.acquire (coreOf s.cur.gk) sc.toNat else s
/-- FENCE (R104, R258): every access of the model is performed when it issues, so the acquire part is what is left. -/
def execFence (c : BitVec 1) (sc : BitVec 3) (o : BitVec 2) (s : State) : Out := .next (finish c (s.acquirePart sc o))

/-! ## Addresses of per-lane words -/

/-- The address in each lane of A (R253). -/
def State.laneAddr (s : State) (a : BitVec 6) (l : Nat) : Dword := laneVal (s.opnd a 64) l
/-- The failures of the active lanes, one access each (R253). -/
def State.laneFails (s : State) (q : Ask) (a : BitVec 6) : List Fail :=
  (lanesOf s.cur.act).filterMap (fun l => s.firstFail s.agent l [(q, s.laneAddr a l)])
/-- The violations of a team-memory form (R239, R253). -/
def State.laneTmFails (s : State) (n : Nat) (write : Bool) (a : BitVec 6) : List Fail :=
  (lanesOf s.cur.act).filterMap (fun l =>
    if s.tmOk (s.laneAddr a l).toNat n write then none else some (tmFail l))
/-- The service of a per-lane word (R89, R90, R115): true, or it must wait. -/
def State.serveLanes (s : State) (q : Ask) (a : BitVec 6) : Bool × State :=
  s.serveWord ((lanesOf s.cur.act).map (fun l => (q, s.laneAddr a l)))
/-- The lanes of a word that would write if it were performed now, lowest first: `f` performs a lane and says whether it writes. Only
their writes can be held at a home (R128, R319). -/
def State.laneWrites (s : State) (q : Ask) (a : BitVec 6)
    (f : Nat → Option (Xlat × Option CacheLine) → State → Bool × State) : HomeWrites :=
  ((lanesOf s.cur.act).foldl (fun (x : HomeWrites × State) l =>
    let p := s.plan s.agent q (s.laneAddr a l)
    let (b, t) := f l p x.2
    (if b then x.1 ++ (p.map (fun y => (y.1.pa, s.markHeld q y.1))).toList else x.1, t)) ([], s)).1
/-- The service of a per-lane word of which some lanes may write nothing. -/
def State.serveSome (s : State) (q : Ask) (a : BitVec 6)
    (f : Nat → Option (Xlat × Option CacheLine) → State → Bool × State) : Bool × State :=
  s.serveThen ((lanesOf s.cur.act).map (fun l => (q, s.laneAddr a l))) (fun t => t.laneWrites q a f)
/-- The register image whose lane ℓ is the value listed for ℓ. -/
def laneImageOf (l : List (Nat × Nat)) : VReg := valueImage 64 l
/-- The performing lanes, lowest first, each reading and changing the state. -/
def eachLane (f : Nat → State → Nat × State) : List Nat → State → List (Nat × Nat) × State
  | [], s => ([], s)
  | l :: r, s =>
    let (v, s) := f l s
    let (vs, s) := eachLane f r s
    ((l, v) :: vs, s)
/-- Results of the lanes written to D, which is then in flight; `glob` says that they come from global memory. -/
def putLanes (glob : Bool) (d : BitVec 6) (r : List (Nat × Nat) × State) : State :=
  (r.2.mapRegs (writeV d r.2.cur.act (laneImageOf r.1) 0)).markLoad false d.toNat (if glob then r.1.length else 0)

/-! ## Atomics -/

/-- The new value of an atomic from the old and the operand, or none for a compare that fails (R254, R255). -/
abbrev AmoFun := Nat → Nat → Option Nat
/-- What a global atomic asks for. -/
def amoAsk (n : Nat) : Ask := { kind := 2, n := n, cached := false, write := true, tagged := false, noHost := true }
/-- One lane's atomic at the home of its line (R112). The host's answer that it waited for is used up, whether it writes or not. -/
def State.amoHome (s : State) (ag : Agent) (q : Ask) (va : Dword) (f : Nat → Option Nat)
    (p : Option (Xlat × Option CacheLine)) : Nat × State :=
  match p with
  | none => (0, s)
  | some (x, _) =>
    let s := (s.fillTlb ag.fn ag.pasid va).useSnoop x.pa
    let old := s.pread x.pa q.n
    let s := match f old with
      | some v => s.pwrite x.pa q.n v false (some ag.writer)
      | none => s
    (old, s.l1Drop ag.core x.pa)
/-- A lane's atomic, and whether it writes. -/
def State.amoTry (s : State) (n : Nat) (va : Dword) (f : Nat → Option Nat) (p : Option (Xlat × Option CacheLine)) : Bool × State :=
  let r := s.amoHome s.agent (amoAsk n) va f p
  ((f r.1).isSome && p.isSome, r.2)
/-- One lane's atomic in team memory; whatever it writes, reservations on its granule are lost (R257). -/
def State.amoTm (s : State) (a n : Nat) (f : Nat → Option Nat) : Nat × State :=
  let old := s.tmRead s.cg.tk a n
  (old, match f old with
    | some v => s.tmWrite s.cg.tk a n v
    | none => s.dropResv true (tmGranule s.cg.tk a))
/-- An atomic word (R253, R254): `v` gives each lane's function of the old value. -/
def atomicWord (c : BitVec 1) (sc : BitVec 3) (o : BitVec 2) (d a : BitVec 6) (loc : BitVec 1) (wd : Nat)
    (v : Nat → Nat → Option Nat) (s : State) : Out :=
  let n := wd / 8
  if loc = 1 then
    let s := addFails (s.laneTmFails n true a) s
    let r := eachLane (fun l s => s.amoTm (s.laneAddr a l).toNat n (v l)) (lanesOf s.cur.act) s
    .next (finish c (if s.cur.act = 0 then s else (putLanes false d r).acquirePart sc o))
  else
    let s := addFails (s.laneFails (amoAsk n) a) s
    let (ok, s) := s.serveSome (amoAsk n) a (fun l p s => s.amoTry n (s.laneAddr a l) (v l) p)
    if !ok then .next (finish c s)
    else
      let s0 := s
      let r := eachLane (fun l s => s.amoHome s.agent (amoAsk n) (s.laneAddr a l) (v l) (s0.plan s0.agent (amoAsk n) (s0.laneAddr a l)))
        (lanesOf s.cur.act) s
      .next (finish c (if s.cur.act = 0 then s else (putLanes true d r).acquirePart sc o))
/-- An atomic whose new value is a function of the old value and the lane of D. -/
def simpleAtomic (c : BitVec 1) (sc : BitVec 3) (o : BitVec 2) (d a : BitVec 6) (loc : BitVec 1) (w : BitVec 2)
    (f : Nat → Nat → Nat → Nat) (s : State) : Out :=
  let wd := widthOf w
  let img := s.opnd d 64
  atomicWord c sc o d a loc wd (fun l x => some (f wd x ((laneVal img l).toNat % 2 ^ wd))) s
/-- `amoadd`. -/
def amoAdd (w x v : Nat) : Nat := (x + v) % 2 ^ w
/-- `amomin`, signed unless aux[3]. -/
def amoMin (u : BitVec 1) (w x v : Nat) : Nat :=
  let ty : ITy := { w := w, signed := u = 0 }
  if ival ty v < ival ty x then v else x
/-- `amomax`. -/
def amoMax (u : BitVec 1) (w x v : Nat) : Nat :=
  let ty : ITy := { w := w, signed := u = 0 }
  if ival ty x < ival ty v then v else x
/-- `amoinc`. -/
def amoInc (w x v : Nat) : Nat := if v ≤ x then 0 else (x + 1) % 2 ^ w
/-- AMOADD (R254). -/
def execAmoadd (c : BitVec 1) (sc : BitVec 3) (o : BitVec 2) (d : BitVec 6) (a : BitVec 6) (l : BitVec 1) (w : BitVec 2)
    (s : State) : Out := simpleAtomic c sc o d a l w amoAdd s
/-- AMOMIN (R254). -/
def execAmomin (c : BitVec 1) (sc : BitVec 3) (o : BitVec 2) (d : BitVec 6) (a : BitVec 6) (u : BitVec 1) (l : BitVec 1)
    (w : BitVec 2) (s : State) : Out := simpleAtomic c sc o d a l w (amoMin u) s
/-- AMOMAX (R254). -/
def execAmomax (c : BitVec 1) (sc : BitVec 3) (o : BitVec 2) (d : BitVec 6) (a : BitVec 6) (u : BitVec 1) (l : BitVec 1)
    (w : BitVec 2) (s : State) : Out := simpleAtomic c sc o d a l w (amoMax u) s
/-- AMOAND (R254). -/
def execAmoand (c : BitVec 1) (sc : BitVec 3) (o : BitVec 2) (d : BitVec 6) (a : BitVec 6) (l : BitVec 1) (w : BitVec 2)
    (s : State) : Out := simpleAtomic c sc o d a l w (fun _ x v => x &&& v) s
/-- AMOOR (R254). -/
def execAmoor (c : BitVec 1) (sc : BitVec 3) (o : BitVec 2) (d : BitVec 6) (a : BitVec 6) (l : BitVec 1) (w : BitVec 2)
    (s : State) : Out := simpleAtomic c sc o d a l w (fun _ x v => x ||| v) s
/-- AMOXOR (R254). -/
def execAmoxor (c : BitVec 1) (sc : BitVec 3) (o : BitVec 2) (d : BitVec 6) (a : BitVec 6) (l : BitVec 1) (w : BitVec 2)
    (s : State) : Out := simpleAtomic c sc o d a l w (fun _ x v => x ^^^ v) s
/-- AMOSWAP (R254). -/
def execAmoswap (c : BitVec 1) (sc : BitVec 3) (o : BitVec 2) (d : BitVec 6) (a : BitVec 6) (l : BitVec 1) (w : BitVec 2)
    (s : State) : Out := simpleAtomic c sc o d a l w (fun _ _ v => v) s
/-- AMOINC (R254). -/
def execAmoinc (c : BitVec 1) (sc : BitVec 3) (o : BitVec 2) (d : BitVec 6) (a : BitVec 6) (l : BitVec 1) (w : BitVec 2)
    (s : State) : Out := simpleAtomic c sc o d a l w amoInc s
/-- AMOFADD (R254): f32 or f64 under RNE, no flag. -/
def execAmofadd (c : BitVec 1) (sc : BitVec 3) (o : BitVec 2) (d : BitVec 6) (a : BitVec 6) (l : BitVec 1) (w : BitVec 1)
    (s : State) : Out :=
  let f : FFmt := if w = 1 then .f64 else .f32
  let img := s.opnd d 64
  atomicWord c sc o d a l f.bits
    (fun l x => some (fopAdd REnv.rne f 0 x ((laneVal img l).toNat % 2 ^ f.bits) 0).1) s
/-- D + 1 of `amocas` (R255); a landing register holds the landings (R20, R52). -/
def State.pairOpnd (s : State) (c : BitVec 6) : VReg :=
  if c = 55 ∧ s.cgrid.ld ≠ 0 then landingImage s.sampledNow.landings 0
  else if c = 53 ∧ 32 < s.cgrid.ld then landingImage s.sampledNow.landings 32
  else if c.toNat < 0x38 then s.opnd c 64 else 0
/-- AMOCAS (R255): the lane of D compares, the lane of D + 1 is the new value. -/
def execAmocas (c : BitVec 1) (sc : BitVec 3) (o : BitVec 2) (d : BitVec 6) (a : BitVec 6) (l : BitVec 1) (w : BitVec 2)
    (s : State) : Out :=
  let wd := widthOf w
  let cmp := s.opnd d 64
  let new := s.pairOpnd (d + 1)
  atomicWord c sc o d a l wd (fun l x =>
    if x = (laneVal cmp l).toNat % 2 ^ wd then some ((laneVal new l).toNat % 2 ^ wd) else none) s

/-! ## Reservations -/

/-- Reservations held in a slice: group, lane and order. -/
def State.sliceResv (s : State) (slice : Nat) : List (Nat × Nat × Nat) :=
  s.groups.flatMap (fun g => (g.2.resv.filter (fun r => !r.2.tm && r.2.slice == slice)).map
    (fun r => (g.1, r.1, r.2.order)))
/-- A lane's reservation is dropped. -/
def State.unreserve (s : State) (gk lane : Nat) : State :=
  let g := s.group gk
  s.setGroup gk { g with resv := ndel g.resv lane }
/-- A full slice gives up its oldest reservation (R113). -/
def State.makeRoom (s : State) (slice : Nat) : State :=
  let l := s.sliceResv slice
  if l.length < 64 then s
  else match l with
    | [] => s
    | h :: r =>
      let o := r.foldl (fun m x => if x.2.2 < m.2.2 then x else m) h
      s.unreserve o.1 o.2.1
/-- A lane reserves a granule (R113, R257). -/
def State.reserve (s : State) (lane : Nat) (tm : Bool) (granule slice : Nat) : State :=
  let s := s.unreserve s.cur.gk lane
  let s := if tm then s else s.makeRoom slice
  let g := s.cg
  { s.setGroup s.cur.gk { g with resv := nput g.resv lane { tm := tm, granule := granule, slice := slice, age := 0, order := s.resvOrder } }
    with resvOrder := s.resvOrder + 1 }
/-- A lane holds an intact reservation on a granule. -/
def State.holdsResv (s : State) (lane : Nat) (tm : Bool) (granule : Nat) : Bool :=
  s.cg.resv.any (fun r => r.1 == lane && r.2.tm == tm && r.2.granule == granule)
/-- What `lr` asks for. -/
def lrAsk (n : Nat) : Ask := { kind := 0, n := n, cached := false, write := false, tagged := false, noHost := true }
/-- What `sc` asks for. -/
def scAsk (n : Nat) : Ask := { kind := 1, n := n, cached := false, write := true, tagged := false, noHost := true }
/-- `lr` of one lane at the home (R256). -/
def State.lrHome (s : State) (ag : Agent) (q : Ask) (va : Dword) (l : Nat)
    (p : Option (Xlat × Option CacheLine)) : Nat × State :=
  match p with
  | none => (0, s)
  | some (x, _) =>
    let s := s.fillTlb ag.fn ag.pasid va
    (s.pread x.pa q.n, (s.reserve l false (x.pa / 64) (s.sliceKey x.pa)).l1Drop ag.core x.pa)
/-- LR (R256, R257). -/
def execLr (c : BitVec 1) (sc : BitVec 3) (o : BitVec 2) (d : BitVec 6) (a : BitVec 6) (l : BitVec 1) (w : BitVec 2)
    (s : State) : Out :=
  let n := widthOf w / 8
  if l = 1 then
    let s := addFails (s.laneTmFails n false a) s
    let r := eachLane (fun l s =>
        let at0 := (s.laneAddr a l).toNat
        (s.tmRead s.cg.tk at0 n, s.reserve l true (tmGranule s.cg.tk at0) 0)) (lanesOf s.cur.act) s
    .next (finish c (if s.cur.act = 0 then s else (putLanes false d r).acquirePart sc o))
  else
    let s := addFails (s.laneFails (lrAsk n) a) s
    let (ok, s) := s.serveLanes (lrAsk n) a
    if !ok then .next (finish c s)
    else
      let s0 := s
      let r := eachLane (fun l s => s.lrHome s.agent (lrAsk n) (s.laneAddr a l) l (s0.plan s0.agent (lrAsk n) (s0.laneAddr a l)))
        (lanesOf s.cur.act) s
      .next (finish c (if s.cur.act = 0 then s else (putLanes true d r).acquirePart sc o))
/-- `sc` of one lane at the home (R256). -/
def State.scHome (s : State) (ag : Agent) (q : Ask) (va : Dword) (v l : Nat)
    (p : Option (Xlat × Option CacheLine)) : Nat × State :=
  match p with
  | none => (1, s)
  | some (x, _) =>
    let s := (s.fillTlb ag.fn ag.pasid va).useSnoop x.pa
    if s.holdsResv l false (x.pa / 64) then
      (0, ((s.pwrite x.pa q.n v false (some ag.writer)).unreserve s.cur.gk l).l1Drop ag.core x.pa)
    else (1, (s.unreserve s.cur.gk l).l1Drop ag.core x.pa)
/-- A lane's `sc`, and whether it writes. -/
def State.scTry (s : State) (n : Nat) (va : Dword) (v l : Nat) (p : Option (Xlat × Option CacheLine)) : Bool × State :=
  let r := s.scHome s.agent (scAsk n) va v l p
  (r.1 == 0, r.2)
/-- SC (R256, R257). -/
def execSc (c : BitVec 1) (_sc : BitVec 3) (_o : BitVec 2) (d : BitVec 6) (a : BitVec 6) (l : BitVec 1) (w : BitVec 2)
    (s : State) : Out :=
  let n := widthOf w / 8
  let img := s.opnd d 64
  if l = 1 then
    let s := addFails (s.laneTmFails n true a) s
    let r := eachLane (fun l s =>
        let at0 := (s.laneAddr a l).toNat
        if s.holdsResv l true (tmGranule s.cg.tk at0) then
          (0, (s.tmWrite s.cg.tk at0 n (laneVal img l).toNat).unreserve s.cur.gk l)
        else (1, s.unreserve s.cur.gk l)) (lanesOf s.cur.act) s
    .next (finish c (if s.cur.act = 0 then s else putLanes false d r))
  else
    let s := addFails (s.laneFails (scAsk n) a) s
    let (ok, s) := s.serveSome (scAsk n) a (fun l p s => s.scTry n (s.laneAddr a l) (laneVal img l).toNat l p)
    if !ok then .next (finish c s)
    else
      let s0 := s
      let r := eachLane (fun l s => s.scHome s.agent (scAsk n) (s.laneAddr a l) (laneVal img l).toNat l
        (s0.plan s0.agent (scAsk n) (s0.laneAddr a l))) (lanesOf s.cur.act) s
      .next (finish c (if s.cur.act = 0 then s else putLanes true d r))
/-- RESERVATION_LAPSE (R71): 4,096 cycles after the `lr` the reservation is lost. -/
def execReservationLapse (gk : Nat) (lane : Nat) (s : State) : Out :=
  let g := s.group gk
  if g.resv.any (fun r => r.1 == lane && decide (4096 ≤ r.2.age)) then .next (s.unreserve gk lane) else .next s

/-! ## Arrival objects -/

/-- The addition of an amount to an arrival object at its home: ARRIVED, and GEN at a match (R260, R288). -/
def State.arriveAt (s : State) (pa x : Nat) (who : Option Writer) : State :=
  let target := s.pread pa 4
  let arrived := s.pread (pa + 4) 4
  let gen := s.pread (pa + 8) 2
  if target ≤ arrived + x then (s.pwrite (pa + 4) 4 0 false none).pwrite (pa + 8) 2 ((gen + 1) % 65536) false who
  else s.pwrite (pa + 4) 4 (arrived + x) false who
/-- What `arrive` asks for. -/
def arriveAsk : Ask := { kind := 2, n := 16, cached := false, write := true, tagged := false, noHost := true }
/-- `arrive` of one lane. -/
def State.arriveHome (s : State) (ag : Agent) (va : Dword) (x : Nat)
    (p : Option (Xlat × Option CacheLine)) : State :=
  match p with
  | none => s
  | some (t, _) =>
    let s := s.fillTlb ag.fn ag.pasid va
    ((s.useSnoop t.pa).arriveAt t.pa x (some ag.writer)).l1Drop ag.core t.pa
/-- ARRIVE (R260). -/
def execArrive (c : BitVec 1) (_sc : BitVec 3) (_o : BitVec 2) (d : BitVec 6) (a : BitVec 6) (s : State) : Out :=
  let img := s.opnd d 64
  let s := addFails (s.laneFails arriveAsk a) s
  let (ok, s) := s.serveLanes arriveAsk a
  if !ok then .next (finish c s)
  else
    let s0 := s
    .next (finish c ((lanesOf s.cur.act).foldl (fun s l => s.arriveHome s.agent (s.laneAddr a l)
      ((laneVal img l).toNat % 2 ^ 32) (s0.plan s0.agent arriveAsk (s0.laneAddr a l))) s))
/-- A generation has reached a wanted one, or the status shows a fault (R261). -/
def awaitMet (word2 want : Nat) : Bool :=
  decide ((word2 % 65536 + 65536 - want % 65536) % 65536 < 32768) || decide (word2 / 2 ^ 24 ≠ 0)
/-- What `await` asks for. -/
def awaitAsk : Ask := { kind := 0, n := 16, cached := false, write := false, tagged := false, noHost := true }
/-- One lane's wait is judged at the home of its object: the word that ends it, once the read of it is served, with the lines that it
asks for. Whether a test that does not end it reads the object is open (Config.testReads). -/
def State.awaitLane (s : State) (ag : Agent) (va : Dword) (lines : List Nat) (want : Nat) (p : Option (Xlat × Option CacheLine)) :
    Option Nat × State :=
  match p with
  | none => (none, s)
  | some (x, _) =>
    let w := s.pread (x.pa + 8) 4
    let met := awaitMet w want
    if !s.cur.serves then (if met then some w else none, s)
    else if met || Config.testReads s.epoch (x.pa / 64) then
      let (ok, s) := s.serveLines ag false s.cur.wpc.toNat lines
      if ok && met then (some w, s.fillTlb ag.fn ag.pasid va) else (none, s)
    else (none, s)
/-- The lanes whose wait ends now are noted. -/
def State.awaitAll (a : BitVec 6) (img : VReg) (s : State) : State :=
  let s0 := s
  (lanesOf s.cur.act).foldl (fun s l =>
    if s.cur.got.any (fun x => x.1 == l) then s
    else
      match s.awaitLane s0.agent (s0.laneAddr a l) (s0.wordLines s0.agent [(awaitAsk, s0.laneAddr a l)]) (laneVal img l).toNat
          (s0.plan s0.agent awaitAsk (s0.laneAddr a l)) with
      | (some w, s) => s.mapCur (fun c => { c with got := nput c.got l w })
      | (none, s) => s) s
/-- Lanes whose wait goes on keep the places of their reads in the queues that still hold them up, and a line that was read is read
again by the next test. -/
def State.restAwait (s : State) (pas : List Nat) : State :=
  let v := s.cur.svc
  let tag := s.cur.wpc.toNat
  let v := { v with
    seen := v.seen.filter (fun x => x / 2 ^ 80 != tag || v.due.any (fun d => d.line == x % 2 ^ 80))
    frames := v.frames.filter (fun f => !pas.any (fun pa => pa / 65536 == f) || s.frameBusy v.ticket s.agent.core (f * 65536)) }
  s.setSvc .port (if v.frames.isEmpty && v.due.isEmpty && !v.snooping then { v with ticket := none } else v)
/-- AWAIT (R261): lanes end one by one; the bundle commits when each has. -/
def execAwait (c : BitVec 1) (sc : BitVec 3) (o : BitVec 2) (d : BitVec 6) (a : BitVec 6) (s : State) : Out :=
  let img := s.opnd d 64
  let s := addFails (s.laneFails awaitAsk a) s
  let s := s.awaitAll a img
  if (lanesOf s.cur.act).all (fun l => s.cur.got.any (fun x => x.1 == l)) then
    let vs := (lanesOf s.cur.act).map (fun l => (l, nget 0 s.cur.got l))
    .next (finish c (if s.cur.act = 0 then s else (putLanes false d (vs, s)).acquirePart sc o))
  else
    let rest := (lanesOf s.cur.act).filter (fun l => !s.cur.got.any (fun x => x.1 == l))
    .next (finish c ((s.restAwait (s.wordLines s.agent (rest.map (fun l => (awaitAsk, s.laneAddr a l))))).block .await))

/-! ## Barriers and tags -/

/-- Live groups of a team. -/
def State.liveGroups (s : State) (tk : Nat) : List Nat := (s.team tk).gks.filter (fun gk => (s.group gk).live)
/-- The team leader: the live group with the lowest id (R24); the group whose bundle is on the port is live. -/
def State.leader (s : State) (tk : Nat) : Option Nat :=
  ((s.team tk).gks.filter (fun gk => gk == s.cur.gk || (s.group gk).live)).head?
/-- A group leaves the completed barrier: its waiting entries run on, and the acquire part of its `bar` acts (R262). -/
def State.barRelease (s : State) (gk : Nat) : State :=
  let g := s.group gk
  let h := (s.grid (s.team g.tk).grid).hdr
  let s1 := if g.barArrived && g.barOrder.2 % 2 == 1 then s.acquire (coreOf gk) g.barOrder.1 else s
  s1.setGroup gk (settle h { g with
    barArrived := false
    frontier := normFrontier (g.frontier.map (fun e => { e with barWait := false })) })
/-- The barrier of a team completes when every live group has arrived (R262). -/
def State.barComplete (s : State) (tk : Nat) : State :=
  let live := s.liveGroups tk
  if live.any (fun gk => (s.group gk).barArrived) && live.all (fun gk => (s.group gk).barArrived) then
    (s.team tk).gks.foldl State.barRelease s
  else s
/-- A group arrives at a `bar` (R262); the last to arrive completes it. -/
def State.barArrive (s : State) (gk : Nat) (sc : BitVec 3) (o : BitVec 2) : State :=
  let s := s.setGroup gk { s.group gk with barArrived := true, barOrder := (sc.toNat, o.toNat) }
  let t := s.team (s.group gk).tk
  if (t.gks.filter (fun k => k != gk && (s.group k).live)).all (fun k => (s.group k).barArrived) then t.gks.foldl State.barRelease s else s
/-- BAR (R262): the group arrives; its lanes wait after the bundle unless the barrier is complete. A bundle that had to wait for another
word arrived when it issued. -/
def execBar (c : BitVec 1) (sc : BitVec 3) (o : BitVec 2) (s : State) : Out :=
  if s.cur.act = 0 then .next (finish c s)
  else
    let s := if s.cur.arrived then s else s.barArrive s.cur.gk sc o
    .next (finish c (s.mapCur (fun c => { c with bar := s.cg.barArrived })))
/-- BAR_COMPLETE (R262). -/
def execBarComplete (tk : Nat) (s : State) : Out := .next (s.barComplete tk)
/-- TAGQ (R263). -/
def execTagq (c : BitVec 1) (d : BitVec 6) (a : BitVec 6) (s : State) : Out :=
  let t := readTags s.cur.src a
  .next (finish c (if s.cur.act = 0 then s else
    s.mapRegs (writeV d s.cur.act (image 64 (fun l => if t.getLsbD l then 1 else 0)) 0)))
/-- UNTAG (R263). -/
def execUntag (c : BitVec 1) (d : BitVec 6) (s : State) : Out :=
  let m := s.cur.act
  .next (finish c (if m = 0 then s else s.mapRegs (fun r =>
    if d.toNat < 0x38 then { r with vtags := nput r.vtags d.toNat (nget 0 r.vtags d.toNat &&& ~~~m) } else r)))

end Sys2Proof.Machine
end

