-- ==== Sys2Proof/Machine/Integer.lean ====
section
/-! DEFINITION. The integer words: majors 0, 4, 6, 7 and 8 (chapter "Instructions: Integer, Scalar and Immediate"). -/

namespace Sys2Proof.Machine

/-- One element of a vector integer word: type, patterns of a, b and the old d; result pattern and flags. -/
abbrev IntOp := ITy → Nat → Nat → Nat → Nat × BitVec 8

/-- All ones or zero (R197). -/
def cmpRes (ty : ITy) (b : Bool) : Nat × BitVec 8 := (if b then 2 ^ ty.w - 1 else 0, 0)
/-- Number of 1 bits among the low `n`. -/
def popCount (x : Nat) : Nat → Nat
  | 0 => 0
  | n + 1 => popCount x n + (if x.testBit n then 1 else 0)
/-- Number of 0 bits above the highest 1 bit of the low `n`. -/
def leadZeros (x : Nat) : Nat → Nat
  | 0 => 0
  | n + 1 => if x.testBit n then 0 else leadZeros x n + 1
/-- The low `n` bits reversed. -/
def bitReverse (x : Nat) : Nat → Nat
  | 0 => 0
  | n + 1 => 2 * bitReverse x n + (if x.testBit n then 1 else 0)
/-- Position and effective length of `bfx` and `bfi` (R198). -/
def fieldSel (w c : Nat) : Nat × Nat :=
  let pos := c % w
  (pos, Nat.min ((c / w) % (2 * w)) (w - pos))

/-- `add` (R197). -/
def opAdd : IntOp := fun ty a b _ => wrapInt ty (ival ty a + ival ty b)
/-- `sub`. -/
def opSub : IntOp := fun ty a b _ => wrapInt ty (ival ty a - ival ty b)
/-- `adds`. -/
def opAdds : IntOp := fun ty a b _ => satInt ty (ival ty a + ival ty b)
/-- `subs`. -/
def opSubs : IntOp := fun ty a b _ => satInt ty (ival ty a - ival ty b)
/-- `mul`. -/
def opMul : IntOp := fun ty a b _ => wrapInt ty (ival ty a * ival ty b)
/-- `mulh`: the upper half of the exact product. -/
def opMulh : IntOp := fun ty a b _ => wrapInt ty (Int.fdiv (ival ty a * ival ty b) (2 ^ ty.w))
/-- `mad`. -/
def opMad : IntOp := fun ty a b d => wrapInt ty (ival ty a * ival ty b + ival ty d)
/-- `min`. -/
def opMin : IntOp := fun ty a b _ => (if ival ty b < ival ty a then b else a, 0)
/-- `max`. -/
def opMax : IntOp := fun ty a b _ => (if ival ty a < ival ty b then b else a, 0)
/-- `absd`. -/
def opAbsd : IntOp := fun ty a b _ => wrapInt ty (ival ty a - ival ty b).natAbs
/-- `and`. -/
def opAnd : IntOp := fun _ a b _ => (a &&& b, 0)
/-- `or`. -/
def opOr : IntOp := fun _ a b _ => (a ||| b, 0)
/-- `xor`. -/
def opXor : IntOp := fun _ a b _ => (a ^^^ b, 0)
/-- `andn`. -/
def opAndn : IntOp := fun ty a b _ => (a &&& (b ^^^ (2 ^ ty.w - 1)), 0)
/-- `shl`: 0 once the count reaches the width. -/
def opShl : IntOp := fun ty a c _ => (if ty.w ≤ c then 0 else (a <<< c) % 2 ^ ty.w, 0)
/-- `shr`: floor division; a count past the width gives sign bits or 0. -/
def opShr : IntOp := fun ty a c _ => (patt ty.w (Int.fdiv (ival ty a) (2 ^ Nat.min c 64)), 0)
/-- `shrr`: rounding shift. -/
def opShrr : IntOp := fun ty a c _ =>
  if c = 0 then (a, 0)
  else let n := Nat.min c 66
       (patt ty.w (Int.fdiv (ival ty a + 2 ^ (n - 1)) (2 ^ n)), 0)
/-- `rotl`. -/
def opRotl : IntOp := fun ty a c _ =>
  let n := c % ty.w
  ((a <<< n) % 2 ^ ty.w ||| a >>> (ty.w - n), 0)
/-- `ceq`. -/
def opCeq : IntOp := fun ty a b _ => cmpRes ty (a == b)
/-- `clt`. -/
def opClt : IntOp := fun ty a b _ => cmpRes ty (decide (ival ty a < ival ty b))
/-- `cle`. -/
def opCle : IntOp := fun ty a b _ => cmpRes ty (decide (ival ty a ≤ ival ty b))
/-- `bfx` (R198). -/
def opBfx : IntOp := fun ty a c _ =>
  let (pos, m) := fieldSel ty.w c
  if m = 0 then (0, 0)
  else
    let x := (a >>> pos) % 2 ^ m
    (if ty.signed then patt ty.w (sext x m) else x, 0)
/-- `bfi` (R198). -/
def opBfi : IntOp := fun ty a c d =>
  let (pos, m) := fieldSel ty.w c
  if m = 0 then (d, 0)
  else
    let hole := (2 ^ m - 1) <<< pos
    ((d &&& ((2 ^ ty.w - 1) ^^^ hole)) ||| (a % 2 ^ m) <<< pos, 0)
/-- `popc`. -/
def opPopc : IntOp := fun ty a _ _ => (popCount a ty.w, 0)
/-- `clz`. -/
def opClz : IntOp := fun ty a _ _ => (leadZeros a ty.w, 0)
/-- `brev`. -/
def opBrev : IntOp := fun ty a _ _ => (bitReverse a ty.w, 0)
/-- `sel`: D is the condition. -/
def opSel : IntOp := fun _ a b d => (if d = 0 then b else a, 0)
/-- `avg`. -/
def opAvg : IntOp := fun ty a b _ => (patt ty.w (Int.fdiv (ival ty a + ival ty b + 1) 2), 0)

/-- Element-wise result of a vector integer word from its three source images. -/
def intImage (t : BitVec 3) (op : IntOp) (act : LaneMask) (a b d : VReg) : VReg × BitVec 8 :=
  let ty := ity t
  emap ty.w act (fun e => op ty (elem a ty.w e) (elem b ty.w e) (elem d ty.w e))

/-- A word of major 0: B is a vector operand; `rd` says that D is read as well (R197). -/
def intWord (rd : Bool) (op : IntOp) (c k : BitVec 1) (t : BitVec 3) (d a b : BitVec 6) (s : State) : Out :=
  let w := (ity t).w
  vecWord 1 c k d ([a, b] ++ if rd then [d] else [])
    (fun s => intImage t op s.cur.act (s.opnd a w) (s.opnd b w) (s.opnd d w)) s
/-- A word of major 4: every element reads the low bits of s(B) (R196). -/
def intWordS (rd : Bool) (op : IntOp) (c k : BitVec 1) (t : BitVec 3) (d a b : BitVec 6) (s : State) : Out :=
  let w := (ity t).w
  vecWord 1 c k d ([a] ++ if rd then [d] else [])
    (fun s => intImage t op s.cur.act (s.opnd a w) (splat w (s.sreg b).toNat) (s.opnd d w)) s
/-- `popc`, `clz`, `brev`. -/
def intUnary (op : IntOp) (c k : BitVec 1) (t : BitVec 3) (d a : BitVec 6) (s : State) : Out :=
  let w := (ity t).w
  vecWord 1 c k d [a] (fun s => intImage t op s.cur.act (s.opnd a w) 0 0) s

/-- `dot2` (R199): pairs of adjacent elements accumulate with one clamp. -/
def dot2Image (t : BitVec 3) (act : LaneMask) (a b d : VReg) : VReg × BitVec 8 :=
  let ty := ity t
  let ty2 : ITy := { w := 2 * ty.w, signed := ty.signed }
  let pr (e : Nat) : Int := ival ty (elem a ty.w e) * ival ty (elem b ty.w e)
  emap ty2.w act (fun j => satInt ty2 (ival ty2 (elem d ty2.w j) + pr (2 * j) + pr (2 * j + 1)))

/-- `dot2` with a vector B. -/
def execDot2 (c k : BitVec 1) (t : BitVec 3) (d a b : BitVec 6) (s : State) : Out :=
  let w := (ity t).w
  vecWord 1 c k d [a, b, d] (fun s => dot2Image t s.cur.act (s.opnd a w) (s.opnd b w) (s.opnd d (2 * w))) s
/-- `dot2` with a scalar B. -/
def execDot2Scalar (c k : BitVec 1) (t : BitVec 3) (d a b : BitVec 6) (s : State) : Out :=
  let w := (ity t).w
  vecWord 1 c k d [a, d] (fun s => dot2Image t s.cur.act (s.opnd a w) (splat w (s.sreg b).toNat) (s.opnd d (2 * w))) s

/-- `nop` (R178). -/
def execNop (c : BitVec 1) (s : State) : Out := .next (finish c s)

/-- `add`, vector B. -/
def execAdd (c k : BitVec 1) (t : BitVec 3) (d a b : BitVec 6) (s : State) : Out := intWord false opAdd c k t d a b s
/-- `add`, scalar B. -/
def execAddScalar (c k : BitVec 1) (t : BitVec 3) (d a b : BitVec 6) (s : State) : Out := intWordS false opAdd c k t d a b s
/-- `sub`, vector B. -/
def execSub (c k : BitVec 1) (t : BitVec 3) (d a b : BitVec 6) (s : State) : Out := intWord false opSub c k t d a b s
/-- `sub`, scalar B. -/
def execSubScalar (c k : BitVec 1) (t : BitVec 3) (d a b : BitVec 6) (s : State) : Out := intWordS false opSub c k t d a b s
/-- `adds`, vector B. -/
def execAdds (c k : BitVec 1) (t : BitVec 3) (d a b : BitVec 6) (s : State) : Out := intWord false opAdds c k t d a b s
/-- `adds`, scalar B. -/
def execAddsScalar (c k : BitVec 1) (t : BitVec 3) (d a b : BitVec 6) (s : State) : Out := intWordS false opAdds c k t d a b s
/-- `subs`, vector B. -/
def execSubs (c k : BitVec 1) (t : BitVec 3) (d a b : BitVec 6) (s : State) : Out := intWord false opSubs c k t d a b s
/-- `subs`, scalar B. -/
def execSubsScalar (c k : BitVec 1) (t : BitVec 3) (d a b : BitVec 6) (s : State) : Out := intWordS false opSubs c k t d a b s
/-- `mul`, vector B. -/
def execMul (c k : BitVec 1) (t : BitVec 3) (d a b : BitVec 6) (s : State) : Out := intWord false opMul c k t d a b s
/-- `mul`, scalar B. -/
def execMulScalar (c k : BitVec 1) (t : BitVec 3) (d a b : BitVec 6) (s : State) : Out := intWordS false opMul c k t d a b s
/-- `mulh`, vector B. -/
def execMulh (c k : BitVec 1) (t : BitVec 3) (d a b : BitVec 6) (s : State) : Out := intWord false opMulh c k t d a b s
/-- `mulh`, scalar B. -/
def execMulhScalar (c k : BitVec 1) (t : BitVec 3) (d a b : BitVec 6) (s : State) : Out := intWordS false opMulh c k t d a b s
/-- `mad`, vector B. -/
def execMad (c k : BitVec 1) (t : BitVec 3) (d a b : BitVec 6) (s : State) : Out := intWord true opMad c k t d a b s
/-- `mad`, scalar B. -/
def execMadScalar (c k : BitVec 1) (t : BitVec 3) (d a b : BitVec 6) (s : State) : Out := intWordS true opMad c k t d a b s
/-- `min`, vector B. -/
def execMin (c k : BitVec 1) (t : BitVec 3) (d a b : BitVec 6) (s : State) : Out := intWord false opMin c k t d a b s
/-- `min`, scalar B. -/
def execMinScalar (c k : BitVec 1) (t : BitVec 3) (d a b : BitVec 6) (s : State) : Out := intWordS false opMin c k t d a b s
/-- `max`, vector B. -/
def execMax (c k : BitVec 1) (t : BitVec 3) (d a b : BitVec 6) (s : State) : Out := intWord false opMax c k t d a b s
/-- `max`, scalar B. -/
def execMaxScalar (c k : BitVec 1) (t : BitVec 3) (d a b : BitVec 6) (s : State) : Out := intWordS false opMax c k t d a b s
/-- `absd`, vector B. -/
def execAbsd (c k : BitVec 1) (t : BitVec 3) (d a b : BitVec 6) (s : State) : Out := intWord false opAbsd c k t d a b s
/-- `absd`, scalar B. -/
def execAbsdScalar (c k : BitVec 1) (t : BitVec 3) (d a b : BitVec 6) (s : State) : Out := intWordS false opAbsd c k t d a b s
/-- `and`, vector B. -/
def execAnd (c k : BitVec 1) (t : BitVec 3) (d a b : BitVec 6) (s : State) : Out := intWord false opAnd c k t d a b s
/-- `and`, scalar B. -/
def execAndScalar (c k : BitVec 1) (t : BitVec 3) (d a b : BitVec 6) (s : State) : Out := intWordS false opAnd c k t d a b s
/-- `or`, vector B. -/
def execOr (c k : BitVec 1) (t : BitVec 3) (d a b : BitVec 6) (s : State) : Out := intWord false opOr c k t d a b s
/-- `or`, scalar B. -/
def execOrScalar (c k : BitVec 1) (t : BitVec 3) (d a b : BitVec 6) (s : State) : Out := intWordS false opOr c k t d a b s
/-- `xor`, vector B. -/
def execXor (c k : BitVec 1) (t : BitVec 3) (d a b : BitVec 6) (s : State) : Out := intWord false opXor c k t d a b s
/-- `xor`, scalar B. -/
def execXorScalar (c k : BitVec 1) (t : BitVec 3) (d a b : BitVec 6) (s : State) : Out := intWordS false opXor c k t d a b s
/-- `andn`, vector B. -/
def execAndn (c k : BitVec 1) (t : BitVec 3) (d a b : BitVec 6) (s : State) : Out := intWord false opAndn c k t d a b s
/-- `andn`, scalar B. -/
def execAndnScalar (c k : BitVec 1) (t : BitVec 3) (d a b : BitVec 6) (s : State) : Out := intWordS false opAndn c k t d a b s
/-- `shl`, vector B. -/
def execShl (c k : BitVec 1) (t : BitVec 3) (d a b : BitVec 6) (s : State) : Out := intWord false opShl c k t d a b s
/-- `shl`, scalar B. -/
def execShlScalar (c k : BitVec 1) (t : BitVec 3) (d a b : BitVec 6) (s : State) : Out := intWordS false opShl c k t d a b s
/-- `shr`, vector B. -/
def execShr (c k : BitVec 1) (t : BitVec 3) (d a b : BitVec 6) (s : State) : Out := intWord false opShr c k t d a b s
/-- `shr`, scalar B. -/
def execShrScalar (c k : BitVec 1) (t : BitVec 3) (d a b : BitVec 6) (s : State) : Out := intWordS false opShr c k t d a b s
/-- `shrr`, vector B. -/
def execShrr (c k : BitVec 1) (t : BitVec 3) (d a b : BitVec 6) (s : State) : Out := intWord false opShrr c k t d a b s
/-- `shrr`, scalar B. -/
def execShrrScalar (c k : BitVec 1) (t : BitVec 3) (d a b : BitVec 6) (s : State) : Out := intWordS false opShrr c k t d a b s
/-- `rotl`, vector B. -/
def execRotl (c k : BitVec 1) (t : BitVec 3) (d a b : BitVec 6) (s : State) : Out := intWord false opRotl c k t d a b s
/-- `rotl`, scalar B. -/
def execRotlScalar (c k : BitVec 1) (t : BitVec 3) (d a b : BitVec 6) (s : State) : Out := intWordS false opRotl c k t d a b s
/-- `ceq`, vector B. -/
def execCeq (c k : BitVec 1) (t : BitVec 3) (d a b : BitVec 6) (s : State) : Out := intWord false opCeq c k t d a b s
/-- `ceq`, scalar B. -/
def execCeqScalar (c k : BitVec 1) (t : BitVec 3) (d a b : BitVec 6) (s : State) : Out := intWordS false opCeq c k t d a b s
/-- `clt`, vector B. -/
def execClt (c k : BitVec 1) (t : BitVec 3) (d a b : BitVec 6) (s : State) : Out := intWord false opClt c k t d a b s
/-- `clt`, scalar B. -/
def execCltScalar (c k : BitVec 1) (t : BitVec 3) (d a b : BitVec 6) (s : State) : Out := intWordS false opClt c k t d a b s
/-- `cle`, vector B. -/
def execCle (c k : BitVec 1) (t : BitVec 3) (d a b : BitVec 6) (s : State) : Out := intWord false opCle c k t d a b s
/-- `cle`, scalar B. -/
def execCleScalar (c k : BitVec 1) (t : BitVec 3) (d a b : BitVec 6) (s : State) : Out := intWordS false opCle c k t d a b s
/-- `bfx`, vector B. -/
def execBfx (c k : BitVec 1) (t : BitVec 3) (d a b : BitVec 6) (s : State) : Out := intWord false opBfx c k t d a b s
/-- `bfx`, scalar B. -/
def execBfxScalar (c k : BitVec 1) (t : BitVec 3) (d a b : BitVec 6) (s : State) : Out := intWordS false opBfx c k t d a b s
/-- `bfi`, vector B. -/
def execBfi (c k : BitVec 1) (t : BitVec 3) (d a b : BitVec 6) (s : State) : Out := intWord true opBfi c k t d a b s
/-- `bfi`, scalar B. -/
def execBfiScalar (c k : BitVec 1) (t : BitVec 3) (d a b : BitVec 6) (s : State) : Out := intWordS true opBfi c k t d a b s
/-- `sel`, vector B. -/
def execSel (c k : BitVec 1) (t : BitVec 3) (d a b : BitVec 6) (s : State) : Out := intWord true opSel c k t d a b s
/-- `sel`, scalar B. -/
def execSelScalar (c k : BitVec 1) (t : BitVec 3) (d a b : BitVec 6) (s : State) : Out := intWordS true opSel c k t d a b s
/-- `avg`, vector B. -/
def execAvg (c k : BitVec 1) (t : BitVec 3) (d a b : BitVec 6) (s : State) : Out := intWord false opAvg c k t d a b s
/-- `avg`, scalar B. -/
def execAvgScalar (c k : BitVec 1) (t : BitVec 3) (d a b : BitVec 6) (s : State) : Out := intWordS false opAvg c k t d a b s
/-- `popc`. -/
def execPopc (c k : BitVec 1) (t : BitVec 3) (d a : BitVec 6) (s : State) : Out := intUnary opPopc c k t d a s
/-- `clz`. -/
def execClz (c k : BitVec 1) (t : BitVec 3) (d a : BitVec 6) (s : State) : Out := intUnary opClz c k t d a s
/-- `brev`. -/
def execBrev (c k : BitVec 1) (t : BitVec 3) (d a : BitVec 6) (s : State) : Out := intUnary opBrev c k t d a s

/-! ## Major 6 -/

/-- The type of a register-immediate word: signed of width W, except `shri` (R200). -/
def riTy (signed : Bool) (w : BitVec 2) : ITy := { w := widthOf w, signed := signed }
/-- A register-immediate word: b is the pattern of the immediate in every element (R200). -/
def riWord (op : IntOp) (signed : Bool) (i : Int) (c k : BitVec 1) (d a : BitVec 6) (w : BitVec 2) (s : State) : Out :=
  let ty := riTy signed w
  vecWord 1 c k d [a] (fun s =>
    emap ty.w s.cur.act (fun e => op ty (elem (s.opnd a ty.w) ty.w e) (patt ty.w i) 0)) s
/-- `slidei` (R201). -/
def slideImage (w : Nat) (i : Int) (a : VReg) : VReg :=
  image w (fun e =>
    let src : Int := (e : Int) - i
    if 0 ≤ src ∧ src < (2048 / w : Nat) then elem a w src.toNat else 0)
/-- `slidei`: elements move by the immediate, zeros come in. -/
def execSlidei (c k : BitVec 1) (d a : BitVec 6) (w : BitVec 2) (i : BitVec 8) (s : State) : Out :=
  vecWord 1 c k d [a] (fun s => (slideImage (widthOf w) i.toInt (s.opnd a (widthOf w)), 0)) s

/-- `addi`. -/
def execAddi (c k : BitVec 1) (d a : BitVec 6) (w : BitVec 2) (i : BitVec 8) (s : State) : Out :=
  riWord opAdd true i.toInt c k d a w s
/-- `muli`. -/
def execMuli (c k : BitVec 1) (d a : BitVec 6) (w : BitVec 2) (i : BitVec 8) (s : State) : Out :=
  riWord opMul true i.toInt c k d a w s
/-- `andi`. -/
def execAndi (c k : BitVec 1) (d a : BitVec 6) (w : BitVec 2) (i : BitVec 8) (s : State) : Out :=
  riWord opAnd true i.toInt c k d a w s
/-- `ori`. -/
def execOri (c k : BitVec 1) (d a : BitVec 6) (w : BitVec 2) (i : BitVec 8) (s : State) : Out :=
  riWord opOr true i.toInt c k d a w s
/-- `xori`. -/
def execXori (c k : BitVec 1) (d a : BitVec 6) (w : BitVec 2) (i : BitVec 8) (s : State) : Out :=
  riWord opXor true i.toInt c k d a w s
/-- `shli`. -/
def execShli (c k : BitVec 1) (d a : BitVec 6) (w : BitVec 2) (i : BitVec 8) (s : State) : Out :=
  riWord opShl true i.toNat c k d a w s
/-- `shri`. -/
def execShri (c k : BitVec 1) (d a : BitVec 6) (w : BitVec 2) (i : BitVec 8) (s : State) : Out :=
  riWord opShr false i.toNat c k d a w s
/-- `srai`. -/
def execSrai (c k : BitVec 1) (d a : BitVec 6) (w : BitVec 2) (i : BitVec 8) (s : State) : Out :=
  riWord opShr true i.toNat c k d a w s
/-- `shrri`. -/
def execShrri (c k : BitVec 1) (d a : BitVec 6) (w : BitVec 2) (i : BitVec 8) (s : State) : Out :=
  riWord opShrr true i.toNat c k d a w s
/-- `ceqi`. -/
def execCeqi (c k : BitVec 1) (d a : BitVec 6) (w : BitVec 2) (i : BitVec 8) (s : State) : Out :=
  riWord opCeq true i.toInt c k d a w s
/-- `clti`. -/
def execClti (c k : BitVec 1) (d a : BitVec 6) (w : BitVec 2) (i : BitVec 8) (s : State) : Out :=
  riWord opClt true i.toInt c k d a w s
/-- `mini`. -/
def execMini (c k : BitVec 1) (d a : BitVec 6) (w : BitVec 2) (i : BitVec 8) (s : State) : Out :=
  riWord opMin true i.toInt c k d a w s
/-- `maxi`. -/
def execMaxi (c k : BitVec 1) (d a : BitVec 6) (w : BitVec 2) (i : BitVec 8) (s : State) : Out :=
  riWord opMax true i.toInt c k d a w s

/-! ## Major 7 -/

/-- The second operand of a scalar word: s(SB), or IMM8 signed or unsigned (R202). -/
def scalarB (unsigned : Bool) (i : BitVec 1) (b : BitVec 8) (s : State) : Dword :=
  if i = 1 then (if unsigned then b.setWidth 64 else b.signExtend 64) else s.sreg (b.setWidth 6)
/-- A scalar word whose result is a function of s(SA), b and the old SD (R203). -/
def scWord (unsigned : Bool) (f : Dword → Dword → Dword → Dword) (c : BitVec 1) (d a : BitVec 6) (i : BitVec 1)
    (b : BitVec 8) (s : State) : Out :=
  scalarWord c (fun s => writeS d (f (s.sreg a) (scalarB unsigned i b s) (s.sreg d)) false) s
/-- A scalar word that acts as a vector word does on one 64-bit element. -/
def asElem (signed : Bool) (op : IntOp) (a b d : Dword) : Dword :=
  BitVec.ofNat 64 (op { w := 64, signed := signed } a.toNat b.toNat d.toNat).1
/-- The value 1 or 0 of a scalar compare. -/
def truth (b : Bool) : Dword := if b then 1 else 0

/-- `sadd` (R203). -/
def execSadd (c : BitVec 1) (d a : BitVec 6) (i : BitVec 1) (b : BitVec 8) (s : State) : Out :=
  scWord false (fun x y _ => x + y) c d a i b s
/-- `ssub` (R203). -/
def execSsub (c : BitVec 1) (d a : BitVec 6) (i : BitVec 1) (b : BitVec 8) (s : State) : Out :=
  scWord false (fun x y _ => x - y) c d a i b s
/-- `smul` (R203). -/
def execSmul (c : BitVec 1) (d a : BitVec 6) (i : BitVec 1) (b : BitVec 8) (s : State) : Out :=
  scWord false (fun x y _ => x * y) c d a i b s
/-- `smulh` (R203). -/
def execSmulh (c : BitVec 1) (d a : BitVec 6) (i : BitVec 1) (b : BitVec 8) (s : State) : Out :=
  scWord false (asElem true opMulh) c d a i b s
/-- `sand` (R203). -/
def execSand (c : BitVec 1) (d a : BitVec 6) (i : BitVec 1) (b : BitVec 8) (s : State) : Out :=
  scWord false (fun x y _ => x &&& y) c d a i b s
/-- `sor` (R203). -/
def execSor (c : BitVec 1) (d a : BitVec 6) (i : BitVec 1) (b : BitVec 8) (s : State) : Out :=
  scWord false (fun x y _ => x ||| y) c d a i b s
/-- `sxor` (R203). -/
def execSxor (c : BitVec 1) (d a : BitVec 6) (i : BitVec 1) (b : BitVec 8) (s : State) : Out :=
  scWord false (fun x y _ => x ^^^ y) c d a i b s
/-- `sshl` (R203). -/
def execSshl (c : BitVec 1) (d a : BitVec 6) (i : BitVec 1) (b : BitVec 8) (s : State) : Out :=
  scWord true (asElem false opShl) c d a i b s
/-- `sshr` (R203). -/
def execSshr (c : BitVec 1) (d a : BitVec 6) (i : BitVec 1) (b : BitVec 8) (s : State) : Out :=
  scWord true (asElem false opShr) c d a i b s
/-- `ssra` (R203). -/
def execSsra (c : BitVec 1) (d a : BitVec 6) (i : BitVec 1) (b : BitVec 8) (s : State) : Out :=
  scWord true (asElem true opShr) c d a i b s
/-- `smin` (R203). -/
def execSmin (c : BitVec 1) (d a : BitVec 6) (i : BitVec 1) (b : BitVec 8) (s : State) : Out :=
  scWord false (asElem true opMin) c d a i b s
/-- `smax` (R203). -/
def execSmax (c : BitVec 1) (d a : BitVec 6) (i : BitVec 1) (b : BitVec 8) (s : State) : Out :=
  scWord false (asElem true opMax) c d a i b s
/-- `sceq` (R203). -/
def execSceq (c : BitVec 1) (d a : BitVec 6) (i : BitVec 1) (b : BitVec 8) (s : State) : Out :=
  scWord false (fun x y _ => truth (x == y)) c d a i b s
/-- `sclt` (R203). -/
def execSclt (c : BitVec 1) (d a : BitVec 6) (i : BitVec 1) (b : BitVec 8) (s : State) : Out :=
  scWord false (fun x y _ => truth (x.slt y)) c d a i b s
/-- `scltn` (R203). -/
def execScltn (c : BitVec 1) (d a : BitVec 6) (i : BitVec 1) (b : BitVec 8) (s : State) : Out :=
  scWord false (fun x y _ => truth (x.ult y)) c d a i b s
/-- `ssel` (R203). -/
def execSsel (c : BitVec 1) (d a : BitVec 6) (i : BitVec 1) (b : BitVec 8) (s : State) : Out :=
  scWord false (fun x y old => if old = 0 then y else x) c d a i b s
/-- `sbfx` (R203). -/
def execSbfx (c : BitVec 1) (d a : BitVec 6) (i : BitVec 1) (b : BitVec 8) (s : State) : Out :=
  scWord true (asElem false opBfx) c d a i b s
/-- `sbfi` (R203). -/
def execSbfi (c : BitVec 1) (d a : BitVec 6) (i : BitVec 1) (b : BitVec 8) (s : State) : Out :=
  scWord true (asElem false opBfi) c d a i b s

/-- `spopc`. -/
def execSpopc (c : BitVec 1) (d a : BitVec 6) (s : State) : Out :=
  scalarWord c (fun s => writeS d (asElem false opPopc (s.sreg a) 0 0) false) s
/-- `sclz`. -/
def execSclz (c : BitVec 1) (d a : BitVec 6) (s : State) : Out :=
  scalarWord c (fun s => writeS d (asElem false opClz (s.sreg a) 0 0) false) s
/-- The lane number of `vtos` and `stov` (R204). -/
def laneSel (i : BitVec 1) (b : BitVec 8) (s : State) : Nat :=
  if i = 1 then b.toNat % 32 else (s.sreg (b.setWidth 6)).toNat % 32
/-- `vtos`: one lane to an s-register, with its tag bit (R204). -/
def execVtos (c : BitVec 1) (d a : BitVec 6) (i : BitVec 1) (b : BitVec 8) (s : State) : Out :=
  scalarWord c (fun s => writeS d (laneVal (s.opnd a 64) (laneSel i b s)) ((readTags s.cur.src a).getLsbD (laneSel i b s)))
    (addFails (latchFails s [a]) s)
/-- `stov`: an s-register to one lane, with its tag bit, if the lane is in the entry's mask (R204). -/
def execStov (c : BitVec 1) (d a : BitVec 6) (i : BitVec 1) (b : BitVec 8) (s : State) : Out :=
  scalarWord c (fun s =>
    let l := laneSel i b s
    let m := oneLane l &&& s.cur.act
    writeV d m (image 64 (fun _ => (s.sreg a).toNat)) (if s.cur.src.stags.getLsbD a.toNat then m else 0)) s
/-- Divide by zero of `sdiv` and `srem`: uniform, so every lane of the entry fails (R205). -/
def divFails (i : BitVec 1) (b : BitVec 8) (s : State) : List Fail :=
  if scalarB false i b s = 0 then uniformFail s 0x0D8 else []
/-- `sdiv` (R205). -/
def execSdiv (c : BitVec 1) (d a : BitVec 6) (i : BitVec 1) (b : BitVec 8) (s : State) : Out :=
  scWord false (fun x y _ => BitVec.ofInt 64 (Int.tdiv x.toInt y.toInt)) c d a i b (addFails (divFails i b s) s)
/-- `srem` (R205). -/
def execSrem (c : BitVec 1) (d a : BitVec 6) (i : BitVec 1) (b : BitVec 8) (s : State) : Out :=
  scWord false (fun x y _ => BitVec.ofInt 64 (Int.tmod x.toInt y.toInt)) c d a i b (addFails (divFails i b s) s)

/-! ## Major 8 -/

/-- The value of `li` or `lik` from the old value (R206). -/
def liValue (keep : Bool) (h : BitVec 2) (i : BitVec 16) (old : Dword) : Dword :=
  let p := 16 * h.toNat
  let x : Dword := i.setWidth 64 <<< p
  if keep then (old &&& ~~~(0xFFFF#64 <<< p)) ||| x else x
/-- `li.s`. -/
def execLiS (c : BitVec 1) (d : BitVec 6) (h : BitVec 2) (i : BitVec 16) (s : State) : Out :=
  scalarWord c (fun _ => writeS d (liValue false h i 0) false) s
/-- `lik.s`. -/
def execLikS (c : BitVec 1) (d : BitVec 6) (h : BitVec 2) (i : BitVec 16) (s : State) : Out :=
  scalarWord c (fun s => writeS d (liValue true h i (s.sreg d)) false) s
/-- `li.v`. -/
def execLiV (c k : BitVec 1) (d : BitVec 6) (h : BitVec 2) (i : BitVec 16) (s : State) : Out :=
  vecWord 1 c k d [] (fun _ => (image 64 (fun _ => (liValue false h i 0).toNat), 0)) s
/-- `lik.v`: each lane keeps the rest of its own old value. -/
def execLikV (c k : BitVec 1) (d : BitVec 6) (h : BitVec 2) (i : BitVec 16) (s : State) : Out :=
  vecWord 1 c k d [d] (fun s => (image 64 (fun l => (liValue true h i (laneVal (s.opnd d 64) l)).toNat), 0)) s

end Sys2Proof.Machine
end

