-- ==== Sys2Proof/Machine/Convert.lean ====
section
/-! DEFINITION. Conversion, packing, quantisation, lookup and division: major 2 without the approximations (R213-R219). -/

namespace Sys2Proof.Machine

/-- Source or destination type of `cvt`: an integer type or a float format. -/
inductive NumTy where
  | int (t : ITy)
  | flt (f : FFmt)
deriving DecidableEq, Repr

/-- Width of a type. -/
def NumTy.w : NumTy → Nat
  | .int t => t.w
  | .flt f => f.bits
/-- DT code (R213): 0-7 integers, 8-11 floats. -/
def dtCode (y : BitVec 4) : NumTy :=
  if y.toNat < 8 then .int (ity (y.setWidth 3)) else .flt (ffmt (BitVec.ofNat 3 (y.toNat - 8)))
/-- Source type: TY in the coding that bit 4 of B chooses. -/
def stCode (u : BitVec 1) (t : BitVec 3) : NumTy := if u = 1 then .flt (ffmt t) else .int (ity t)
/-- One conversion (R214). -/
def cvtElem (env : REnv) (st dt : NumTy) (i x : Nat) : Nat × BitVec 8 :=
  match st, dt with
  | .int a, .int b => satInt b (ival a x)
  | .int a, .flt g => fres g env i 0 (some (intVal (ival a x)))
  | .flt f, .int b => cvtF2I env i b (fread env f x)
  | .flt f, .flt g => let v := fread env f x; fres g env i (nanFlags [v]) (some v)
/-- The conversions that draw under SR (R207). -/
def cvtDraws (st dt : NumTy) : Bool :=
  match st, dt with
  | .int _, .int _ => false
  | .int _, .flt _ => true
  | .flt _, .int _ => true
  | .flt .f64, .flt g => g != .f64
  | .flt .f32, .flt g => g == .bf16 || g == .f16
  | .flt .bf16, .flt g => g == .f16
  | .flt .f16, .flt g => g == .bf16
  | .flt _, .flt _ => false
/-- `cvt` in slots of the wider type (R214). -/
def execCvt (c k : BitVec 1) (t : BitVec 3) (d a : BitVec 6) (u : BitVec 1) (y : BitVec 4) (s : State) : Out :=
  let st := stCode u t
  let dt := dtCode y
  let w := Nat.max st.w dt.w
  drawWord 2 (cvtDraws st dt) c k d [a]
    (fun s => emap w s.cur.act (fun e => cvtElem s.renv st dt e (elem (s.opnd a w) w e % 2 ^ st.w))) s

/-- `pack` (R215): lane by lane, A's wide elements below B's. -/
def packImage (t : BitVec 3) (act : LaneMask) (a b : VReg) : VReg × BitVec 8 :=
  let ty := ity t
  let wide : ITy := { w := 2 * ty.w, signed := ty.signed }
  let h := 64 / wide.w
  emap ty.w act (fun e =>
    let l := e / (2 * h); let i := e % (2 * h)
    let src := if i < h then a else b
    satInt ty (ival wide (elem src wide.w (l * h + i % h))))
/-- `pack`. The operands are read as wide elements, the element index among them (log 166). -/
def execPack (c k : BitVec 1) (t : BitVec 3) (d a b : BitVec 6) (s : State) : Out :=
  vecWord 2 c k d [a, b] (fun s => packImage t s.cur.act (s.opnd a (2 * (ity t).w)) (s.opnd b (2 * (ity t).w))) s
/-- `unpack` (R215): the low or the high half of each lane's narrow elements, extended. -/
def unpackImage (hi : Bool) (t : BitVec 3) (a : VReg) : VReg :=
  let ty := ity t
  let h := 64 / (2 * ty.w)
  image (2 * ty.w) (fun e =>
    let l := e / h; let i := e % h
    patt (2 * ty.w) (ival ty (elem a ty.w (l * (2 * h) + (if hi then h else 0) + i))))
/-- `unpack.lo`. -/
def execUnpackLo (c k : BitVec 1) (t : BitVec 3) (d a : BitVec 6) (s : State) : Out :=
  vecWord 2 c k d [a] (fun s => (unpackImage false t (s.opnd a (ity t).w), 0)) s
/-- `unpack.hi`. -/
def execUnpackHi (c k : BitVec 1) (t : BitVec 3) (d a : BitVec 6) (s : State) : Out :=
  vecWord 2 c k d [a] (fun s => (unpackImage true t (s.opnd a (ity t).w), 0)) s

/-- Storage code SF 0-4 (R213). -/
def sfFmt (t : Nat) : FFmt :=
  match t with
  | 0 => .e4m3 | 1 => .e5m2 | 2 => .e3m2 | 3 => .e2m3 | _ => .e2m1
/-- The e8 code of a value (R216): the binary exponent, clamped. -/
def quantE8 (v : FVal) : Nat × BitVec 8 :=
  match v with
  | .nan _ => (0xFF, nanFlags [v])
  | .inf _ => (0xFF, flagNV)
  | .num _ m e =>
    if m = 0 then (0, 0)
    else
      let x := binExp m e + 127
      if x < 0 then (0, flagCL ||| flagNX) else if 254 < x then (254, flagCL ||| flagNX) else (x.toNat, 0)
/-- One slot of `quant`; FZI and FZO do not act (R216). -/
def quantElem (env : REnv) (t i x sc : Nat) : Nat × BitVec 8 :=
  let v := valueOf .f32 x
  if t = 5 then quantE8 v
  else
    let env := { env with fzi := false, fzo := false }
    if sc = 0xFF then fres (sfFmt t) env i (nanFlags [v] ||| flagNI) (some (.nan false))
    else fres (sfFmt t) env i (nanFlags [v]) (some (match v with | .num s m e => .num s m (e + 127 - sc) | v => v))
/-- One slot of `dequant`; FZO applies (R216). -/
def dequantElem (env : REnv) (t i x sc : Nat) : Nat × BitVec 8 :=
  if t = 5 then
    let c := x % 256
    if c = 0xFF then (FFmt.nan .f32, flagNI)
    else fres .f32 env i 0 (some (.num false 1 ((c : Int) - 127)))
  else
    let v := valueOf (sfFmt t) (x % 2 ^ (sfFmt t).bits)
    if sc = 0xFF then (FFmt.nan .f32, flagNI)
    else fres .f32 env i (nanFlags [v]) (some (match v with | .num s m e => .num s m (e + sc - 127) | v => v))
/-- `quant`. -/
def execQuant (c k : BitVec 1) (t : BitVec 3) (d a b : BitVec 6) (s : State) : Out :=
  drawWord 2 (t != 5) c k d ([a] ++ if t = 5 then [] else [b])
    (fun s => emap 32 s.cur.act (fun e =>
      quantElem s.renv t.toNat e (elem (s.opnd a 32) 32 e) (elem (s.opnd b 32) 32 e % 256))) s
/-- `dequant`. -/
def execDequant (c k : BitVec 1) (t : BitVec 3) (d a b : BitVec 6) (s : State) : Out :=
  drawWord 2 (t != 5) c k d ([a] ++ if t = 5 then [] else [b])
    (fun s => emap 32 s.cur.act (fun e =>
      dequantElem s.renv t.toNat e (elem (s.opnd a 32) 32 e) (elem (s.opnd b 32) 32 e % 256))) s
/-- `cbk` (R217): 16-bit elements select among elements 0-15 of B. -/
def execCbk (c k : BitVec 1) (d a b : BitVec 6) (s : State) : Out :=
  vecWord 2 c k d [a, b] (fun s => (image 16 (fun e => elem (s.opnd b 16) 16 (elem (s.opnd a 16) 16 e % 16)), 0)) s

/-- `fdiv` on one element (R218, R154). -/
def fopDiv : FloatOp := fun env f i a b _ =>
  let x := fread env f a; let y := fread env f b
  let fl := nanFlags [x, y]
  match x, y with
  | .nan s, _ => fres f env i fl (some (.nan s))
  | _, .nan s => fres f env i fl (some (.nan s))
  | .inf _, .inf _ => fres f env i fl none
  | .inf s, .num t _ _ => fres f env i fl (some (.inf (s != t)))
  | .num s _ _, .inf t => fres f env i fl (some (.num (s != t) 0 0))
  | .num s m e, .num t n g =>
    if n = 0 then (if m = 0 then fres f env i fl none else (f.infPat (s != t), fl ||| flagDZ))
    else if m = 0 then fres f env i fl (some (.num (s != t) 0 0))
    else fres f env i fl (some (divNum (s != t) m n (e - g)))
/-- `sqrt` on one element. -/
def fopSqrt : FloatOp := fun env f i a _ _ =>
  let x := fread env f a
  let fl := nanFlags [x]
  match x with
  | .nan s => fres f env i fl (some (.nan s))
  | .inf s => fres f env i fl (if s then none else some (.inf false))
  | .num s m e =>
    if m = 0 then fres f env i fl (some (.num s 0 0))
    else if s then fres f env i fl none
    else fres f env i fl (some (sqrtNum m e))
/-- `fdiv`. -/
def execFdiv (c k : BitVec 1) (t : BitVec 3) (d a b : BitVec 6) (s : State) : Out :=
  let w := (ffmt t).bits
  drawWord 2 true c k d [a, b] (fun s => floatImage t fopDiv s.renv s.cur.act (s.opnd a w) (s.opnd b w) 0) s
/-- `sqrt`. -/
def execSqrt (c k : BitVec 1) (t : BitVec 3) (d a : BitVec 6) (s : State) : Out := floatUnary 2 true fopSqrt c k t d a s

/-- Lanes with an active zero divisor fail with 0x0D8 (R219). -/
def idivFails (t : BitVec 3) (b : BitVec 6) (s : State) : List Fail :=
  let w := (ity t).w
  let x := s.opnd b w
  ((lanesOf s.cur.act).filter (fun l =>
    (List.range (64 / w)).any (fun i => elem x w (l * (64 / w) + i) == 0))).map (failOf 0x0D8)
/-- `idiv` on one element. -/
def opIdiv : IntOp := fun ty a b _ => wrapInt ty (Int.tdiv (ival ty a) (ival ty b))
/-- `irem` on one element. -/
def opIrem : IntOp := fun ty a b _ => wrapInt ty (Int.tmod (ival ty a) (ival ty b))
/-- A vector divide. -/
def divWord (op : IntOp) (c k : BitVec 1) (t : BitVec 3) (d a b : BitVec 6) (s : State) : Out :=
  let w := (ity t).w
  let s := addFails (latchFails s [a, b]) s
  vecWord 2 c k d [a, b] (fun s => intImage t op s.cur.act (s.opnd a w) (s.opnd b w) 0) (addFails (idivFails t b s) s)
/-- `idiv`. -/
def execIdiv (c k : BitVec 1) (t : BitVec 3) (d a b : BitVec 6) (s : State) : Out := divWord opIdiv c k t d a b s
/-- `irem`. -/
def execIrem (c k : BitVec 1) (t : BitVec 3) (d a b : BitVec 6) (s : State) : Out := divWord opIrem c k t d a b s

end Sys2Proof.Machine
end

