-- ==== Sys2Proof/Machine/Matrix.lean ====
section
/-! DEFINITION. Matrix sums: exact block sums with one rounding each, and their special values (R165-R169). -/

namespace Sys2Proof.Machine

/-- Exact product of two finite values. -/
def finMul : FVal → FVal → FVal
  | .num s m e, .num t n g => .num (s != t) (m * n) (e + g)
  | x, _ => x
/-- Exact sum of finite values, +0 when it is zero (R165). -/
def finSum : List FVal → FVal
  | [] => .num false 0 0
  | x :: r => (addVal false x (finSum r)).getD (.num false 0 0)
/-- A zero loses its sign. -/
def plusZero : FVal → FVal
  | .num s m e => if m = 0 then .num false 0 0 else .num s m e
  | v => v
/-- A product is 0 × ∞. -/
def zeroInf (p : FVal × FVal) : Bool :=
  match p with
  | (.inf _, .num _ m _) => m == 0
  | (.num _ m _, .inf _) => m == 0
  | _ => false
/-- The sign of an infinite product. -/
def infSign (p : FVal × FVal) : Option Bool :=
  match p with
  | (.inf s, .inf t) => some (s != t)
  | (.inf s, .num t _ _) => some (s != t)
  | (.num s _ _, .inf t) => some (s != t)
  | _ => none
/-- V of a block: its products, whether a scale is 0xFF, and the sum of the scale exponents (R165, R167). -/
def blockValue (ps : List (FVal × FVal)) (scaleNaN : Bool) (ex : Int) : FVal × BitVec 8 :=
  if scaleNaN || ps.any (fun p => anyNaN [p.1, p.2]) then (.nan false, flagNI)
  else if ps.any zeroInf then (.nan false, flagNV)
  else
    let infs := ps.filterMap infSign
    if infs.contains true && infs.contains false then (.nan false, flagNV)
    else match infs with
      | s :: _ => (.inf s, 0)
      | [] =>
        match plusZero (finSum (ps.map (fun p => finMul p.1 p.2))) with
        | .num s m e => (.num s m (e + ex), 0)
        | v => (v, 0)
/-- round_float into f32 under RNE. -/
def rne32 (v : FVal) : Nat × BitVec 8 := roundVal .f32 REnv.rne 0 v
/-- A value added to an accumulator pattern with one rounding (R154, R167). A NaN that the table of R167 gives raises the flags of that
table, and the addition raises no NI for it (log 164). -/
def accAdd (acc : Nat) (v : FVal) : Nat × BitVec 8 :=
  let x := valueOf .f32 acc
  match addVal false x v with
  | none => (FFmt.nan .f32, flagNV)
  | some y =>
    let r := rne32 y
    (r.1, r.2 ||| (if anyNaN [x] then nanFlags [x] else 0))
/-- A block added to an accumulator pattern. -/
def accBlock (acc : Nat) (ps : List (FVal × FVal)) (scaleNaN : Bool) (ex : Int) : Nat × BitVec 8 :=
  let b := blockValue ps scaleNaN ex
  let r := accAdd acc b.1
  (r.1, r.2 ||| b.2)
/-- Product of an accumulator pattern and a tensor scale, rounded once into a format (R168). -/
def scaleTo (f : FFmt) (acc t : Nat) : Nat × BitVec 8 :=
  let x := valueOf .f32 acc
  let y := valueOf .f32 t
  match mulVal x y with
  | none => (f.nan, flagNV)
  | some v =>
    let r := roundVal f REnv.rne 0 v
    (r.1, r.2 ||| nanFlags [x, y])
/-- e8 scales: the block is NaN under 0xFF, else the exponent sum (R165). -/
def scalePair (sa sb : Nat) : Bool × Int := (sa == 0xFF || sb == 0xFF, (sa : Int) - 127 + ((sb : Int) - 127))
/-- Entry `c` of a codebook (R152). -/
def bookEntry (book : BitVec 256) (c : Nat) : FVal := valueOf .bf16 ((book.toNat >>> (16 * c)) % 65536)

end Sys2Proof.Machine
end

