-- ==== Sys2Proof/Machine/Engines.lean ====
section
/-! DEFINITION. Copy engines and near-bank units: acceptance of requests, delivery and the update of their arrival objects
(R271-R274, R278-R291, R315, R164, R169, R170). -/

namespace Sys2Proof.Machine

/-! ## Acceptance -/

/-- Every global row start is a multiple of `m` (R282). -/
def rowStartsOk (raw : BitVec 512) (m : Nat) : Bool :=
  decide (rawField raw 8 8 % m = 0) &&
    [1, 2, 3].all (fun i => decide (rqN raw i ≤ 1) || decide (rawInt raw (0x2C + 4 * i) % m = 0))
/-- A dense team-memory side: aligned and inside the declared size. -/
def denseOk (tm base pitch rows len : Nat) : Bool := decide (base % 16 = 0 ∧ base + (rows - 1) * pitch + len ≤ tm)
/-- The pairs of FMT and CTY that each kind takes (R279, R280). -/
def pairOk (kind fmt cty : Nat) : Bool :=
  if kind = 0 then
    (decide (fmt ≤ 4) && (cty == 0 || cty == 2)) || (fmt == 5 && (cty == 1 || cty == 2)) || (fmt == 6 && cty == 2) ||
      (fmt == 7 && cty == 3)
  else if kind = 5 then (fmt == 0 || fmt == 5 || fmt == 6) && cty == 3
  else fmt == 7 && cty == 3
/-- A VA field is canonical. -/
def canonField (raw : BitVec 512) (o : Nat) : Bool := canonical (BitVec.ofNat 64 (rawField raw o 8))
/-- A copy request is malformed (R278-R282, R315): `tm` declared team memory, `tile` the team has a tile stream, `mezz`
mezzanine service is on (R404). -/
def copyMalformed (tm : Nat) (tile mezz : Bool) (raw : BitVec 512) : Bool :=
  let k := rqKind raw
  let f := rqFmt raw
  let y := rqCty raw
  let c := ctl raw
  let ext := rqExt raw
  let rows := rqRows raw
  let scs := rawField raw 0x18 8
  let src := rawField raw 8 8
  let dst := rawField raw 0x10 8
  let fromTm := rqTsrc raw
  decide (7 ≤ k) || decide (8 ≤ f) || decide (5 ≤ rqSc raw) || c.testBit 15 || decide (c / 2 ^ 21 % 8 ≠ 0) ||
  decide (c / 2 ^ 53 ≠ 0) || !pairOk k f y ||
  (fromTm && !(k == 3 || k == 4)) || (rqCb raw != 0 && !(k == 0 || k == 4)) || (rqSq raw != 0 && k != 3) ||
  (rqPdev raw != 0 && k != 6) || (dst != 0 && (k == 3 || k == 4)) ||
  (if f ≤ 5 then decide (scs = 0 ∨ ext % 32 ≠ 0 ∨ scs % 16 ≠ 0) else decide (scs ≠ 0)) ||
  (if k = 0 ∧ y < 2 then decide (rqScd raw % 16 ≠ 0) else decide (rqScd raw ≠ 0)) ||
  decide (ext = 0 ∨ rows = 0) ||
  (if k = 5 then decide (rqPitch raw ≠ 0) else decide (rqPitch raw < rqDense raw ∨ rqPitch raw % 16 ≠ 0)) ||
  !canonField raw 8 || !canonField raw 0x10 || !canonField raw 0x18 || !canonField raw 0x20 ||
  decide (rawField raw 0x20 8 % 16 ≠ 0) ||
  (k == 4 && decide (ext ≠ 32 ∨ rows ≠ 1 ∨ src % 32 ≠ 0)) ||
  (k == 3 && decide (ext * rows % 512 ≠ 0)) ||
  ((k == 0 || k == 5) && !rowStartsOk raw (if f = 6 then 2 else if f = 2 ∨ f = 3 then 3 else 1)) ||
  (k == 0 && !denseOk tm dst (rqPitch raw) rows (rqDense raw)) ||
  (k == 0 && decide (y < 2) && !denseOk tm (rqScd raw) 0 1 (rows * (ext / 32))) ||
  (k == 1 && !denseOk tm src (rqPitch raw) rows (rqDense raw)) ||
  (fromTm && !(List.range rows).all (fun r => denseOk tm (addOff src (rqStep raw r)) 0 1 ext)) ||
  ((k == 3 || k == 4 || (k == 0 && f == 5 && y == 2)) && !tile) ||
  (mezz && (decide (f ≤ 5) || decide (y < 2) || k == 5))
/-- A near-bank request is malformed (R285). -/
def nearMalformed (tm : Nat) (raw : BitVec 512) : Bool :=
  let f := nbFmt raw
  let k := nbK raw
  f == 3 || decide (5 ≤ nbSc raw) || decide (ctl raw / 2 ^ 7 ≠ 0) || decide (rawField raw 0x38 8 ≠ 0) ||
  decide (rawField raw 8 8 % 64 ≠ 0) || !canonField raw 8 || decide (k = 0 ∨ 16384 < k) ||
  decide (k % (if f = 2 then 16 else 32) ≠ 0) || decide (nbRows raw = 0 ∨ 65536 < nbRows raw) ||
  decide (rawField raw 0x18 4 % 16 ≠ 0 ∨ tm < rawField raw 0x18 4 + nbABytes raw) ||
  (if f = 2 then decide (rawField raw 0x1C 4 ≠ 0) else decide (tm < rawField raw 0x1C 4 + k / 32)) ||
  decide (rawField raw 0x20 8 % 64 ≠ 0) ||
  (if nbGlobal raw then !canonField raw 0x20 else decide (tm < rawField raw 0x20 8 + nbRows raw * nbOut raw)) ||
  !canonField raw 0x28 || decide (rawField raw 0x28 8 % 16 ≠ 0) ||
  (if f = 0 then decide (rawField raw 0x30 8 % 32 ≠ 0) || !canonField raw 0x30 else decide (rawField raw 0x30 8 ≠ 0))

/-- Unfinished requests of one kind that a core holds (R273). -/
def State.reqCount (s : State) (core : Nat) (near : Bool) : Nat :=
  (s.reqs.filter (fun q => q.2.core == core && q.2.nearBank == near)).length
/-- The engine of a core has a free place (R273). -/
def State.engineFree (s : State) (core : Nat) (near : Bool) : Bool :=
  decide (s.reqCount core near < if near then 16 else 64)
/-- The record that faults of a request start from (R290, R378): the issuing group and word. -/
def State.requestRec (s : State) : FaultRec :=
  { groupRec s s.cur.gk { lane := 0, cause := none, va := 0, kind := 0, s2 := false, sz := 0 } 0 0 s.cur.pc false
    with pc := some s.cur.wpc }
/-- An engine-issue word (R273): its cause, or the accepted request. DESIGN CHOICE (log 169): an `xnbmv` with several of its failures
takes 0x100 before 0x101, and 0x101 before 0x102. -/
def engineIssue (near : Bool) (c : BitVec 1) (a : BitVec 6) (s : State) : Out :=
  let o := (s.sreg a).toNat
  let core := coreOf s.cur.gk
  let tm := s.tmSize
  let raw := BitVec.ofNat 512 (s.tmRead s.cg.tk o 64)
  let tile := s.cgrid.tsoff != 0
  let cause : Option Nat :=
    if o % 64 ≠ 0 ∨ tm < o + 64 then some 0x100
    else if near then
      (if nearMalformed tm raw then some 0x101 else if s.mezz.isSome then some 0x102 else none)
    else if copyMalformed tm tile s.mezz.isSome raw then some 0x101 else none
  match cause with
  | some x => .next (finish c (addFails (uniformFail s x) s))
  | none =>
    if s.cur.act = 0 then .next (finish c s)
    else if !s.engineFree core near then .next (finish c (s.block .home))
    else
      let q : Req := { Req.reset with
        nearBank := near, core := core, tk := s.cg.tk, gk := s.cur.gk, cid := s.ct.cid, base := s.requestRec, raw := raw,
        book := nget 0 (s.tile core).cb (rqCb raw), closed := false }
      .next (finish c { s with reqs := nput s.reqs s.nextReq q, nextReq := s.nextReq + 1 })
/-- XCPY (R273). -/
def execXcpy (c : BitVec 1) (a : BitVec 6) (s : State) : Out := engineIssue false c a s
/-- XNBMV (R273). -/
def execXnbmv (c : BitVec 1) (a : BitVec 6) (s : State) : Out := engineIssue true c a s
/-- Unfinished requests accepted from a group (R274). -/
def State.groupReqs (s : State) (gk : Nat) : Nat := (s.reqs.filter (fun q => q.2.gk == gk)).length
/-- A word that waits until a condition holds. -/
def waitUntil (k : WaitKind) (c : BitVec 1) (ok : Bool) (s : State) : Out :=
  .next (finish c (if s.cur.act = 0 || ok then s else s.block k))
/-- XWAIT (R274). -/
def execXwait (c : BitVec 1) (n : BitVec 9) (s : State) : Out :=
  waitUntil .xwait c (decide (s.groupReqs s.cur.gk ≤ n.toNat)) s
/-- Unretired child grids of a team (R275, R276). -/
def State.childCount (s : State) (grid : BitVec 32) (team : Nat) : Nat :=
  (s.grids.filter (fun g => g.2.present && g.2.parent == some (grid, team))).length
/-- LWAIT (R276). -/
def execLwait (c : BitVec 1) (n : BitVec 9) (s : State) : Out :=
  waitUntil .lwait c (decide (s.childCount s.ct.grid s.ct.id ≤ n.toNat)) s
/-- LAUNCH (R275): the checks of the word itself; then the dispatcher's answer is awaited. -/
def execLaunch (c : BitVec 1) (_a : BitVec 6) (s : State) : Out :=
  if s.leader s.cg.tk ≠ some s.cur.gk then .next (finish c (addFails (uniformFail s 0x106) s))
  else if 10 ≤ s.cgrid.depth then .next (finish c (addFails (uniformFail s 0x104) s))
  else match s.cur.answer with
    | some 0 => .next (finish c s)
    | some x => .next (finish c (addFails (uniformFail s x) s))
    | none => waitUntil .launch c false s

/-! ## One line of an engine access -/

/-- What an engine's step meets; the state holds what homes and arbiters have served of it. -/
inductive EngRes (α : Type) where
  /-- The access is made. -/
  | ok (x : α) (s : State)
  /-- It fails with a cause, VA, KIND and stage. -/
  | fault (cause : Nat) (va : Dword) (kind : Nat) (s2 : Bool) (s : State)
  /-- A home or an arbiter cannot serve it now. -/
  | wait (s : State)
/-- One access after another. -/
def EngRes.andThen {α β : Type} (r : EngRes α) (f : α → State → EngRes β) : EngRes β :=
  match r with
  | .ok x s => f x s
  | .fault c v k s2 s => .fault c v k s2 s
  | .wait s => .wait s
/-- Die of the agent of a request (R102): a near-bank unit is one of the die that owns the stack of B. -/
def State.reqDie (s : State) (q : Req) : Nat :=
  if q.nearBank then
    match s.access q.base.fn q.base.pasid (BitVec.ofNat 64 (rawField q.raw 8 8)) 4 false false with
    | .ok x => if isHost x.pa then dieOf q.core else stackOf x.pa / 2
    | .error _ => dieOf q.core
  else dieOf q.core
/-- The agent of request number `n`. -/
def State.reqAgent (s : State) (n : Nat) (q : Req) : Agent :=
  { core := q.core, die := s.reqDie q, fn := q.base.fn, pasid := q.base.pasid, cid := q.cid, tenant := (s.grid q.base.grid).tenant,
    queue := (s.grid q.base.grid).queue, who := .req n, nt := !q.nearBank && (ctl q.raw).testBit 13 }
/-- The homes serve a line of an engine access with the table nodes that its translation reads (R89, R115): `near` is a line of B. -/
def State.serveEng (s : State) (ag : Agent) (near : Bool) (tag : Nat) (va : Dword) (pa : Nat) : Bool × State :=
  if near then
    let (ok, s) := s.serveLines ag false 3 (s.withNodes ag [va] [])
    if ok then s.serveLines ag true tag [pa] else (false, s)
  else s.serveLines ag false tag (s.withNodes ag [va] [pa])
/-- A write that its turn has come to waits for V or for the host (R128, R319). -/
def State.waitWrite (s : State) (ag : Agent) (pa n : Nat) : State := (s.setAside ag.who (s.vBlocked pa n false)).sendSnoop pa
/-- An engine access of `n` bytes within one line (R289, R369, R132): a whole-line write is spared the poison. -/
def State.engLine (s : State) (ag : Agent) (va : Dword) (n : Nat) (write near : Bool) : EngRes Xlat :=
  let kind := if write then 5 else 4
  match s.access ag.fn ag.pasid va kind false false with
  | .error e => .fault (class1 kind e.reason) va kind e.s2 s
  | .ok x =>
    let q : Ask := { kind := kind, n := n, cached := false, write := write, tagged := false, noHost := false }
    if !(write && n == 64) && s.poisoned x.pa then .fault (class1 kind 7) va kind false s
    else if (s.escape ag x q).isSome then .fault 0x082 va kind false s
    else
      match s.serveEng ag near (if write then 1 else 0) va x.pa with
      | (false, s1) => .wait s1
      | (true, s1) => if write && s1.writeBlocked x.pa n false then .wait (s1.waitWrite ag x.pa n) else .ok x s1
/-- Bytes read by an engine, line by line. -/
def engRead (ag : Agent) (near : Bool) : Nat → Dword → Nat → State → EngRes Nat
  | 0, _, _, s => .ok 0 s
  | fuel + 1, va, n, s =>
    if n = 0 then .ok 0 s
    else
      let k := min n (64 - va.toNat % 64)
      (s.engLine ag va k false near).andThen (fun x s =>
        (engRead ag near fuel (va + BitVec.ofNat 64 k) (n - k) (s.fillTlb ag.fn ag.pasid va)).andThen (fun w s' =>
          .ok (s.pread x.pa k + w * 256 ^ k) s'))
/-- A whole-line write takes the poison mark away (R375). -/
def State.clearPoison (s : State) (pa n : Nat) : State :=
  if n = 64 ∧ !isHost pa then
    let f := s.frame (pa / 65536)
    s.setFrame (pa / 65536) { f with poison := f.poison.filter (fun l => l != pa / 64 % 1024) }
  else s
/-- A line written by an engine at its home; the issuing core's L1 copy goes (R119, R127). -/
def engWrite (ag : Agent) (va : Dword) (n v : Nat) (s : State) : EngRes Unit :=
  (s.engLine ag va n true false).andThen (fun x s =>
    let s := s.fillTlb ag.fn ag.pasid va
    .ok () ((((s.useSnoop x.pa).clearPoison x.pa n).pwrite x.pa n v false (some ag.writer)).l1Drop ag.core x.pa))
/-- A team-memory unit written by an engine or a task: up to two granules lose their reservations (R257). -/
def State.tmUnit (s : State) (tk a n v : Nat) : State :=
  if n = 0 then s else (s.tmWrite tk a n v).dropResv true (tmGranule tk (a + n - 1))

/-! ## Copy requests -/

/-- Bytes of a number written to team memory in blocks of 64 (R257). -/
def tmBytes (tk : Nat) : Nat → Nat → Nat → Nat → State → State
  | 0, _, _, _, s => s
  | fuel + 1, a, n, v, s =>
    if n = 0 then s
    else tmBytes tk fuel (a + 64) (n - 64) (v / 256 ^ 64) (s.tmUnit tk a (min n 64) (v % 256 ^ 64))
/-- Bytes of a source row from an offset: global, or team memory (R281, R315). -/
def srcBytes (ag : Agent) (q : Req) (row off n : Nat) (s : State) : EngRes Nat :=
  let raw := q.raw
  if rqKind raw = 1 then .ok (s.tmRead q.tk (rawField raw 8 8 + row * rqPitch raw + off) n) s
  else
    let a := addOff (rawField raw 8 8) (rqStep raw row) + off
    if rqTsrc raw then .ok (s.tmRead q.tk a n) s else engRead ag false (n / 64 + 2) (BitVec.ofNat 64 a) n s
/-- `n` bytes of the row-major source stream from a position (R283). -/
def streamBytes (ag : Agent) (q : Req) : Nat → Nat → Nat → State → EngRes Nat
  | 0, _, _, s => .ok 0 s
  | fuel + 1, pos, n, s =>
    if n = 0 then .ok 0 s
    else
      let row := pos / rqExt q.raw
      let off := pos % rqExt q.raw
      let k := min n (rqExt q.raw - off)
      (srcBytes ag q row off k s).andThen (fun v s =>
        (streamBytes ag q fuel (pos + k) (n - k) s).andThen (fun w s => .ok (v + w * 256 ^ k) s))
/-- Storage format of FMT 0-4. -/
def copyFmt (f : Nat) : FFmt := sfFmt f
/-- One element converted (R164): source pattern, its scale code, the codebook. -/
def convElem (fmt cty : Nat) (book : BitVec 256) (x sc : Nat) : Nat × BitVec 8 :=
  let v : FVal := if fmt = 5 then bookEntry book x else valueOf (copyFmt fmt) x
  match cty with
  | 0 =>
    if fmt = 0 then (x, 0)
    else
      let r := roundVal .e4m3 REnv.rne 0 v
      (r.1, r.2 ||| nanFlags [v])
  | 2 =>
    if fmt = 6 then (x, 0)
    else if sc = 0xFF then (FFmt.nan .bf16, flagNI ||| nanFlags [v])
    else
      let r := roundVal .bf16 REnv.rne 0 (match v with | .num s m e => .num s m (e + sc - 127) | v => v)
      (r.1, r.2 ||| nanFlags [v])
  | _ => (x, 0)
/-- The elements `j0` to `j0 + k - 1` of a row converted and packed; the union of their flags. -/
def convRow (fmt cty : Nat) (book : BitVec 256) (src scales j0 : Nat) : Nat → Nat × BitVec 8
  | 0 => (0, 0)
  | k + 1 =>
    let r := convRow fmt cty book src scales j0 k
    let sb := fmtBits fmt
    let db := ctyBits cty
    let x := (src >>> (sb * k)) % 2 ^ sb
    let sc := (scales >>> (8 * ((j0 + k) / 32))) % 256
    let e := convElem fmt cty book x sc
    (r.1 + e.1 <<< (db * k), r.2 ||| e.2)
/-- Bytes of one destination unit with its flags: row content from `off` for `n` bytes (R283, R284). DESIGN CHOICE (log 171): its data
is read before its scales, and fails first. -/
def unitBytes (ag : Agent) (q : Req) (row off n : Nat) (s : State) : EngRes (Nat × BitVec 8) :=
  let raw := q.raw
  let fmt := rqFmt raw
  let ext := rqExt raw
  let scaleAt := BitVec.ofNat 64 (rawField raw 0x18 8 + row * (ext / 32))
  match rqKind raw with
  | 0 =>
    if fmt = 7 then (srcBytes ag q row off n s).andThen (fun v s => .ok (v, 0) s)
    else
      let j0 := off * 8 / ctyBits (rqCty raw)
      let k := n * 8 / ctyBits (rqCty raw)
      (srcBytes ag q row (j0 * fmtBits fmt / 8) (k * fmtBits fmt / 8) s).andThen (fun v s =>
        (if fmt = 6 then .ok 0 s else engRead ag false (ext / 32 / 64 + 2) scaleAt (ext / 32) s).andThen (fun sc s =>
          .ok (convRow fmt (rqCty raw) q.book v sc j0 k) s))
  | 5 =>
    let d := rqSrcRow raw
    let sl := if fmt = 6 then 0 else ext / 32
    let n1 := min n (d - off)
    let o2 := Nat.max off d - d
    let n2 := min (n - n1) (sl - o2)
    (srcBytes ag q row off n1 s).andThen (fun v s =>
      (engRead ag false (n2 / 64 + 2) (scaleAt + BitVec.ofNat 64 o2) n2 s).andThen (fun w s => .ok (v + w * 256 ^ n1, 0) s))
  | _ => (srcBytes ag q row off n s).andThen (fun v s => .ok (v, 0) s)
/-- Length of a destination row, padding included. -/
def dstRow (raw : BitVec 512) : Nat :=
  if rqKind raw = 5 then nbStride (fmtBits (rqFmt raw)) (rqExt raw) (rqFmt raw != 6) else rqDense raw
/-- Address of a destination row: VA, or team-memory offset for kind 0. -/
def dstAddr (raw : BitVec 512) (row : Nat) : Nat :=
  let d := rawField raw 0x10 8
  match rqKind raw with
  | 1 => addOff d (rqStep raw row)
  | 5 => d + row * dstRow raw
  | _ => d + row * rqPitch raw
/-- Bytes of the unit at an offset of a row: to the end of its 64 B line in global memory. DESIGN CHOICE (log 170): in team memory its
blocks of 64 bytes are counted from the row start. -/
def unitLen (raw : BitVec 512) (row off : Nat) : Nat :=
  let left := dstRow raw - off
  if rqKind raw = 0 then min left 64 else min left (64 - (dstAddr raw row + off) % 64)
/-- Data bytes among `n` bytes of a unit: scales and padding do not count (R288). -/
def dataBytes (raw : BitVec 512) (off n : Nat) : Nat := if rqKind raw = 5 then min n (rqSrcRow raw - off) else n
/-- The unit after a delivered one: the request is over after the last row. -/
def Req.advance (q : Req) (n d : Nat) (fl : BitVec 8) : Req :=
  let off := q.off + n
  let q := { q with bytes := q.bytes + d, flags := q.flags ||| fl, svc := Svc.reset }
  if off < dstRow q.raw then { q with off := off }
  else { q with off := 0, row := q.row + 1, closed := decide (rqRows q.raw ≤ q.row + 1) }
/-- A request replaced. -/
def State.setReq (s : State) (n : Nat) (q : Req) : State := { s with reqs := nput s.reqs n q }
/-- A fault stops a request (R120, R290). -/
def State.stopReq (s : State) (n : Nat) (q : Req) (cause : Nat) (va : Dword) (kind : Nat) (s2 : Bool) : State :=
  let r := { q.base with cause := cause, va := va, kind := kind, s2 := s2, sz := 6, tstamp := BitVec.ofNat 22 (s.time / 1024) }
  s.setReq n { q with closed := true, fault := some r, svc := Svc.reset }
/-- What a request's step comes to: its fault stops it; a step that waits keeps what has been served. -/
def State.reqStep {α : Type} (n : Nat) (q : Req) (r : EngRes α) (f : α → State → Out) : Out :=
  match r with
  | .ok x s => f x s
  | .fault c v k s2 s => .next (s.stopReq n q c v k s2)
  | .wait s => .next s
/-- The scales of a row written before its first unit (R283). -/
def writeScales (ag : Agent) (q : Req) (s : State) : EngRes Unit :=
  let raw := q.raw
  let k := rqExt raw / 32
  if rqKind raw = 0 ∧ rqCty raw < 2 ∧ q.off = 0 then
    (engRead ag false (k / 64 + 2) (BitVec.ofNat 64 (rawField raw 0x18 8 + q.row * k)) k s).andThen (fun v s =>
      .ok () (tmBytes q.tk (k / 64 + 1) (rqScd raw + q.row * k) k v s))
  else .ok () s
/-- The port of a kind 6 request: the one chosen when it started, unless it has failed; a request that starts takes the
lowest-numbered trained port that reaches the peer (R340). Ports stay in reset under mezzanine service (R43). -/
def State.peerPort (s : State) (n pdev : Nat) : Option Nat :=
  if s.mezz.isSome then none
  else match s.portOf.find? (fun x => x.1 == n) with
  | some x => if s.ports.getLsbD x.2 then some x.2 else none
  | none =>
    let e := nget 0 s.peerTab pdev
    if e.getLsbD 0 then (List.range 18).find? (fun p => e.getLsbD (1 + p) && s.ports.getLsbD p) else none
/-- COPY_UNIT_DELIVER (R120, R283): the next unit of a copy request of kind 0, 1, 2, 5 or 6. A kind 6 request without its port
stops before it reads (R43, R340). -/
def execCopyUnitDeliver (n : Nat) (s : State) : Out :=
  let q := nget Req.reset s.reqs n
  if q.closed || q.nearBank || rqKind q.raw == 3 || rqKind q.raw == 4 || q.sent then .next s
  else
    let ag := s.reqAgent n q
    let raw := q.raw
    let u := unitLen raw q.row q.off
    let at0 := dstAddr raw q.row + q.off
    let port := if rqKind raw = 6 ∧ !q.down then s.peerPort n (rqPdev raw) else none
    if rqKind raw = 6 ∧ port.isNone then .next (s.stopReq n q 0x112 (BitVec.ofNat 64 at0) 0 false)
    else State.reqStep n q (unitBytes ag q q.row q.off u s) (fun (v, fl) s1 =>
      let q' := q.advance u (dataBytes raw q.off u) fl
      match rqKind raw with
      | 0 => State.reqStep n q (writeScales ag q s1) (fun _ s2 => .next ((s2.tmUnit q.tk at0 u v).setReq n q'))
      | 6 =>
        .next { s1.setReq n { q with sent := true, svc := Svc.reset } with
          portOf := nput s1.portOf n (port.getD 0), peerOut := s1.peerOut ++ [(n, at0, v)] }
      | _ => State.reqStep n q (engWrite ag (BitVec.ofNat 64 at0) u v s1) (fun _ s2 => .next (s2.setReq n q')))
/-- PEER_LINE_ACK (R283, R290): the peer device takes or refuses the line sent to it. -/
def execPeerLineAck (n : Nat) (ok : Bool) (s : State) : Out :=
  let q := nget Req.reset s.reqs n
  if !q.sent || q.closed then .next s
  else
    let u := unitLen q.raw q.row q.off
    let q1 := { q with sent := false }
    let s := { s with peerOut := s.peerOut.filter (fun x => x.1 != n) }
    if ok then .next (s.setReq n (q1.advance u u 0))
    else .next (s.stopReq n q1 0x113 (BitVec.ofNat 64 (dstAddr q.raw q.row + q.off)) 0 false)
/-- METADATA_ENTRY_PUSH (R283): the next 512 bytes of a kind 3 request onto its queue, once it has room. -/
def execMetadataEntryPush (n : Nat) (s : State) : Out :=
  let q := nget Req.reset s.reqs n
  if q.closed || q.nearBank || rqKind q.raw != 3 then .next s
  else
    let t := s.tile q.core
    let l := nget [] t.sq (rqSq q.raw)
    if 8 ≤ l.length then .next s
    else State.reqStep n q (streamBytes (s.reqAgent n q) q 514 (512 * q.row) 512 s) (fun v s1 =>
        let s2 := s1.setTile q.core { t with sq := nput t.sq (rqSq q.raw) (l ++ [BitVec.ofNat 4096 v]) }
        .next (s2.setReq n { q with row := q.row + 1, bytes := q.bytes + 512, svc := Svc.reset
                                    closed := decide (rqExt q.raw * rqRows q.raw ≤ 512 * (q.row + 1)) }))
/-- A task reads codebook `b`. -/
def taskReadsBook (t : Task) (b : Nat) : Bool :=
  (match t.word with | .tmma _ _ _ _ _ _ => true | .tmmas _ _ _ _ _ _ _ => true | _ => false) &&
    t.slots.any (fun d => slotType d == 1 && slotBook d == b)
/-- CODEBOOK_WRITE (R283): a kind 4 request writes its codebook while no issued task reads it. -/
def execCodebookWrite (n : Nat) (s : State) : Out :=
  let q := nget Req.reset s.reqs n
  if q.closed || q.nearBank || rqKind q.raw != 4 then .next s
  else
    let t := s.tile q.core
    if t.table.any (fun k => k.issued && taskReadsBook k (rqCb q.raw)) then .next s
    else State.reqStep n q (srcBytes (s.reqAgent n q) q 0 0 32 s) (fun v s1 =>
        .next ((s1.setTile q.core { t with cb := nput t.cb (rqCb q.raw) (BitVec.ofNat 256 v) }).setReq n
          { q with bytes := 32, closed := true, svc := Svc.reset }))

/-! ## Near-bank requests -/

/-- The lines of B in order: the first that fails to translate or does not lie in NB pages of the stack (R286). -/
def nbLines (ag : Agent) (stack : Nat) (s : State) : List Dword → Option (Nat × Dword × Nat × Bool)
  | [] => none
  | va :: r =>
    match s.access ag.fn ag.pasid va 4 false false with
      | .error e => some (class1 4 e.reason, va, 4, e.s2)
      | .ok x => if x.nb && !isHost x.pa && stackOf x.pa == stack then nbLines ag stack s r else some (0x110, va, 4, false)
/-- The VAs of the lines of B. -/
def nbVas (raw : BitVec 512) : List Dword :=
  (List.range (nbRows raw * nbBStride raw / 64)).map (fun i => BitVec.ofNat 64 (rawField raw 8 8 + 64 * i))
/-- NEAR_BANK_TRANSLATE (R286, steps 1 to 3). -/
def execNearBankTranslate (n : Nat) (s : State) : Out :=
  let q := nget Req.reset s.reqs n
  if q.closed || !q.nearBank || q.checked then .next s
  else
    let ag := s.reqAgent n q
    let raw := q.raw
    let a := s.tmRead q.tk (rawField raw 0x18 4) (nbABytes raw)
    let sc := if nbFmt raw = 2 then 0 else s.tmRead q.tk (rawField raw 0x1C 4) (nbK raw / 32)
    State.reqStep n q (if nbFmt raw = 0 then engRead ag false 2 (BitVec.ofNat 64 (rawField raw 0x30 8)) 32 s else .ok 0 s) (fun book s1 =>
      let stack := match s.access ag.fn ag.pasid (BitVec.ofNat 64 (rawField raw 8 8)) 4 false false with
        | .ok x => stackOf x.pa
        | .error _ => 0
      match nbLines ag stack s1 (nbVas raw) with
      | some (c, v, kd, s2) => .next (s1.stopReq n q c v kd s2)
      | none => .next (s1.setReq n { q with checked := true, a := a, asc := sc, book := BitVec.ofNat 256 book, svc := Svc.reset }))
/-- Element `k` of a row of B, and of A (R284, R285). -/
def nbElems (raw : BitVec 512) (book : BitVec 256) (row a k : Nat) : FVal × FVal :=
  match nbFmt raw with
  | 0 => (bookEntry book ((row >>> (4 * k)) % 16), valueOf .e4m3 ((a >>> (8 * k)) % 256))
  | 1 => (valueOf .e4m3 ((row >>> (8 * k)) % 256), valueOf .e4m3 ((a >>> (8 * k)) % 256))
  | _ => (valueOf .bf16 ((row >>> (16 * k)) % 65536), valueOf .bf16 ((a >>> (16 * k)) % 65536))
/-- y of one row over its blocks (R169), from block `b`. -/
def nbDot (raw : BitVec 512) (book : BitVec 256) (row a asc : Nat) : Nat → Nat → Nat × BitVec 8 → Nat × BitVec 8
  | 0, _, acc => acc
  | m + 1, b, acc =>
    let w := if nbFmt raw = 2 then 16 else 32
    let ps := (List.range w).map (fun i => nbElems raw book row a (w * b + i))
    let data := nbK raw * nbBits raw / 8
    let (bad, ex) := if nbFmt raw = 2 then (false, 0)
      else scalePair ((asc >>> (8 * b)) % 256) ((row >>> (8 * (data + b))) % 256)
    let r := accBlock acc.1 ps bad ex
    nbDot raw book row a asc m (b + 1) (r.1, acc.2 ||| r.2)
/-- The result pattern of one row in its output type, with flags. -/
def nbRow (q : Req) (row : Nat) : Nat × BitVec 8 :=
  let raw := q.raw
  let r := nbDot raw q.book row q.a q.asc (nbK raw / if nbFmt raw = 2 then 16 else 32) 0 (0, 0)
  if nbOut raw = 2 then
    let v := valueOf .f32 r.1
    let o := roundVal .bf16 REnv.rne 0 v
    (o.1, r.2 ||| o.2 ||| nanFlags [v])
  else r
/-- The rows `r` to `r + k - 1` read and summed: packed results and flags. -/
def nbUnit (ag : Agent) (q : Req) (r : Nat) : Nat → State → EngRes (Nat × BitVec 8)
  | 0, s => .ok (0, 0) s
  | k + 1, s =>
    (nbUnit ag q r k s).andThen (fun (acc, fl) s =>
      let rs := nbBStride q.raw
      (engRead ag true (rs / 64 + 2) (BitVec.ofNat 64 (rawField q.raw 8 8 + (r + k) * rs)) rs s).andThen (fun row s =>
        let y := nbRow q row
        .ok (acc + y.1 <<< (8 * nbOut q.raw * k), fl ||| y.2) s))
/-- NEAR_BANK_ROW_DELIVER (R286, steps 4 and 5): the next unit of result rows. -/
def execNearBankRowDeliver (n : Nat) (s : State) : Out :=
  let q := nget Req.reset s.reqs n
  if q.closed || !q.nearBank || !q.checked then .next s
  else
    let ag := s.reqAgent n q
    let raw := q.raw
    let k := min (64 / nbOut raw) (nbRows raw - q.row)
    let len := k * nbOut raw
    let at0 := rawField raw 0x20 8 + q.row * nbOut raw
    State.reqStep n q (nbUnit ag q q.row k s) (fun (v, fl) s1 =>
      let q' := { q with row := q.row + k, bytes := q.bytes + len, flags := q.flags ||| fl, svc := Svc.reset
                         closed := decide (nbRows raw ≤ q.row + k) }
      if nbGlobal raw then
        State.reqStep n q (engWrite ag (BitVec.ofNat 64 at0) len v s1) (fun _ s2 => .next (s2.setReq n q'))
      else .next ((s1.tmUnit q.tk at0 len v).setReq n q'))

/-! ## Completion -/

/-- The update of an arrival object (R288): amount, flags, and whether it reports a fault. It writes the line once. -/
def State.objectUpdate (s : State) (pa d : Nat) (fl : BitVec 8) (fault : Bool) (who : Option Writer) : State :=
  let w2 := s.pread (pa + 8) 4
  let w2f := w2 ||| fl.toNat * 2 ^ 16
  let s := if w2f = w2 then s else s.pwrite (pa + 8) 4 w2f false none
  if fault then
    (s.pwrite (pa + 4) 4 ((s.pread (pa + 4) 4 + d) % 2 ^ 32) false none).pwrite (pa + 8) 4
      (w2f % 2 ^ 24 + 0x80 * 2 ^ 24) false who
  else s.arriveAt pa d who
/-- An arrival object as an engine update reaches it (R287, R290). -/
inductive ObjRes where
  /-- Its PA. -/
  | ok (pa : Nat) (s : State)
  /-- Unreachable; stage 2 found it. -/
  | bad (s2 : Bool)
  /-- Its home or an arbiter cannot serve it now. -/
  | wait (s : State)
/-- The object at a VA for an update by an agent. -/
def State.objectAt (s : State) (ag : Agent) (va : Dword) : ObjRes :=
  if va.toNat % 16 != 0 then .bad false
  else match s.access ag.fn ag.pasid va 5 false true with
    | .error e => .bad e.s2
    | .ok x =>
      let q : Ask := { kind := 5, n := 16, cached := false, write := true, tagged := false, noHost := true }
      if s.poisoned x.pa || (s.escape ag x q).isSome then .bad false
      else
        match s.serveEng ag false 2 va x.pa with
        | (false, s1) => .wait s1
        | (true, s1) =>
          if s1.writeBlocked x.pa 16 false then .wait (s1.waitWrite ag x.pa 16)
          else .ok x.pa (((s1.fillTlb ag.fn ag.pasid va).useSnoop x.pa).leave ag.who)
/-- ARRIVAL_OBJECT_UPDATE (R288, R290): a request that is over updates its object once, and its records are written. -/
def execArrivalObjectUpdate (n : Nat) (s : State) : Out :=
  let q := nget Req.reset s.reqs n
  if !q.closed || !s.reqs.any (fun x => x.1 == n) then .next s
  else
    let ag := s.reqAgent n q
    let va := BitVec.ofNat 64 q.aova
    let fin (s : State) : State :=
      let s := match q.fault with | some r => s.raise r | none => s
      let s := if q.nearBank then s else s.tally ag.tenant 3 q.bytes
      { s with reqs := ndel s.reqs n, portOf := ndel s.portOf n }
    match s.objectAt ag va with
    | .wait s1 => .next s1
    | .ok pa s1 =>
      .next (fin ((s1.objectUpdate pa q.bytes q.flags q.fault.isSome (some ag.writer)).l1Drop q.core pa))
    | .bad s2 =>
      let r := { q.base with cause := 0x111, va := va, kind := 5, s2 := s2, sz := 4, tstamp := BitVec.ofNat 22 (s.time / 1024) }
      .next ((fin s).raise r)

end Sys2Proof.Machine
end

