-- ==== Sys2Proof/Machine/Time.lean ====
section
/-! DEFINITION. What the passing of TIME does by itself: silent and waiting teams (R346, R376), the ramp of the rails (R418) and
the counter intervals (R348); and the events of the hardware event rings (R398, R423). -/

namespace Sys2Proof.Machine

/-- Number with its bytes placed at an offset of a 64-byte block. -/
def field512 (off n x : Nat) : Nat := (x % 256 ^ n) * 256 ^ off

/-! ## Hardware event rings -/

/-- An entry joins a hardware event ring; a full ring of 256 entries drops it (R398, R423). -/
def State.hwPush (s : State) (ring : Nat) (x : BitVec 512) : State :=
  let l := nget [] s.hwRings ring
  if l.length < 256 then { s with hwRings := nput s.hwRings ring (l ++ [(x, false)]) } else s
/-- The fields of an event of R423. -/
structure HwEvent where
  /-- TYPE. -/
  type : Nat
  /-- DIE. -/
  die : Nat
  /-- CLUSTER, 0xFF for none. -/
  cluster : Nat
  /-- TENANT, 0xFF for none. -/
  tenant : Nat
  /-- S. -/
  s : Nat
  /-- RAIL, 0xFF for none. -/
  rail : Nat
  /-- FROM. -/
  src : Nat
  /-- TO. -/
  dst : Nat
  /-- LOC. -/
  loc : Nat
  /-- GRIDID. -/
  grid : Nat
  /-- TEAM. -/
  team : Nat
  /-- KID. -/
  kid : Nat
  /-- PHASE. -/
  phase : Nat
  /-- VMV. -/
  vmv : Nat
deriving DecidableEq, Repr
/-- An event of a type with nothing else to report. -/
def HwEvent.of (type die : Nat) : HwEvent :=
  { type := type, die := die, cluster := 0xFF, tenant := 0xFF, s := 0, rail := 0xFF, src := 0, dst := 0, loc := 0,
    grid := 0xFFFFFFFF, team := 0, kid := 0, phase := 0, vmv := 0 }
/-- The 64 bytes of an event. -/
def HwEvent.bytes (e : HwEvent) (time : Nat) : BitVec 512 :=
  BitVec.ofNat 512 (field512 0 8 time + field512 8 1 e.type + field512 9 1 e.die + field512 0xA 1 e.cluster +
    field512 0xB 1 e.tenant + field512 0xC 1 e.s + field512 0xD 1 e.rail + field512 0xE 1 e.src + field512 0xF 1 e.dst +
    field512 0x10 8 e.loc + field512 0x18 4 e.grid + field512 0x1C 4 e.team + field512 0x20 4 e.kid +
    field512 0x24 2 e.phase + field512 0x26 2 e.vmv)
/-- An event is written: types 1 and 2 to ring 1, the others to ring 2 (R423). -/
def State.hwEvent (s : State) (e : HwEvent) : State := s.hwPush (if e.type ≤ 2 then 1 else 2) (e.bytes s.time)

/-! ## Teams that wait or are silent -/

/-- Keys of the resident teams of a core. -/
def State.coreTeams (s : State) (core : Nat) : List Nat :=
  (List.range 64).map (fun j => core * 64 + j) |>.filter (fun tk => (s.team tk).present)
/-- Keys of all resident teams. -/
def State.allTeams (s : State) : List Nat := (s.teams.filter (fun t => t.2.present)).map (·.1)
/-- A frontier entry waits in one of the words that BLOCK looks for (R346). -/
def Entry.waits (e : Entry) : Bool :=
  e.held || e.barWait || e.sleep != 0 ||
    (match e.pend with
     | some p => p.kind == .await || p.kind == .xwait || p.kind == .nbar || p.kind == .lwait
     | none => false)
/-- A group waits: every entry that could issue is in such a word, and some entry is. -/
def Group.waits (g : Group) : Bool := g.frontier.all Entry.waits && g.frontier.any (fun e => e.waits && !e.held)
/-- Every live group of a team waits. -/
def State.teamWaits (s : State) (tk : Nat) : Bool :=
  !(s.liveGroups tk).isEmpty && (s.liveGroups tk).all (fun gk => (s.group gk).waits)
/-- The silence of a team counts: no unfinished request, no unretired child, no parked sub-group (R376). -/
def State.silenceCounts (s : State) (tk : Nat) : Bool :=
  let t := s.team tk
  !s.reqs.any (fun q => q.2.tk == tk) && s.childCount t.grid t.id == 0 && t.gks.all (fun gk => (s.group gk).parked.isEmpty)
/-- One nanosecond for a team. -/
def State.tickTeam (s : State) (tk : Nat) : State :=
  let t := s.team tk
  s.setTeam tk { t with silent := if s.silenceCounts tk then t.silent + 1 else t.silent
                        waited := if s.teamWaits tk then t.waited + 1 else 0 }

/-! ## Rails -/

/-- A rail. -/
def State.rail (s : State) (r : Nat) : Rail := nget Rail.reset s.rails r
/-- A rail replaced. -/
def State.setRail (s : State) (r : Nat) (x : Rail) : State := { s with rails := nput s.rails r x }
/-- The rails of the device. -/
def railIds : List Nat := List.range 12
/-- A rail moves 10 mV for each µs of its ramp; RAIL_REACHES_TARGET makes the last part (R418). -/
def Rail.ramp (now : Nat) (r : Rail) : Rail :=
  if r.vmv + 10 < r.tgt ∧ r.rampAt + 1000 ≤ now then { r with vmv := r.vmv + 10, rampAt := r.rampAt + 1000 }
  else if r.tgt + 10 < r.vmv ∧ r.hold.isNone ∧ r.rampAt + 1000 ≤ now then { r with vmv := r.vmv - 10, rampAt := r.rampAt + 1000 }
  else r

/-! ## A nanosecond -/

/-- TIME has advanced by a nanosecond. -/
def State.tick (s : State) : State :=
  let s := s.allTeams.foldl State.tickTeam s
  let s : State := { s with rails := s.rails.map (fun r => (r.1, r.2.ramp s.time)) }
  if s.time % 100000 = 0 then { s with interval := { cur := [], last := s.interval.cur } } else s

end Sys2Proof.Machine
end

