-- ==== Sys2Proof/Machine/Arcade.lean ====
section
/-! DEFINITION. The token arcade (R72-R79), the die budgets (R75, R407, R408) and the memory byte budgets (R89, R90). -/

namespace Sys2Proof.Machine

/-- The arcade of a die. -/
def State.arcade (s : State) (d : Nat) : Arcade := nget Arcade.reset s.arcades d
/-- The arcade of a die replaced. -/
def State.setArcade (s : State) (d : Nat) (a : Arcade) : State := { s with arcades := nput s.arcades d a }
/-- An empty flit. -/
def Flit.empty : Flit := { fresh := 0, old := 0, nflit := 0 }
/-- Cap of the sequencer bank (R79). -/
def seqCap : Nat := 4096
/-- Cap of a quadrant bank (R79). -/
def bankCap : Nat := 2048
/-- The five banks of a core in round order: quadrants 0 to 3, then the sequencer. -/
def State.coreBanks (s : State) (core : Nat) : List Bank :=
  (List.range 4).map (fun q => (s.quad (core * 4 + q)).bank) ++ [nget Bank.reset s.seqBanks core]
/-- Cap of bank `i` of a core. -/
def capOf (i : Nat) : Nat := if i = 4 then seqCap else bankCap
/-- A bank in saving that holds less than its saved price. -/
def Bank.hungry (b : Bank) : Bool := match b.saving with | some x => decide (b.level < x.price) | none => false
/-- The next bank after `p` in round order that satisfies a test. -/
def nextBank (f : Nat → Bank → Bool) (bs : List Bank) (p : Nat) : Option Nat :=
  ((List.range 5).map (fun i => (p + 1 + i) % 5)).find? (fun i => f i (bs.getD i Bank.reset))
/-- Tokens dealt one at a time (R78): banks in saving below their saved price first, then banks below their cap; with the
banks and the deal pointer. -/
def deal : Nat → List Bank × Nat → List Bank × Nat
  | 0, x => x
  | n + 1, x =>
    match (nextBank (fun _ b => b.hungry) x.1 x.2).or (nextBank (fun i b => decide (b.level < capOf i)) x.1 x.2) with
    | none => x
    | some i => deal n (x.1.modify i (fun b => { b with level := b.level + 1 }), i)
/-- Sum of (cap − level) over the banks of a core. -/
def deficit (bs : List Bank) : Nat := ((List.range 5).map (fun i => capOf i - (bs.getD i Bank.reset).level)).sum
/-- A core's banks replaced. -/
def State.setBanks (s : State) (core : Nat) (bs : List Bank) : State :=
  let s := (List.range 4).foldl (fun s q => s.setQuad (core * 4 + q) { s.quad (core * 4 + q) with bank := bs.getD q Bank.reset }) s
  { s with seqBanks := nput s.seqBanks core (bs.getD 4 Bank.reset) }
/-- A stop captures from the flit at it and deals (R77, R78). -/
def State.stopCapture (s : State) (core : Nat) (f : Flit) : State × Flit :=
  let bs := s.coreBanks core
  let d := deficit bs
  let takeOld := min f.old d
  let takeFresh := min f.fresh (min (f.nflit / 40) (d - takeOld))
  let x := deal (takeOld + takeFresh) (bs, nget 4 s.deals core)
  let s := if takeOld + takeFresh = 0 then s else { s.setBanks core x.1 with deals := nput s.deals core x.2 }
  (s, { f with old := f.old - takeOld, fresh := f.fresh - takeFresh })
/-- The stops 1 to 40 of a die capture, each from its flit. -/
def captureStops (die : Nat) : List Nat → List Flit → State → List Flit × State
  | [], fs, s => (fs, s)
  | k :: r, fs, s =>
    let x := s.stopCapture (die * 40 + k - 1) (fs.getD k Flit.empty)
    captureStops die r (fs.set k x.2) x.1
/-- The governor acts on the flit at stop 0 (R76); at half rate while the die throttles (R422). -/
def Arcade.govern (half : Bool) (a : Arcade) (f : Flit) : Arcade × Flit :=
  let acc := a.acc + (if half then a.inj / 2 else a.inj)
  let n := acc / 65536
  ({ a with acc := acc % 65536, expTot := a.expTot + BitVec.ofNat 64 f.old, injTot := a.injTot + BitVec.ofNat 64 n },
   { fresh := n, old := f.fresh, nflit := n })
/-- Every flit moves one hop (R72). -/
def rotateFlits (fs : List Flit) : List Flit := fs.getLastD Flit.empty :: fs.dropLast
/-- The ring cycle of a die's arcade. -/
def State.ringCycle (s : State) (die : Nat) : State :=
  let a := s.arcade die
  let fs := (List.range 41).map (fun i => a.flits.getD i Flit.empty)
  let g := a.govern (s.power.thr.getLsbD die) (fs.getD 0 Flit.empty)
  let x := captureStops die ((List.range 40).map (· + 1)) (fs.set 0 g.2) s
  x.2.setArcade die { g.1 with flits := rotateFlits x.1 }
/-- ARCADE_RING_CYCLE (R72, R76-R78): injection, capture and dealing, then every flit moves on; and TIME (R266). -/
def execArcadeRingCycle (die : Nat) (s : State) : Out :=
  if 4 ≤ die then .next s
  else
    let t0 := s.time
    let s := { s.ringCycle die with ringCycles := nput s.ringCycles die (nget 0 s.ringCycles die + 1) }
    .next (if t0 < s.time then s.tick else s)

/-! ## Die budgets -/

/-- CALF as used: the nearer end of its range (R75). -/
def calfUsed (x : Nat) : Nat := max 0x3800 (min 0x4800 x)
/-- CALF of a die. -/
def State.calf (s : State) (die : Nat) : Nat := calfUsed (nget 0x4000 s.fuses.calf die)
/-- The package is over budget (R408). -/
def State.overBudget (s : State) : Bool := decide (1440000 < ((List.range 4).map (fun d => (s.arcade d).bud)).sum)
/-- PKOV follows the sum of the budgets; its rise writes an event of type 10 (R408). -/
def State.pkov (s : State) : State :=
  let o := s.overBudget
  let rise := o && !s.power.pkov
  let s := { s with power := { s.power with pkov := o } }
  if rise then s.hwEvent (HwEvent.of 10 4) else s
/-- GBUDGET_WRITE (R75, R407). -/
def execGbudgetWrite (die : Nat) (x : BitVec 64) (s : State) : Out :=
  if 4 ≤ die then .next s
  else
    let v := (x.setWidth 19).toNat
    let b := max 60000 (min 450000 v)
    .next (s.setArcade die { s.arcade die with bud := b, clmp := b != v, inj := b * s.calf die / 64 }).pkov

/-! ## Byte budgets -/

/-- Where a service that waits is kept. -/
inductive SvcAt where
  /-- With a bundle: group key and place in its frontier. -/
  | bundle (gk idx : Nat)
  /-- With a `pub` whose lanes have been ended: group key and place in its list. -/
  | walk (gk idx : Nat)
  /-- With an engine request. -/
  | request (n : Nat)
  /-- With a sender of its own. -/
  | held (k : Sender)
deriving DecidableEq, Repr
/-- The services that wait, each with its arrival number. -/
def State.waitingAt (s : State) : List (Nat × SvcAt) :=
  s.groups.flatMap (fun g => g.2.frontier.zipIdx.filterMap (fun e =>
    (e.1.pend.bind (fun p => p.svc.ticket)).map (fun t => (t, SvcAt.bundle g.1 e.2)))) ++
  s.groups.flatMap (fun g => g.2.walks.zipIdx.filterMap (fun p => p.1.svc.ticket.map (fun t => (t, SvcAt.walk g.1 p.2)))) ++
  s.reqs.filterMap (fun q => q.2.svc.ticket.map (fun t => (t, SvcAt.request q.1))) ++
  s.held.filterMap (fun h => h.2.ticket.map (fun t => (t, SvcAt.held h.1)))
/-- A service takes its place by arrival number. -/
def insertTicket (x : Nat × SvcAt) : List (Nat × SvcAt) → List (Nat × SvcAt)
  | [] => [x]
  | y :: r => if x.1 < y.1 then x :: y :: r else y :: insertTicket x r
/-- A waiting service changed, for the agent whose it is. -/
def State.mapService (f : Agent → Svc → State → Svc × State) (s : State) (x : SvcAt) : State :=
  match x with
  | .bundle gk idx =>
    match ((s.group gk).frontier[idx]?).bind (fun e => e.pend.map (fun p => (e, p))) with
    | none => s
    | some (e, p) =>
      let (v, s) := f (s.groupAgent gk) p.svc s
      let g := s.group gk
      s.setGroup gk { g with frontier := g.frontier.set idx { e with pend := some { p with svc := v } } }
  | .walk gk idx =>
    match (s.group gk).walks[idx]? with
    | none => s
    | some p =>
      let (v, s) := f (s.groupAgent gk) p.svc s
      let g := s.group gk
      s.setGroup gk { g with walks := g.walks.set idx { p with svc := v } }
  | .request n =>
    let q := nget Req.reset s.reqs n
    let (v, s) := f (s.reqAgent n q) q.svc s
    s.setReq n { q with svc := v }
  | .held k =>
    let (v, s) := f (s.senderAgent k) (s.heldSvc k) s
    { s with held := s.held.map (fun h => if h.1 = k then (k, v) else h) }
/-- Lines of a service that have waited into a new interval count once for BDELAY of the cluster (R92). -/
def State.countDelay (ag : Agent) (v : Svc) (s : State) : Svc × State :=
  let c := clusterOf ag.core
  let b := s.budget c
  let n := (v.due.filter (fun d => !d.late)).length
  ({ v with due := v.due.map (fun d => { d with late := true }) },
   { s with budgets := nput s.budgets c { b with delay := b.delay + BitVec.ofNat 64 n } })
/-- The lines of a service that its cluster's arbiters serve now (R90). -/
def State.grantDue (ag : Agent) (v : Svc) (s : State) : Svc × State :=
  let (due, s) := State.payDue ag v.ticket v.due s
  ({ v with due := due }, s)
/-- BYTE_BUDGET_INTERVAL (R90, R92): once per µs of TIME the lines that wait are counted, every budget is renewed, and the waiting
lines are served in their arrival order. -/
def execByteBudgetInterval (s : State) : Out :=
  if s.time / 1000 ≤ s.power.budgetAt / 1000 then .next s
  else
    let at0 := (s.waitingAt.foldl (fun l x => insertTicket x l) []).map (·.2)
    let s := at0.foldl (State.mapService State.countDelay) s
    let s := (List.range 20).foldl (fun (s : State) c =>
      { s with budgets := nput s.budgets c { s.budget c with left := (s.budget c).limit } }) s
    let s := at0.foldl (State.mapService State.grantDue) s
    .next { s with power := { s.power with budgetAt := s.time } }

end Sys2Proof.Machine
end

