-- ==== Sys2Proof/Machine/Control.lean ====
section
/-! DEFINITION. Control transfers: major 11 (R245-R251). -/

namespace Sys2Proof.Machine

/-- br_target of the word on the port (R188). -/
def State.brTarget (s : State) (o : BitVec 18) : Dword := s.cur.wpc + 4 * o.signExtend 64
/-- Lanes go to a target instead of the PC after the bundle. -/
def State.goLanes (s : State) (m : LaneMask) (t : Dword) : State :=
  s.mapCur (fun c => { c with moves := c.moves ++ [(m, t)] })
/-- A branch of the performing lanes that a test selects (R246). DESIGN CHOICE (log 168): the lanes that another word of the bundle fails
do not count in the test of `bra.any` and `bra.all`. -/
def branch (sel : LaneMask → LaneMask) (o : BitVec 18) (s : State) : Out :=
  .next (finish 0 (s.goLanes (sel s.cur.act) (s.brTarget o)))
/-- BRA (R246). -/
def execBra (p : BitVec 4) (o : BitVec 18) (s : State) : Out := branch (fun m => m &&& s.preg p.toNat) o s
/-- BRN (R246). -/
def execBrn (p : BitVec 4) (o : BitVec 18) (s : State) : Out := branch (fun m => m &&& ~~~s.preg p.toNat) o s
/-- JMP (R246). -/
def execJmp (o : BitVec 18) (s : State) : Out := branch (fun m => m) o s
/-- BRA_ANY (R246). -/
def execBraAny (p : BitVec 4) (o : BitVec 18) (s : State) : Out :=
  branch (fun m => if m &&& s.preg p.toNat = 0 then 0 else m) o s
/-- BRA_ALL (R246). -/
def execBraAll (p : BitVec 4) (o : BitVec 18) (s : State) : Out :=
  branch (fun m => if m &&& s.preg p.toNat = m then m else 0) o s
/-- CALL (R247): v54 takes the address after the bundle in each lane. -/
def execCall (o : BitVec 18) (s : State) : Out :=
  let link := image 64 (fun _ => (s.cur.wpc + 4).toNat)
  let s1 := if s.cur.act = 0 then s else s.mapRegs (writeV 54 s.cur.act link 0)
  .next (finish 0 (s1.goLanes s.cur.act (s.brTarget o)))
/-- JMPI (R247). -/
def execJmpi (a : BitVec 6) (s : State) : Out :=
  let t := s.sreg a
  let s := if t.toNat % 4 = 0 then s else addFails ((lanesOf s.cur.act).map (failOf 0x0C4)) s
  .next (finish 0 (s.goLanes s.cur.act t))
/-- RET (R247): each lane to the address in its own lane of v54. -/
def execRet (s : State) : Out :=
  let v := nget 0 s.cur.src.v 54
  let bad := (lanesOf s.cur.act).filter (fun l => elem v 64 l % 4 != 0)
  let s := addFails (bad.map (failOf 0x0C4)) s
  .next (finish 0 ((lanesOf s.cur.act).foldl (fun s l => s.goLanes (oneLane l) (laneVal v l)) s))
/-- JOIN (R51-R53, R248). AWAIT takes the lanes that perform the bundle, not those that another word of it fails (log 141); a join that
finds the landings full and is out of reach takes 0x0C0 (log 142). -/
def execJoin (j : BitVec 12) (o : BitVec 10) (s : State) : Out :=
  let h := s.cgrid.hdr
  let t := (s.cur.wpc &&& ~~~15#64) + 16 * o.setWidth 64
  let full := decide (s.cgrid.ld ≤ s.cg.landings.length)
  let far := t.ult h || decide (0x400000 ≤ t.toNat - h.toNat)
  let cause := if full then some 0x0C0 else if far then some 0x0C1 else none
  match cause with
  | some c => .next (finish 0 (addFails ((lanesOf s.cur.act).map (failOf c)) s))
  | none =>
    .next (finish 0 (if s.cur.act = 0 then s else s.mapCg (fun g =>
      { g with landings := g.landings ++
          [{ await := s.cur.act, jprio := j, joff := BitVec.ofNat 20 ((t.toNat - h.toNat) / 4), held := 0 }] })))

/-- The code word at a VA as the core's decode sees it: from the instruction cache, else from the home line. -/
def State.codeWord (s : State) (ag : Agent) (va : Dword) : Option Nat :=
  match s.access ag.fn ag.pasid va 3 false false with
  | .error _ => none
  | .ok x =>
    let c := s.cache ag.core
    match c.ic.find? (fun l => l.1 == x.pa / 64 && lineValid c.igd c.igv none l.2) with
    | some l => some (lineBytes l.2.data x.pa 4)
    | none => some (s.pread x.pa 4)
/-- Word `i` of a body of `n` breaks R62: a control word that may not stand there, or an inner body past the end. -/
def badBodyWord (n i raw : Nat) : Bool :=
  let maj := raw / 2 ^ 26 % 16
  if maj = 11 then decide (raw / 2 ^ 22 % 16 ≠ 7) || decide (n < i + 1 + (raw / 2 ^ 6 % 256 + 1))
  else maj == 15 && decide (raw / 2 ^ 21 % 32 ≠ 0)
/-- The checks of R62 on a loop with `n` body words that start at `first`. A body word that cannot be translated or read passes, and a
body inside an inner body is judged when that inner loop executes (log 143). -/
def State.loopMisuse (s : State) (lc n : Nat) (first : Dword) : Bool :=
  (s.cur.entry.owner && s.cg.loops.any (fun l => l.lc == lc)) ||
  (List.range n).any (fun i =>
    match s.codeWord s.agent (first + BitVec.ofNat 64 (4 * i)) with
    | some raw => badBodyWord n i raw
    | none => false)
/-- LOOP (R61, R62, R249). -/
def execLoop (l : BitVec 2) (b : BitVec 6) (n : BitVec 8) (s : State) : Out :=
  let count := s.sreg b
  let first := s.cur.wpc + 4
  if s.loopMisuse l.toNat (n.toNat + 1) first then
    .next (finish 0 (addFails ((lanesOf s.cur.act).map (failOf 0x0C2)) s))
  else if s.cur.act = 0 then .next (finish 0 s)
  else
    let s := s.mapRegs (fun r => { r with lc := nput r.lc l.toNat count })
    if count = 0 then .next (finish 0 (s.goLanes s.cur.act (first + 4 * (n.setWidth 64 + 1))))
    else .next (finish 0 (s.mapCur (fun c => { c with newLoop := some { lc := l.toNat, first := first, len := n.toNat } })))
/-- EXIT (R250). -/
def execExit (s : State) : Out := .next (finish 0 (s.mapCur (fun c => { c with exited := c.act })))
/-- A trap on some lanes, which acts as `nop` in the first issue after a replay (R267). -/
def trapLanes (cause : Nat) (m : LaneMask) (code : BitVec 12) (s : State) : Out :=
  let fs := (lanesOf m).map (fun l => { failOf cause l with va := code.setWidth 64 })
  let s := match s.cur.replay with
    | some r => if r.trap then s else addFails fs s
    | none => addFails fs s
  .next (finish 0 s)
/-- TRAPC (R251). -/
def execTrapc (p : BitVec 4) (c : BitVec 12) (s : State) : Out := trapLanes 0x140 (s.cur.act &&& s.preg p.toNat) c s

end Sys2Proof.Machine
end

