-- ==== Sys2Proof/Machine/Power.lean ====
section
/-! DEFINITION. Power control of clusters and rails: phase states (R413), the operating-point table (R415), steps (R416), rails
(R417-R419); and `phase` (R265). -/

namespace Sys2Proof.Machine

/-- A cluster's power state. -/
def State.cluster (s : State) (c : Nat) : Cluster := nget Cluster.reset s.clusters c
/-- A cluster's power state replaced. -/
def State.setCluster (s : State) (c : Nat) (x : Cluster) : State := { s with clusters := nput s.clusters c x }
/-- Die of a cluster (R16). -/
def clusterDie (c : Nat) : Nat := c / 5
/-- Rail of a cluster (R417). -/
def railOf (c : Nat) : Nat := 3 * (c / 5) + c % 5 / 2
/-- Clusters on a rail. -/
def railClusters (r : Nat) : List Nat := (List.range 20).filter (fun c => railOf c == r)
/-- Nominal voltage V(c, p) of a die in mV (R410). -/
def State.vnom (s : State) (die cls point : Nat) : Nat := nget 0 s.fuses.vnom (die * 32 + cls * 8 + point)
/-- VFLOOR of a die in mV. -/
def State.vfloor (s : State) (die : Nat) : Nat := nget 0 s.fuses.vfloor die
/-- The vote of a cluster for a point, with a trim (R410). -/
def State.voteFor (s : State) (c point trim : Nat) : Nat := s.vnom (clusterDie c) (s.cluster c).cls point - trim
/-- A point or trim whose vote would lie below the floor (R419). -/
def State.denied (s : State) (c point trim : Nat) : Bool :=
  decide (s.vnom (clusterDie c) (s.cluster c).cls point < s.vfloor (clusterDie c) + trim)
/-- Class and point as events give them (R423). -/
def classPoint (cls point : Nat) : Nat := cls % 4 + 4 * (point % 8)
/-- The kernel id and phase of a phase state, 0 for the others. -/
def PhaseState.key : PhaseState → Nat × Nat
  | .one k p => (k.toNat, p.toNat)
  | _ => (0, 0)
/-- An event about a cluster (R423). -/
def State.clusterEvent (s : State) (c type src dst : Nat) : State :=
  let x := s.cluster c
  s.hwEvent { HwEvent.of type (clusterDie c) with
    cluster := c, rail := railOf c, src := src, dst := dst, kid := x.state.key.1, phase := x.state.key.2, vmv := x.vote }

/-! ## Rails -/

/-- A cluster votes: its clock runs or a step towards a point is in progress. -/
def Cluster.votes (c : Cluster) : Bool := c.run || c.step.isSome
/-- TGT of a rail: the highest vote, or VFLOOR when no cluster votes (R417). -/
def State.railTarget (s : State) (r : Nat) : Nat :=
  let vs := ((railClusters r).map s.cluster).filter Cluster.votes
  if vs.isEmpty then s.vfloor (r / 3) else vs.foldl (fun m c => max m c.vote) 0
/-- TGT follows the votes; the first fall below VMV is held for 500 µs (R418). -/
def State.retarget (s : State) (r : Nat) : State :=
  let x := s.rail r
  let t := s.railTarget r
  let x' :=
    if t = x.tgt then x
    else if x.vmv ≤ t then { x with tgt := t, hold := none, rampAt := if x.vmv < x.tgt then x.rampAt else s.time }
    else if x.vmv ≤ x.tgt then { x with tgt := t, hold := some (s.time + 500000) }
    else { x with tgt := t }
  s.setRail r x'
/-- A cluster's power state changed, and its rail with it. -/
def State.putCluster (s : State) (c : Nat) (x : Cluster) : State := (s.setCluster c x).retarget (railOf c)

/-! ## Points -/

/-- Entry of the operating-point table for a phase state and class; the table holds the least recently used entry first. -/
def optFind (t : List OptEntry) (k : Nat × Nat) (cls : Nat) : Option OptEntry :=
  t.find? (fun e => e.kid.toNat == k.1 && e.phase.toNat == k.2 && e.cls == cls)
/-- An entry is used or written: it becomes the most recently used (R415). -/
def optPut (t : List OptEntry) (e : OptEntry) : List OptEntry :=
  let t := t.filter (fun x => !(x.kid == e.kid && x.phase == e.phase && x.cls == e.cls))
  (if t.length < 1024 then t else t.drop 1) ++ [e]
/-- A cluster's step to a point begins (R416): a rise votes first, a fall switches first. A denied point leaves the cluster
where it is (R419). -/
def State.movePoint (s : State) (c point : Nat) : State :=
  let x := s.cluster c
  let trim := (s.rail (railOf c)).trim
  let deny := s.denied c point trim
  let p := if deny then x.point else point
  let s := if deny then (s.setCluster c { x with den := true }).clusterEvent c 4 (classPoint x.cls x.point) (classPoint x.cls point)
           else s
  let x := s.cluster c
  if x.run ∧ p = x.point then s.putCluster c { x with step := none, vote := s.voteFor c p trim }
  else if x.run ∧ x.point < p then s.putCluster c { x with step := some p, vote := s.voteFor c x.point trim }
  else s.putCluster c { x with step := some p, vote := s.voteFor c p trim }
/-- The state that a cluster leaves is closed (R415): two samples or more write its table entry. -/
def State.closeState (s : State) (c : Nat) : State :=
  let x := s.cluster c
  match x.state with
  | .one kid ph =>
    if !s.power.optEn || decide (x.nsmp < 2) then s
    else
      let want := if 128 * x.nsmp ≤ x.sum then (if x.point = 7 then 7 else x.point + 1)
                  else if x.sum ≤ 51 * x.nsmp then x.point - 1 else x.point
      let deny := want != x.point && s.denied c want (s.rail (railOf c)).trim
      let s := if deny then
          (s.setCluster c { x with den := true }).clusterEvent c 4 (classPoint x.cls x.point) (classPoint x.cls want)
        else s
      let e : OptEntry := { kid := kid, phase := ph, cls := x.cls, point := if deny then x.point else want }
      { s with power := { s.power with table := optPut s.power.table e } }
  | _ => s
/-- The phase state of a cluster as its resident teams give it (R413). -/
def State.phaseOf (s : State) (c : Nat) : PhaseState :=
  let ks := ((List.range 8).flatMap (fun j => s.coreTeams (c * 8 + j))).map
    (fun tk => ((s.grid (s.team tk).grid).kid, (s.team tk).phase))
  match ks with
  | [] => .idle
  | k :: r => if r.all (fun x => x == k) then .one k.1 k.2 else .mixed
/-- PHASE_STATE_CHANGE (R413): the old state is closed, a point is chosen, and the cluster moves; an idle cluster stops its
clock and withdraws its vote. -/
def State.phaseChange (s : State) (c : Nat) : State :=
  let new := s.phaseOf c
  if new = (s.cluster c).state then s
  else
    let s := s.closeState c
    let s := s.setCluster c { s.cluster c with state := new, last := (s.cluster c).last, sum := 0, nsmp := 0 }
    match new with
    | .idle => s.putCluster c { s.cluster c with run := false, step := none, vote := 0 }
    | .mixed => s.movePoint c 0
    | .one kid ph =>
      match (if s.power.optEn then optFind s.power.table (kid.toNat, ph.toNat) (s.cluster c).cls else none) with
      | some e =>
        ({ s with power := { s.power with table := optPut s.power.table e } }).movePoint c e.point
      | none => s.movePoint c 0
/-- PHASE (R265): the team leader sets PHASE, and a change is reported to the cluster's power control. -/
def execPhase (p : BitVec 12) (s : State) : Out :=
  if s.cur.act = 0 ∨ s.leader s.cg.tk ≠ some s.cur.gk then .next (finish 0 s)
  else .next (finish 0 ((s.mapCt (fun t => { t with phase := p })).phaseChange (clusterOf (coreOf s.cur.gk))))

end Sys2Proof.Machine
end

