-- ==== Sys2Proof/Machine/Tile.lean ====
section
/-! DEFINITION. Numbered barriers, the tile sequencer and the matrix engine: major 14, `nbar.*` and `tstart` (R277, R292-R311). -/

namespace Sys2Proof.Machine

/-! ## Numbered barriers -/

/-- A numbered barrier of a core's team. -/
def State.nbar (s : State) (core k : Nat) : NBar := nget NBar.reset (s.tile core).nb k
/-- One arrival with a count (R292); none on a count mismatch. -/
def NBar.arrive (b : NBar) (c : Nat) : Option NBar :=
  if b.cv && b.cnt != c - 1 then none
  else
    let a := b.arr + 1
    some (if a = c then { b with cnt := c - 1, arr := 0, cv := false, gen := b.gen + 1 }
          else { b with cnt := c - 1, arr := a, cv := true })
/-- A barrier set. -/
def State.setNbar (s : State) (core k : Nat) (b : NBar) : State :=
  s.setTile core { s.tile core with nb := nput (s.tile core).nb k b }
/-- A generation has reached the wanted one (R294). -/
def NBar.met (b : NBar) (want : BitVec 16) : Bool := decide ((b.gen - want).toNat < 32768)
/-- NBAR_ARRIVE (R293, R296). -/
def execNbarArrive (c : BitVec 1) (n : BitVec 5) (k : BitVec 4) (s : State) : Out :=
  let core := coreOf s.cur.gk
  let b := s.nbar core k.toNat
  if s.cgrid.tsoff = 0 then .next (finish c (addFails (uniformFail s 0x0CA) s))
  else if b.brk then .next (finish c (addFails (uniformFail s 0x0E7) s))
  else match b.arrive (n.toNat + 1) with
    | none => .next (finish c (addFails (uniformFail s 0x0E6) s))
    | some b' => .next (finish c (if s.cur.act = 0 then s else s.setNbar core k.toNat b'))
/-- NBAR_WAIT (R294, R296). A wait during which its barrier broke fails, whatever the barrier has become since. -/
def execNbarWait (c : BitVec 1) (a : BitVec 6) (k : BitVec 4) (s : State) : Out :=
  let b := s.nbar (coreOf s.cur.gk) k.toNat
  if s.cgrid.tsoff = 0 then .next (finish c (addFails (uniformFail s 0x0CA) s))
  else if s.cur.broken then .next (finish c (addFails (uniformFail s 0x0E7) s))
  else if b.met ((s.sreg a).setWidth 16) then .next (finish c s)
  else if b.brk then .next (finish c (addFails (uniformFail s 0x0E7) s))
  else waitUntil .nbar c false s
/-- The sequencer can be started (R277). -/
def Tile.startable (t : Tile) : Bool := (t.run == .ended || t.run == .stopped) && t.table.isEmpty
/-- TSTART (R277). -/
def execTstart (c : BitVec 1) (a : BitVec 6) (s : State) : Out :=
  let core := coreOf s.cur.gk
  let t := s.tile core
  let off := s.sreg a
  let cause : Option Nat :=
    if s.cgrid.tsoff = 0 then some 0x0CA
    else if !t.startable then some 0x109
    else if off.toNat % 16 ≠ 0 ∨ 0x400000 ≤ off.toNat then some 0x101
    else none
  match cause with
  | some x => .next (finish c (addFails (uniformFail s x) s))
  | none =>
    .next (finish c (if s.cur.act = 0 then s else
      s.setTile core { t with pc := s.cgrid.hdr + off, run := .fetching, loop := none
                              nb := t.nb.map (fun b => (b.1, { b.2 with brk := false })) }))

/-! ## Sequencer faults -/

/-- A record of a sequencer (R311, R378). -/
def State.seqRec (s : State) (core : Nat) (cause : Nat) (pc va : Dword) (kind sz : Nat) (park s2 : Bool) : FaultRec :=
  let t := s.team (s.tile core).tk
  let g := s.grid t.grid
  { va := va, kind := kind, s2 := s2, sz := sz, pc := some pc, hdr := g.hdr, park := park, lanes := 0, grid := t.grid, team := t.id,
    group := 32, cause := cause, tmv := false, fn := g.fn, pasid := g.pasid, tstamp := BitVec.ofNat 22 (s.time / 1024) }
/-- The barrier and generation that a bundle's `nbar.wait` waits for (R294). -/
def Pend.nbarWait (p : Pend) : Option (Nat × BitVec 16) :=
  p.words.findSome? (fun i => match i with
    | .nbarWait _ a k => some (k.toNat, (nget 0 p.src.s a.toNat).setWidth 16)
    | _ => none)
/-- The waits in progress of a team on barriers that break are marked, so that they end with 0x0E7 (R296). -/
def State.breakWaits (s : State) (tk : Nat) (nb : NMap NBar) : State :=
  let mark (p : Pend) : Pend :=
    match p.nbarWait with
    | some (k, want) => if (nget NBar.reset nb k).met want then p else { p with broken := true }
    | none => p
  (s.team tk).gks.foldl (fun s gk =>
    let g := s.group gk
    s.setGroup gk { g with frontier := g.frontier.map (fun e => { e with pend := e.pend.map mark }) }) s
/-- The sequencer stops (R311, R296): unissued tasks go, every barrier breaks. -/
def State.seqHalt (s : State) (core : Nat) : State :=
  let t := s.tile core
  let s := s.breakWaits t.tk t.nb
  let s := s.setTile core { t with
    run := .stopped, stall := none, loop := none, table := t.table.filter (·.issued)
    nb := (List.range 16).map (fun k => (k, { nget NBar.reset t.nb k with brk := true })) }
  s.setTeam t.tk { s.team t.tk with seqFault := true }
/-- A fault of the tile stream that stops the sequencer (R311); one that a memory access raised has its size and stage (R377). -/
def State.seqStop (s : State) (core cause : Nat) (pc va : Dword) (sz : Nat := 0) (s2 : Bool := false) : State :=
  (s.raise (s.seqRec core cause pc va 0 sz false s2)).seqHalt core

/-! ## Control words -/

/-- The stream goes on after the word at PC: the next word, or the next pass of the loop (R309). -/
def Tile.advance (t : Tile) : Tile :=
  match t.loop with
  | none => { t with pc := t.pc + 4 }
  | some l =>
    if t.pc = l.first + BitVec.ofNat 64 (4 * (l.len - 1)) then
      (if l.pass + 1 < l.count then { t with pc := l.first, loop := some { l with pass := l.pass + 1 } }
       else { t with pc := t.pc + 4, loop := none })
    else { t with pc := t.pc + 4 }
/-- The sequencer on whose behalf a word executes. -/
def State.ctile (s : State) : Tile := s.tile s.cur.core
/-- Declared team memory of its team. -/
def State.seqTm (s : State) : Nat := (s.grid (s.team s.ctile.tk).grid).tmsize
/-- A tile word faults. -/
def seqFault (cause : Nat) (s : State) : Out := .next (s.seqStop s.cur.core cause s.ctile.pc 0)
/-- A descriptor breaks R298: its cause. -/
def slotCause (tm : Nat) (d : BitVec 256) : Option Nat :=
  let t := slotType d
  let rb := typeRowBits t (slotCols d)
  if decide (6 ≤ t) || decide (slotField d 0x11 1 / 64 ≠ 0) || decide (5 ≤ slotScope d) || slotRk d == 3 ||
      decide (slotRdy d / 4 % 4 ≠ 0) || decide (slotRdy d / 2 ^ 61 ≠ 0) || (slotRk d != 1 && slotNb d != 0) ||
      (slotRk d != 2 && decide (slotRdy d / 2 ^ 8 % 2 ^ 53 ≠ 0)) || decide (slotBase d % 16 ≠ 0 ∨ slotPitch d % 16 ≠ 0 ∨ slotScb d % 16 ≠ 0) ||
      decide (8 * slotPitch d < rb) then some 0x0E0
  else if 8 * (tm + slotPitch d) < 8 * (slotBase d + slotRows d * slotPitch d) + rb then some 0x0E1
  else if typeScaled t ∧ 32 * tm < 32 * slotScb d + slotRows d * slotCols d then some 0x0E1
  else none
/-- TSLOT (R297, R298). -/
def execTslot (n : BitVec 5) (o : BitVec 14) (s : State) : Out :=
  let t := s.ctile
  let off := 32 * o.toNat
  if s.seqTm < off + 32 then seqFault 0x0E1 s
  else
    let d := BitVec.ofNat 256 (s.tmRead t.tk off 32)
    match slotCause s.seqTm d with
    | some c => seqFault c s
    | none => .next (s.setTile s.cur.core { t.advance with
        slots := nput t.slots n.toNat d, bound := t.bound ||| (1#32 <<< n.toNat) })
/-- TWAIT (R308): fetch stays at the word until the barrier satisfies it. -/
def execTwait (k : BitVec 4) (g : BitVec 16) (s : State) : Out :=
  if (s.nbar s.cur.core k.toNat).met g then .next (s.setTile s.cur.core s.ctile.advance) else .next s
/-- TLOOP (R309). DESIGN CHOICE (log 172): a word of its body that cannot be translated or read here is taken as allowed. -/
def execTloop (c : BitVec 9) (l : BitVec 8) (s : State) : Out :=
  let t := s.ctile
  let ag := s.seqAgent s.cur.core
  let bad := (List.range (l.toNat + 1)).any (fun i =>
    match s.codeWord ag (t.pc + BitVec.ofNat 64 (4 * (i + 1))) with
    | some raw => decide (raw / 2 ^ 26 % 16 = 14 ∧ (raw / 2 ^ 21 % 32 = 9 ∨ raw / 2 ^ 21 % 32 = 10))
    | none => false)
  if t.loop.isSome || bad then seqFault 0x0E4 s
  else .next (s.setTile s.cur.core { t with
    pc := t.pc + 4, loop := some { first := t.pc + 4, len := l.toNat + 1, count := c.toNat + 1, pass := 0 } })
/-- TEND (R309). -/
def execTend (s : State) : Out := .next (s.setTile s.cur.core { s.ctile with run := .ended, loop := none })

/-! ## Tasks entering the table -/

/-- A task enters the table after its checks (R300): the slots it names by number, and its conditions on their
descriptors and pass index. -/
def enterTask (w : TileOp) (names : List Nat) (bad : List (BitVec 256) → Nat → Option Nat) (s : State) : Out :=
  let t := s.ctile
  let ds := names.map (fun n => nget 0 t.slots n)
  let pass := match t.loop with | some l => l.pass | none => 0
  if 32 ≤ t.table.length then .next s
  else if names.any (fun n => !t.bound.getLsbD n) then seqFault 0x0E2 s
  else match bad ds pass with
    | some c => seqFault c s
    | none =>
      let k : Task := { num := t.next, word := w, pc := t.pc, slots := ds, ready := names.map (fun _ => false), pass := pass,
                        issued := false, entry := 0, books := [], data := 0 }
      .next (s.setTile s.cur.core { t.advance with table := t.table ++ [k], next := t.next + 1 })
/-- A condition that must hold, or slot mismatch. -/
def orMismatch (ok : Bool) : Option Nat := if ok then none else some 0x0E2
/-- TMMA at entry (R304). -/
def execTmma (a : BitVec 5) (b : BitVec 5) (r : BitVec 2) (c : BitVec 2) (i : BitVec 1) (k : BitVec 6) (s : State) : Out :=
  enterTask (.tmma a b r c i k) [a.toNat, b.toNat] (fun ds pass =>
    let x := ds.getD 0 0
    let y := ds.getD 1 0
    let ks := ksOf k.toNat i.toNat pass
    let bf := slotType x == 2 && slotType y == 2
    let w := if bf then 16 * (ks + 1) else 32 * (ks + 1)
    orMismatch (slotRows x == 64 && slotRows y == 128 &&
      (bf || (decide (slotType x < 2 ∧ slotType y < 2) && s.mezz.isNone)) &&
      decide (w ≤ slotCols x ∧ w ≤ slotCols y))) s
/-- TMMAS at entry (R305). -/
def execTmmas (a : BitVec 5) (b : BitVec 5) (r : BitVec 2) (c : BitVec 2) (i : BitVec 1) (q : BitVec 2) (k : BitVec 4)
    (s : State) : Out :=
  enterTask (.tmmas a b r c i q k) [a.toNat, b.toNat] (fun ds pass =>
    let x := ds.getD 0 0
    let y := ds.getD 1 0
    let w := 64 * (ksOf k.toNat i.toNat pass + 1)
    orMismatch (s.mezz.isNone && slotType x == 5 && slotRows x == 64 && decide (slotType y < 2) && slotRows y == 128 &&
      decide (w ≤ slotCols x ∧ w ≤ slotCols y))) s
/-- TZERO at entry (R306). -/
def execTzero (r : BitVec 2) (c : BitVec 2) (s : State) : Out := enterTask (.tzero r c) [] (fun _ _ => none) s
/-- TSCALE at entry (R306). -/
def execTscale (n : BitVec 5) (r : BitVec 2) (c : BitVec 2) (s : State) : Out :=
  enterTask (.tscale n r c) [n.toNat] (fun _ _ => none) s
/-- A slot holds a 64 × 128 tile. -/
def slot64x128 (d : BitVec 256) : Bool := slotRows d == 64 && slotCols d == 128
/-- TCVT at entry (R306). -/
def execTcvt (n : BitVec 5) (r : BitVec 2) (c : BitVec 2) (s : State) : Out :=
  enterTask (.tcvt n r c) [n.toNat] (fun ds _ =>
    let d := ds.getD 0 0
    orMismatch (slot64x128 d && (slotType d == 2 || slotType d == 3 || ((slotType d == 0 || slotType d == 4) && s.mezz.isNone)))) s
/-- TACC at entry (R306). -/
def execTacc (n : BitVec 5) (r : BitVec 2) (c : BitVec 2) (s : State) : Out :=
  enterTask (.tacc n r c) [n.toNat] (fun ds _ =>
    let d := ds.getD 0 0
    orMismatch (slot64x128 d && (slotType d == 2 || slotType d == 3))) s
/-- TARRIVE_BARRIER at entry (R308). -/
def execTarriveBarrier (k : BitVec 4) (n : BitVec 5) (s : State) : Out :=
  enterTask (.tarriveBarrier k n) [] (fun _ _ => none) s
/-- TARRIVE_OBJECT at entry (R308). -/
def execTarriveObject (n : BitVec 5) (s : State) : Out :=
  enterTask (.tarriveObject n) [n.toNat] (fun ds _ => orMismatch (slotRk (ds.getD 0 0) == 2)) s
/-- TCBK at entry (R307). -/
def execTcbk (n : BitVec 3) (o : BitVec 14) (s : State) : Out :=
  enterTask (.tcbk n o) [] (fun _ _ => if s.seqTm < 32 * o.toNat + 32 then some 0x0E1 else none) s

/-! ## Readiness and conflicts -/

/-- A task that arrives. -/
def isArrive (t : Task) : Bool := match t.word with | .tarriveBarrier _ _ => true | .tarriveObject _ => true | _ => false
/-- A multiply. -/
def isMul (t : Task) : Bool := match t.word with | .tmma _ _ _ _ _ _ => true | .tmmas _ _ _ _ _ _ _ => true | _ => false
/-- The metadata queue a task names. -/
def taskQueue (t : Task) : Option Nat := match t.word with | .tmmas _ _ _ _ _ q _ => some q.toNat | _ => none
/-- The codebook a `tcbk` writes. -/
def taskBook (t : Task) : Option Nat := match t.word with | .tcbk n _ => some n.toNat | _ => none
/-- Accumulator tiles overlap. -/
def tilesOverlap (a b : Option (Nat × Nat)) : Bool :=
  match a, b with
  | some x, some y => x.1 == y.1 && decide (x.2 < y.2 + 2 ∧ y.2 < x.2 + 2)
  | _, _ => false
/-- Two tasks conflict (R302). -/
def conflicts (u t : Task) : Bool :=
  tilesOverlap (taskTile u) (taskTile t) ||
  (taskWrites u).any (fun w => (taskReads t ++ taskWrites t).any (fun x => w.meets x)) ||
  (taskWrites t).any (fun w => (taskReads u).any (fun x => w.meets x)) ||
  (match taskQueue u, taskQueue t with | some a, some b => a == b | _, _ => false) ||
  (match taskBook u with | some b => taskReadsBook t b | none => false) ||
  (match taskBook t with | some b => taskReadsBook u b | none => false) ||
  isArrive u || isArrive t
/-- A pair of multiplies on one tile, which the engine accumulates in issue order. -/
def samePair (u t : Task) : Bool := isMul u && isMul t && taskTile u == taskTile t
/-- Earlier tasks let a task issue (R302). -/
def noHazard (earlier : List Task) (t : Task) : Bool :=
  earlier.all (fun u => !conflicts u t || (samePair u t && u.issued))
/-- What a readiness test finds (R301). -/
inductive Readiness where
  | ready
  | notYet
  /-- The source at a VA faulted; stage 2 found it. -/
  | faulted (va : Dword) (s2 : Bool)
deriving DecidableEq, Repr
/-- A slot that does not gate its task any more. -/
def Readiness.isReady : Readiness → Bool
  | .ready => true
  | _ => false
/-- The VA and the stage of a faulted source. -/
def Readiness.fault? : Readiness → Option (Dword × Bool)
  | .faulted va s2 => some (va, s2)
  | _ => none
/-- A slot is tested (R301): a test that ends the wait reads the object as an engine does. Whether another test reads it is open
(Config.testReads). -/
def State.slotReady (s : State) (core : Nat) (d : BitVec 256) : Readiness × State :=
  match slotRk d with
  | 0 => (.ready, s)
  | 1 => (if (s.nbar core (slotNb d)).met (BitVec.ofNat 16 (slotGen d)) then .ready else .notYet, s)
  | _ =>
    let va := slotAova d
    let ag := { s.seqAgent core with who := .sender (.slot core va.toNat) }
    match s.access ag.fn ag.pasid va 4 false true with
    | .error e => (.faulted va e.s2, s.leave ag.who)
    | .ok x =>
      let q : Ask := { kind := 4, n := 16, cached := false, write := false, tagged := false, noHost := true }
      let w := s.pread (x.pa + 8) 4
      let met := awaitMet w (slotGen d)
      if s.poisoned x.pa || (s.escape ag x q).isSome then (.faulted va false, s.leave ag.who)
      else if met || Config.testReads s.epoch (x.pa / 64) then
        match s.serveEng ag false 0 va x.pa with
        | (false, s1) => (.notYet, s1)
        | (true, s1) =>
          (if !met then .notYet else if w / 2 ^ 24 ≠ 0 then .faulted va false else .ready,
           (s1.fillTlb ag.fn ag.pasid va).leave ag.who)
      else (.notYet, s.leave ag.who)
/-- Slots of a task tested one after the other. -/
def State.testEach (core : Nat) : List (BitVec 256 × Bool) → State → List Readiness × State
  | [], s => ([], s)
  | x :: r, s =>
    let (a, s) := if x.2 then (Readiness.ready, s) else s.slotReady core x.1
    let (l, s) := State.testEach core r s
    (a :: l, s)
/-- Readiness flags of a task brought up to date, or the first slot source that faulted (R301). -/
def State.testSlots (s : State) (core : Nat) (t : Task) : (Task ⊕ (Dword × Bool)) × State :=
  if isArrive t then (.inl { t with ready := t.ready.map (fun _ => true) }, s)
  else
    let (r, s) := State.testEach core (t.slots.zip t.ready) s
    (match r.findSome? Readiness.fault? with
     | some f => .inr f
     | none => .inl { t with ready := r.map Readiness.isReady }, s)
/-- Price of a task (R82). -/
def taskPrice (w : TileOp) : Nat :=
  match w with
  | .tmma _ _ _ _ _ _ => 320
  | .tmmas _ _ _ _ _ _ _ => 340
  | .tzero _ _ => 8
  | .tcbk _ _ => 8
  | .tacc _ _ _ => 16
  | .tscale _ _ _ => 24
  | .tcvt _ _ _ => 32
  | .tarriveBarrier _ _ => 2
  | .tarriveObject _ => 2
/-- A task may issue but for its price: ready, without hazard, its queue not empty (R301, R302). -/
def Tile.candidate (t : Tile) (k : Task) : Bool :=
  !k.issued && k.ready.all (fun b => b) && noHazard (t.table.takeWhile (fun u => u.num != k.num)) k &&
    (match taskQueue k with | some q => !(nget [] t.sq q).isEmpty | none => true)

/-! ## The matrix engine -/

/-- Element `k` of row `i` of a slot (R299); for TYPE 5 `k` counts stored bytes. -/
def slotElem (m : List Host.Cell) (d : BitVec 256) (book : BitVec 256) (i k : Nat) : FVal :=
  let a := slotBase d + i * slotPitch d
  match slotType d with
  | 1 => bookEntry book ((mread m (a + k / 2)).toNat / 16 ^ (k % 2) % 16)
  | 2 => valueOf .bf16 (mreadN m (a + 2 * k) 2)
  | 3 => valueOf .f32 (mreadN m (a + 4 * k) 4)
  | 4 => valueOf .f16 (mreadN m (a + 2 * k) 2)
  | _ => valueOf .e4m3 (mread m (a + k)).toNat
/-- Scale of row `i`, block `b` (R299). -/
def slotScale (m : List Host.Cell) (d : BitVec 256) (i b : Nat) : Nat := (mread m (slotScaleAt d i b)).toNat
/-- The products of one element of a dense multiply (R304): pairs, scale NaN and exponent. -/
def densePairs (m : List Host.Cell) (a b : BitVec 256) (ba bb : BitVec 256) (ks i j : Nat) : List (FVal × FVal) × Bool × Int :=
  if slotType a = 2 then
    ((List.range 16).map (fun k => (slotElem m a ba i (16 * ks + k), slotElem m b bb j (16 * ks + k))), false, 0)
  else
    ((List.range 32).map (fun k => (slotElem m a ba i (32 * ks + k), slotElem m b bb j (32 * ks + k))),
     scalePair (slotScale m a i ks) (slotScale m b j ks))
/-- Nibble `g` of row `i` of a metadata entry (R305). -/
def metaNibble (e : BitVec 4096) (i g : Nat) : Nat := (e.toNat >>> (8 * (8 * i + g / 2) + 4 * (g % 2))) % 16
/-- The products of one element of one 32-wide block of a sparse multiply (R305). -/
def sparsePairs (m : List Host.Cell) (a b : BitVec 256) (bb : BitVec 256) (e : BitVec 4096) (ks blk i j : Nat) :
    List (FVal × FVal) × Bool × Int :=
  ((List.range 8).flatMap (fun h =>
      let g := 8 * (blk % 2) + h
      let n := metaNibble e i g
      let G := 16 * ks + g
      [(slotElem m a 0 i (2 * G), slotElem m b bb j (4 * G + n % 4)),
       (slotElem m a 0 i (2 * G + 1), slotElem m b bb j (4 * G + n / 4))]),
   scalePair (slotScale m a i blk) (slotScale m b j blk))
/-- Key of an element of an accumulator tile. -/
def accKey (r c i j : Nat) : Nat := (64 * r + i) * 256 + 64 * c + j
/-- Every element of an accumulator tile replaced, with the union of the flags. -/
def mapTile (acc : NMap (BitVec 32)) (r c : Nat) (f : Nat → Nat → Nat → Nat × BitVec 8) : NMap (BitVec 32) × BitVec 8 :=
  (List.range (64 * 128)).foldl (fun x n =>
    let i := n / 128
    let j := n % 128
    let y := f i j (nget 0 acc (accKey r c i j)).toNat
    (nput x.1 (accKey r c i j) (BitVec.ofNat 32 y.1), x.2 ||| y.2)) (acc, 0)
/-- Output format of `tcvt` (R306). -/
def cvtFmt (t : Nat) : FFmt := match t with | 0 => .e4m3 | 2 => .bf16 | 3 => .f32 | _ => .f16
/-- The effects of a task other than `tarrive`, when it retires (R302, R304-R307). -/
def State.taskEffect (s : State) (core : Nat) (k : Task) : State :=
  let t := s.tile core
  let m := (s.team t.tk).tmem
  let d := k.slot 0
  let ba := k.books.getD 0 0
  let bb := k.books.getD 1 0
  let put (x : NMap (BitVec 32) × BitVec 8) : State := s.setTile core { t with acc := x.1, flags := t.flags ||| x.2 }
  match k.word with
  | .tmma _ _ r c i w =>
    let ks := ksOf w.toNat i.toNat k.pass
    put (mapTile t.acc r.toNat c.toNat (fun i j x =>
      let p := densePairs m d (k.slot 1) ba bb ks i j
      accBlock x p.1 p.2.1 p.2.2))
  | .tmmas _ _ r c i _ w =>
    let ks := ksOf w.toNat i.toNat k.pass
    put (mapTile t.acc r.toNat c.toNat (fun i j x =>
      let p := sparsePairs m d (k.slot 1) bb k.entry ks (2 * ks) i j
      let y := accBlock x p.1 p.2.1 p.2.2
      let p := sparsePairs m d (k.slot 1) bb k.entry ks (2 * ks + 1) i j
      let z := accBlock y.1 p.1 p.2.1 p.2.2
      (z.1, y.2 ||| z.2)))
  | .tzero r c => put (mapTile t.acc r.toNat c.toNat (fun _ _ _ => (0, 0)))
  | .tscale _ r c => put (mapTile t.acc r.toNat c.toNat (fun _ _ x => scaleTo .f32 x (slotTsc d)))
  | .tacc _ r c => put (mapTile t.acc r.toNat c.toNat (fun i j x =>
      let y := slotElem m d 0 i j
      let z := accAdd x y
      (z.1, z.2 ||| nanFlags [y])))
  | .tcvt _ r c =>
    let f := cvtFmt (slotType d)
    let row (i : Nat) : Nat × BitVec 8 := (List.range 128).foldl (fun x j =>
      let y := scaleTo f (nget 0 t.acc (accKey r.toNat c.toNat i j)).toNat (slotTsc d)
      (x.1 + y.1 <<< (f.bits * j), x.2 ||| y.2)) (0, 0)
    (List.range 64).foldl (fun s i =>
      let x := row i
      let s := tmBytes t.tk 8 (slotBase d + i * slotPitch d) (16 * f.bits) x.1 s
      s.setTile core { s.tile core with flags := (s.tile core).flags ||| x.2 }) s
  | .tcbk n _ => s.setTile core { t with cb := nput t.cb n.toNat k.data }
  | _ => s
/-- A task replaced in, or taken out of, the table. -/
def Tile.setTask (t : Tile) (k : Task) : Tile := { t with table := t.table.map (fun u => if u.num = k.num then k else u) }
/-- A task leaves the table. -/
def Tile.dropTask (t : Tile) (n : Nat) : Tile := { t with table := t.table.filter (fun u => u.num != n) }
/-- `tarrive` acts and retires when it issues (R308): true, or its object's home cannot serve it. -/
def State.taskArrive (s : State) (core : Nat) (k : Task) : Bool × State :=
  let t := s.tile core
  let drop (s : State) : State := s.setTile core (t.dropTask k.num)
  match k.word with
  | .tarriveBarrier b n =>
    match (s.nbar core b.toNat).arrive (n.toNat + 1) with
    | none => (true, (drop s).seqStop core 0x0E6 k.pc 0)
    | some x => (true, (drop s).setNbar core b.toNat x)
  | .tarriveObject _ =>
    let ag := { s.seqAgent core with who := .sender (.task core k.num) }
    let va := slotAova (k.slot 0)
    match s.objectAt ag va with
    | .wait s1 => (false, s1)
    | .bad s2 => (true, (drop (s.leave ag.who)).seqStop core 0x0E5 k.pc va 4 s2)
    | .ok pa s1 =>
      let s2 := ((drop s1).objectUpdate pa 1 t.flags false (some ag.writer)).l1Drop core pa
      (true, s2.setTile core { s2.tile core with flags := 0 })
  | _ => (true, drop s)
/-- The price of a task paid from the sequencer bank (R81, R92, R424). -/
def State.seqPay (s : State) (core price : Nat) : State :=
  let b := s.seqBank core
  (s.setSeqBank core { b with level := b.level - price, spent := b.spent + BitVec.ofNat 64 price })
    |>.tokens (s.seqAgent core).tenant (s.seqAgent core).queue price
/-- A task may be issued: its team is not being saved (R392), and has a live group (R310). -/
def State.seqMayIssue (s : State) (core : Nat) : Bool :=
  let t := s.tile core
  t.owned && !(s.liveGroups t.tk).isEmpty && (s.team t.tk).draining.isNone
/-- The sequencer has had its turn to issue in the present cycle (R84). -/
def State.seqHasActed (s : State) (core : Nat) : Bool := (s.seqBank core).issuedAt == some (s.clockOf core)
/-- The task that a sequencer issues now (R84, R86): in saving the saved one, else the earliest candidate that the bank can pay for;
none when it has had its turn in this cycle. -/
def State.seqPick (s : State) (core : Nat) : Option Task :=
  let t := s.tile core
  let b := s.seqBank core
  if s.seqHasActed core || !s.seqMayIssue core then none
  else
    t.table.find? (fun k => t.candidate k && decide (taskPrice k.word ≤ b.level) &&
      (match b.saving with | some x => x.unit == k.num | none => true))
/-- A task issues (R84, R301, R302) and is paid for: true, or its object's home cannot serve it now. -/
def State.issueTask (s : State) (core : Nat) (k : Task) : Bool × State :=
  let t := s.tile core
  let stamp (s : State) : State := s.setTeam t.tk { s.team t.tk with silent := 0 }
  if isArrive k then
    let (ok, s1) := s.taskArrive core k
    (ok, if ok then (stamp s1).seqPay core (taskPrice k.word) else s1)
  else
    let s := (stamp s).seqPay core (taskPrice k.word)
    let sq := match taskQueue k with | some q => nput t.sq q ((nget [] t.sq q).drop 1) | none => t.sq
    let k := { k with
      issued := true
      entry := match taskQueue k with | some q => (nget [] t.sq q).headD 0 | none => 0
      books := k.slots.map (fun d => nget 0 t.cb (slotBook d))
      data := match k.word with | .tcbk _ o => BitVec.ofNat 256 (s.tmRead t.tk (32 * o.toNat) 32) | _ => 0 }
    (true, s.setTile core { t.setTask k with sq := sq })
/-- The starvation count after a cycle without saving (R85), for the head of the candidates and whether it issues. -/
def starveSeq (head : Option Task) (issues : Bool) (b : Bank) : Bank :=
  match head with
  | none => { b with starve := 0, oldest := none }
  | some h =>
    if issues then { b with starve := 0, oldest := none }
    else if b.oldest.isSome ∧ b.oldest ≠ some h.num then { b with starve := 0, oldest := some h.num }
    else { b with starve := if b.level < taskPrice h.word then min 256 (b.starve + 1) else b.starve, oldest := some h.num }
/-- Entry into saving (R85). -/
def savingSeq (head : Option Task) (b : Bank) : Bank :=
  match head with
  | some h =>
    if b.starve = 256 ∧ b.saving.isNone then
      { b with saving := some { price := taskPrice h.word, unit := h.num, admission := 0, pc := h.pc, mask := 0 } }
    else b
  | none => b
/-- A cycle that began in saving and in which the saved task did not issue (R87, R92): it counts, and a saved task that is gone ends
the saving. -/
def savingTurn (x : Saving) (t : Tile) (b : Bank) : Bank :=
  let b := { b with savcyc := b.savcyc + 1 }
  if t.table.any (fun k => k.num == x.unit) then b else leaveSaving b
/-- A sequencer's turn to issue in a cycle is over (R85-R87, R92): `b` is its bank and `head` its head when the cycle began, `pick` the task
that issued. -/
def State.endTurn (s : State) (core : Nat) (b : Bank) (head pick : Option Task) : State :=
  let t := s.tile core
  let b1 := { s.seqBank core with issuedAt := some (s.clockOf core) }
  match b.saving with
  | some x => s.setSeqBank core (if pick.isSome then leaveSaving b1 else savingTurn x t b1)
  | none =>
    let first := match head, pick with | some h, some p => h.num == p.num | _, _ => false
    let b' := savingSeq head (starveSeq head first b)
    s.setSeqBank core { b1 with starve := b'.starve, oldest := b'.oldest, saving := b'.saving }
/-- The issue stage of a cycle (R84-R87), once in a cycle; a task whose object's home cannot serve it does not issue. -/
def State.seqIssue (s : State) (core : Nat) : State :=
  if s.seqHasActed core then s
  else
    let t := s.tile core
    let head := if s.seqMayIssue core then t.table.find? t.candidate else none
    match s.seqPick core with
    | none => s.endTurn core (s.seqBank core) head none
    | some k =>
      let (ok, s1) := s.issueTask core k
      s1.endTurn core (s.seqBank core) head (if ok then some k else none)
/-- TILE_TASK_ISSUE (R84, R301, R302): the issue stage of the sequencer's cycle, when the task is the one that arbitration picks. -/
def execTileTaskIssue (core : Nat) (n : Nat) (s : State) : Out :=
  match s.seqPick core with
  | none => .next s
  | some k => if k.num = n then .next (s.seqIssue core) else .next s
/-- TILE_TASK_RETIRE (R302): an issued task performs its effects, after every earlier task it conflicts with. -/
def execTileTaskRetire (core : Nat) (n : Nat) (s : State) : Out :=
  let t := s.tile core
  match t.table.find? (fun k => k.num == n) with
  | none => .next s
  | some k =>
    if !k.issued || (t.table.takeWhile (fun u => u.num != n)).any (fun u => conflicts u k) then .next s
    else
      let s := s.taskEffect core k
      .next (s.setTile core ((s.tile core).dropTask n))

end Sys2Proof.Machine
end

