-- ==== Sys2Proof/Machine/Ending.lean ====
section
/-! DEFINITION. How work ends from outside its own instructions: lanes ended by the system (R59, R376, R400, R422), cancelled grids
(R28), the exit step of a cloister (R135), the reports of an ended team (R380, R381) and the completion of a packet (R334). -/

namespace Sys2Proof.Machine

/-! ## Agents without a core -/

/-- The dispatcher's agent for a grid. -/
def State.gridAgent (s : State) (id : BitVec 32) : Agent :=
  let g := s.grid id
  ioAgent g.fn g.pasid g.tenant g.queue (.grid id.toNat)

/-! ## Ending the lanes of a team -/

/-- The first entry of a frontier in the order of R47. -/
def firstEntry : List Entry → Option Entry
  | [] => none
  | e :: r =>
    match firstEntry r with
    | none => some e
    | some f => some (if ahead f e then f else e)
/-- The waiting `pub`s of a group with walks left: they go on without their lanes (R135, R140). -/
def Group.openWalks (g : Group) : List Pend :=
  (g.frontier.filterMap (·.pend)).filter (fun p => p.kind == .pub && !p.walks.isEmpty)
/-- Every live lane of a group ends with a cause: one record for the lanes that were not parked, and for the parked ones too
where the record they wrote does not stand for them (R56, R59, R376). -/
def State.killGroup (cause : Nat) (parkedToo : Bool) (s : State) (gk : Nat) : State :=
  let g := s.group gk
  if !g.live then s
  else
    let h := (s.grid (s.team g.tk).grid).hdr
    let all := g.frontLanes ||| g.parkedLanes
    let told := if parkedToo then all else g.frontLanes
    let pc := match firstEntry g.frontier with
      | some e => e.pc
      | none => match g.parked with | p :: _ => p.pc | [] => 0
    let s := if told = 0 then s
             else s.raise (groupRec s gk { lane := 0, cause := some cause, va := 0, kind := 0, s2 := false, sz := 0 } cause told pc false)
    let g := s.group gk
    s.setGroup gk (endLanes h all { g with faulted := g.faulted ||| all, walks := g.walks ++ g.openWalks })
/-- Every live lane of a resident team ends with a cause. -/
def State.killTeam (s : State) (tk cause : Nat) (parkedToo : Bool) : State :=
  (s.team tk).gks.foldl (State.killGroup cause parkedToo) s

/-! ## The exit step -/

/-- A pool entry (R323). -/
structure PoolEntry where
  /-- Its TENANT. -/
  tenant : Nat
  /-- FIRST. -/
  first : Nat
  /-- COUNT. -/
  count : Nat
  /-- WBASE. -/
  wbase : Nat
  /-- WSTR. -/
  wstr : Nat
deriving DecidableEq, Repr
/-- A pool entry read from its 32 bytes; none when it is not valid (R323). -/
def poolOf (e : BitVec 256) : Option PoolEntry :=
  let x := e.toNat
  let first := x / 2 ^ 16 % 2 ^ 16
  let count := x / 2 ^ 32 % 2 ^ 16
  let wbase := x / 2 ^ 64 % 2 ^ 64
  let wstr := x / 2 ^ 128 % 2 ^ 64
  if x % 2 = 0 ∨ x / 2 % 128 ≠ 0 ∨ x / 2 ^ 14 % 4 ≠ 0 ∨ x / 2 ^ 48 % 2 ^ 16 ≠ 0 ∨ x / 2 ^ 192 ≠ 0 then none
  else if count = 0 ∨ 65536 < first + count ∨ wbase % 65536 ≠ 0 ∨ wstr % 65536 ≠ 0 then none
  else some { tenant := x / 2 ^ 8 % 64, first := first, count := count, wbase := wbase, wstr := wstr }
/-- A pool by number; 64 or more names none (R323). -/
def State.pool (s : State) (i : Nat) : Option PoolEntry := if i < 64 then poolOf (nget 0 s.pools i) else none
/-- Cloister-class lines of an id leave a core's L1 (R133). -/
def State.dropCloister (s : State) (core : Nat) (cid : BitVec 16) : State :=
  let c := s.cache core
  s.setCache core { c with l1 := c.l1.filter (fun l => l.2.cls != .cloister cid) }
/-- A frame becomes discarded in one step (R117, R388): tags, poison and write counters clear, reservations lost. -/
def State.discardFrame (s : State) (f : Nat) : State :=
  let keep (g : Group) : Group := { g with resv := g.resv.filter (fun r => r.2.tm || r.2.granule / 1024 != f) }
  let s : State := { s with groups := s.groups.map (fun g => (g.1, keep g.2)), tags := s.tags.filter (fun t => t.1 / 1024 != f) }
  s.setFrame f { s.frame f with disc := true, poison := [], wcnt := [] }
/-- One line of an unpublished cloister cleared (R135): data and RT 0, code state D, V cleared; it uses up the host's answer to its snoop
(R319). -/
def State.clearLine (s : State) (pa : Nat) : State :=
  if tagP (s.tagOf pa) then s
  else
    let s := (s.undiscard pa).useSnoop pa
    { s with mem := mclear s.mem pa 64, tags := nput s.tags (pa / 64) 0 }
/-- Lines of a frame. -/
def frameLines (f : Nat) : List Nat := (List.range 1024).map (fun i => f * 65536 + 64 * i)
/-- A line of a frame has P = 1. -/
def State.published (s : State) (f : Nat) : Bool := (frameLines f).any (fun pa => tagP (s.tagOf pa))
/-- The exit step on one frame. -/
def State.exitFrame (s : State) (f : Nat) : State :=
  if s.published f then (frameLines f).foldl State.clearLine s else s.discardFrame f
/-- Frames of a cloister's window whose leaf names it, by ascending address. -/
def State.windowFrames (s : State) (fn : Nat) (pasid : BitVec 20) (cid : BitVec 16) (base len : Nat) : List Nat :=
  (List.range (len / 65536)).filterMap (fun i =>
    match s.translate fn pasid (BitVec.ofNat 64 (base + 65536 * i)) with
    | .ok x => if x.cid = some cid ∧ !isHost x.pa then some (x.pa / 65536) else none
    | .error _ => none)
/-- Frames on which the exit step of a team acts. -/
def State.exitFrames (s : State) (t : Team) : List Nat :=
  let g := s.grid t.grid
  match t.cid, s.pool g.pool with
  | some c, some p => s.windowFrames g.fn g.pasid c (p.wbase + (c.toNat - p.first) * p.wstr) p.wstr
  | _, _ => []
/-- The exit step of a team's cloister id (R135): the id is free afterwards, no team holding it. -/
def State.exitStep (s : State) (t : Team) : State := (s.exitFrames t).foldl State.exitFrame s
/-- The exit step at the homes of its frames: it queues while one is busy (R115, R388), and a line that it clears waits for the host's
answer to its snoop (R319). -/
def State.exitAtHome (s : State) (t : Team) : AtHome :=
  let ag := s.senderAgent (.exit t.grid.toNat t.id)
  let fs := s.exitFrames t
  let ls := ((fs.filter s.published).flatMap frameLines).filter (fun pa => !tagP (s.tagOf pa) && s.unsnooped pa)
  match s.places ag (fs.map (· * 65536)) with
  | .wait s1 => .wait s1
  | .ok s1 => if ls.isEmpty then .ok (s1.leave ag.who) else .wait (ls.foldl State.sendSnoop (s1.setAside ag.who false))

/-! ## The end of a team -/

/-- The team-memory reports of an ended team (R380). -/
def State.tmvRecords (s : State) (t : Team) (gs : List Group) : State :=
  gs.foldl (fun s g =>
    if g.faultmask = 0 then s
    else
      let r := s.grid t.grid
      s.raise { FaultRec.reset with
        lanes := g.faultmask, grid := t.grid, team := t.id, group := g.gid, tmv := true, fn := r.fn, pasid := r.pasid
        hdr := r.hdr, tstamp := BitVec.ofNat 22 (s.time / 1024) }) s
/-- A team ended through a fault made fatal (R381). -/
def endedByFault (t : Team) (gs : List Group) : Bool := gs.any (fun g => g.faulted != 0) || t.seqFault
/-- What the dispatcher does for a team that has ended, with its groups, but for the cancelling of descendants: reports,
exit step, and the count of R27. -/
def State.finishTeam (s : State) (t : Team) (gs : List Group) : State :=
  let s := (s.tmvRecords t gs).exitStep t
  let g := s.grid t.grid
  s.setGrid t.grid { g with ended := g.ended + 1, fault := g.fault || endedByFault t gs }

/-! ## Saved teams -/

/-- A record about lanes of a saved group. -/
def savedRec (s : State) (t : Team) (g : Group) (cause : Nat) (lanes : LaneMask) : FaultRec :=
  let r := s.grid t.grid
  { FaultRec.reset with
    pc := (firstEntry g.frontier).map (·.pc), hdr := r.hdr, lanes := lanes, grid := t.grid, team := t.id, group := g.gid,
    cause := cause, fn := r.fn, pasid := r.pasid, tstamp := BitVec.ofNat 22 (s.time / 1024) }
/-- Every live lane of a saved group ends with a cause. -/
def killSavedGroup (g : Group) : Group :=
  { g with faulted := g.faulted ||| g.frontLanes ||| g.parkedLanes, frontier := [], parked := [], landings := [] }
/-- A team that is not resident has ended: it is over at once, or once its exit step can be taken (R27, R135). -/
def State.endTeam (s : State) (t : Team) (gs : List Group) : State :=
  match s.exitAtHome t with
  | .ok s1 => s1.finishTeam t gs
  | .wait s1 => { s1 with exits := s1.exits ++ [({ t with tmem := [] }, gs)] }
/-- A saved team ends without restore (R383, R400): the exit rules apply, and its slot is free. -/
def State.endSaved (s : State) (slot : Nat) : State :=
  let x := nget Saved.reset s.saved slot
  { s with saved := ndel s.saved slot }.endTeam x.team x.groups
/-- Every live lane of a saved team ends with a cause, and the team with them. -/
def State.killSaved (s : State) (cause : Nat) (slot : Nat) (x : Saved) : State :=
  let s := x.groups.foldl (fun s g => if g.frontLanes = 0 then s else s.raise (savedRec s x.team g cause g.frontLanes)) s
  let s := { s with saved := nput s.saved slot { x with groups := x.groups.map killSavedGroup } }
  s.endSaved slot

/-! ## Cancelled grids -/

/-- Live children of some grids. -/
def State.childrenOf (s : State) (ids : List (BitVec 32)) : List (BitVec 32) :=
  (s.grids.filter (fun g => g.2.present && (g.2.parent.any (fun p => ids.contains p.1)))).map (fun g => BitVec.ofNat 32 g.1)
/-- Live descendants, to a depth. -/
def State.descendants (s : State) : Nat → List (BitVec 32) → List (BitVec 32)
  | 0, _ => []
  | n + 1, ids => let cs := s.childrenOf ids; if cs.isEmpty then [] else cs ++ s.descendants n cs
/-- An entry joins the dispatcher's event ring (R398); its content is not stated and is a free value. -/
def State.dispEvent (s : State) : State :=
  { s.hwPush 3 (BitVec.ofNat 512 (Config.freeNat s.free)) with free := s.free + 1 }
/-- One grid is cancelled: it admits no more teams, and its resident teams end (R28); the event is told to firmware (R398). -/
def State.cancelOne (cause : Nat) (s : State) (id : BitVec 32) : State :=
  let s := (s.setGrid id { s.grid id with cancelled := true, fault := true }).dispEvent
  (s.allTeams.filter (fun tk => (s.team tk).grid == id)).foldl (fun s tk => s.killTeam tk cause false) s
/-- Grids are cancelled together (R28), their saved teams ending where they are. -/
def State.cancelAll (s : State) (cause : Nat) (ids : List (BitVec 32)) : State :=
  let s := ids.foldl (State.cancelOne cause) s
  (s.saved.filter (fun x => ids.contains x.2.team.grid)).foldl (fun s x => s.killSaved cause x.1 x.2) s
/-- Live descendants that have not been cancelled of a grid whose team ended through a fault are cancelled (R28). -/
def State.cancelBelow (s : State) (id : BitVec 32) : State :=
  s.cancelAll 0x143 ((s.descendants 11 [id]).filter (fun x => !(s.grid x).cancelled))
/-- Grids are cancelled with a cause; where a saved team ends with them, so are the descendants of its grid (R28, R400). The end of
their resident teams cancels theirs. -/
def State.cancelGrids (s : State) (cause : Nat) (ids : List (BitVec 32)) : State :=
  let hit := (s.saved.map (fun x => x.2.team.grid)).filter ids.contains
  (hit.eraseDups).foldl State.cancelBelow (s.cancelAll cause ids)

/-! ## Completion of packets -/

/-- FLAGS of a packet. -/
def pkFlags (raw : BitVec 512) : Nat := rawField raw 1 1
/-- A packet completes (R333, R334): its record joins those of its ring when it asks for one or its status is not 0. -/
def State.complete (s : State) (aqi : Nat) (e : AqiEntry) (raw : BitVec 512) (status : Nat) (cause : Option Nat)
    (evtag nflt detail : Nat) : State :=
  let t := rawField raw 0 1
  if pkFlags raw % 2 = 0 ∧ status = 0 then s
  else
    let r : CompRec :=
      { time := s.time, seq := rawField raw 8 4, aqi := aqi, type := if 1 ≤ t ∧ t ≤ 7 then t else 0, status := status, evtag := evtag
        cause := match cause with | some c => 0x8000 + c % 512 | none => 0
        nflt := min nflt 0xFFFF, detail := detail % 2 ^ 32, irq := (pkFlags raw).testBit 1 || status == 0x06 }
    let k := e.fn * 16 + e.er
    { s with ringWait := nput s.ringWait k (nget [] s.ringWait k ++ [r]) }
/-- A started packet completes. -/
def State.completeJob (s : State) (n status : Nat) (cause : Option Nat) (evtag nflt detail : Nat) : State :=
  let j := nget Job.reset s.jobs n
  ({ s with jobs := ndel s.jobs n }).complete j.aqi j.entry j.raw status cause evtag nflt detail

end Sys2Proof.Machine
end

