-- ==== Sys2Proof/Machine/Accept.lean ====
section
/-! DEFINITION. Acceptance of a grid (R30-R37): the dispatcher's reads of the launch parameter block and the kernel header, their
checks, and what an accepted grid holds. -/

namespace Sys2Proof.Machine

/-! ## Reads by the dispatcher -/

/-- What a read by a unit of the I/O die or a dispatcher gives. -/
inductive DispRead where
  /-- The bytes. -/
  | ok (x : Nat)
  /-- It fails. -/
  | bad (cause : Nat) (s2 : Bool)
  /-- The home cannot serve it now. -/
  | wait
deriving DecidableEq, Repr
/-- `n` bytes within a line read at their home (R115): a reader that waits keeps its places until it leaves. -/
def State.readPlaces (s : State) (ag : Agent) (va : Dword) (x : Xlat) (n : Nat) : DispRead × State :=
  match s.places ag (s.withNodes ag [va] [x.pa]) with
  | .wait s1 => (.wait, s1)
  | .ok s1 => (.ok (s1.pread x.pa n), s1.fillTlb ag.fn ag.pasid va)
/-- A line is read by the dispatcher, checked by KIND and rights (R369, R385); only the header read is checked against
cloisters (R33, R132). -/
def State.dispRead (s : State) (ag : Agent) (va : Dword) (n kind : Nat) : DispRead × State :=
  match s.access ag.fn ag.pasid va kind false false with
    | .error e => (.bad (class1 kind e.reason) e.s2, s)
    | .ok x => if s.poisoned x.pa then (.bad (class1 kind 7) false, s) else s.readPlaces ag va x n
/-- The header line (R33): an instruction fetch that acts for no team. -/
def State.headerRead (s : State) (ag : Agent) (va : Dword) : DispRead × State :=
  match s.access ag.fn ag.pasid va 3 false false with
    | .error e => (.bad (class1 3 e.reason) e.s2, s)
    | .ok x =>
      let t := s.tagOf x.pa
      if s.poisoned x.pa then (.bad (class1 3 7) false, s)
      else if x.cid.isSome && !tagP t then (.bad 0x080 false, s)
      else
        let r := s.readPlaces ag va x 64
        match r.1, tagCS t with
        | .ok y, 2 => (.ok y, r.2)
        | .ok _, 1 => (.bad 0x090 false, r.2)
        | .ok _, _ => (.bad 0x091 false, r.2)
        | y, _ => (y, r.2)

/-! ## Fields -/

/-- `n` bytes at an offset of a block read as a number. -/
def byteField (x o n : Nat) : Nat := (x >>> (8 * o)) % 256 ^ n
/-- The launch parameter block breaks R36, the conditions on COOP and CLOIS apart. -/
def lpbBad (x : Nat) : Bool :=
  let hdr := BitVec.ofNat 64 (byteField x 0 8)
  let gx := byteField x 8 4
  let gy := byteField x 0xC 4
  let gz := byteField x 0x10 4
  let tg := byteField x 0x14 2
  !canonical hdr || decide (hdr.toNat % 64 ≠ 0) || gx == 0 || gy == 0 || gz == 0 || decide (2 ^ 31 < gx * gy * gz) ||
  tg == 0 || decide (32 < tg) || decide (5 ≤ byteField x 0x16 1) || decide (byteField x 0x20 8 % 16 ≠ 0) ||
  decide (byteField x 0x28 8 % 16 ≠ 0) || decide (byteField x 0x17 1 ≠ 0 ∨ byteField x 0x32 2 ≠ 0 ∨ byteField x 0x3D 67 ≠ 0)
/-- The header breaks R30-R33. -/
def headerBad (x : Nat) : Bool :=
  let res := byteField x 8 4
  let fl := byteField x 0xC 4
  decide (byteField x 0 4 ≠ 0x41584B31) || decide (res % 8 = 7) || decide (64 < res / 2 ^ 6 % 128) ||
  decide (res / 2 ^ 13 % 8 ≠ 0) || decide (512 < res / 2 ^ 16 % 1024) || decide (res / 2 ^ 26 ≠ 0) || decide (fl / 2 ^ 6 ≠ 0) ||
  decide (byteField x 0x10 4 % 16 ≠ 0 ∨ byteField x 0x14 4 % 16 ≠ 0 ∨ byteField x 0x18 40 ≠ 0)
/-- The grid that a block and a header describe (R30-R37); mezzanine service runs every grid at class 3 (R404). -/
def gridOf (mezz : Bool) (lpbva : Dword) (b h : Nat) : Grid :=
  let res := byteField h 8 4
  let fl := byteField h 0xC 4
  let oc := byteField b 0x16 1
  { Grid.reset with
    present := true
    hdr := BitVec.ofNat 64 (byteField b 0 8)
    kid := BitVec.ofNat 32 (byteField h 4 4)
    nv := 8 * (res % 8 + 1)
    ns := 8 * (res / 8 % 8 + 1)
    ld := res / 2 ^ 6 % 128
    tmsize := 1024 * (res / 2 ^ 16 % 1024)
    coop := fl.testBit 0
    clois := fl.testBit 1
    cgen := fl.testBit 2
    entry := byteField h 0x10 4
    tsoff := byteField h 0x14 4
    gx := byteField b 8 4
    gy := byteField b 0xC 4
    gz := byteField b 0x10 4
    tg := byteField b 0x14 2
    cls := if mezz then 3 else if oc ≤ 3 then oc else if fl.testBit 3 then fl / 2 ^ 4 % 4 else 0
    argva := BitVec.ofNat 64 (byteField b 0x18 8)
    lpbva := lpbva
    pmapva := BitVec.ofNat 64 (byteField b 0x20 8)
    doneva := BitVec.ofNat 64 (byteField b 0x28 8)
    pool := byteField b 0x30 2
    evtag := BitVec.ofNat 32 (byteField b 0x34 4) }
/-- Teams of a grid. -/
def Grid.teams (g : Grid) : Nat := g.gx * g.gy * g.gz

/-! ## Quotas and capacity -/

/-- Clusters that mezzanine service leaves (R43, R364). -/
def State.mezzClusters (s : State) : BitVec 20 :=
  match s.mezz with
  | none => 0xFFFFF
  | some d => BitVec.ofNat 20 (31 * 2 ^ (5 * d))
/-- Offset of the hypervisor window in the Atrium (R353). -/
def hypWindow : Nat := 4 * 0x40000 + 0x10000
/-- Quota of a tenant (R366): QMASK, or all clusters when it is 0. -/
def State.quota (s : State) (t : Nat) : BitVec 20 :=
  let q := BitVec.ofNat 20 (mreadN s.atrium (hypWindow + 8 * t) 8)
  (if q = 0 then 0xFFFFF else q) &&& s.mezzClusters
/-- Cluster mask of a tenant (R364); at reset its quota, which the empty quota table makes all clusters. -/
def State.tenantMask (s : State) (t : Nat) : BitVec 20 := nget 0xFFFFF s.masks t &&& s.mezzClusters
/-- Clusters of a mask, lowest first. -/
def clustersOf (m : BitVec 20) : List Nat := (List.range 20).filter (fun c => m.getLsbD c)
/-- `t` teams of TG = 4a + b groups fit quadrants with room for `rs` groups (R22, R23): each team puts a groups on every quadrant
and one more on b neighbouring ones, from a q0 of its own. -/
def spreads (tg : Nat) (rs : List Nat) (t : Nat) : Bool :=
  let left := rs.map (fun r => r - t * (tg / 4))
  let at' (q : Nat) : Nat := left.getD q 0
  rs.all (fun r => decide (t * (tg / 4) ≤ r)) &&
    (match tg % 4 with
     | 0 => true
     | 1 => decide (t ≤ left.sum)
     | 2 => decide (t ≤ at' 0 + at' 2 ∧ t ≤ at' 1 + at' 3)
     | _ => decide ((left.map (fun r => t - r)).sum ≤ t))
/-- The most teams of a size that quadrants with some room hold. -/
def spreadRoom (tg : Nat) (rs : List Nat) : Nat := ((List.range 65).filter (spreads tg rs)).foldl max 0
/-- Teams of a grid that one empty core admits. -/
def coreCapacity (g : Grid) : Nat :=
  let cap := min 16 (512 / g.nv)
  let n := min (spreadRoom g.tg [cap, cap, cap, cap]) (if g.tmsize = 0 then 64 else 524288 / g.tmsize)
  if g.tsoff = 0 then n else min n 1
/-- A conforming block and header break one of the conditions of R36 that read COOP or CLOIS. -/
def State.modesBad (s : State) (tenant : Nat) (g : Grid) : Bool :=
  let pool := (s.pool g.pool).filter (fun p => p.tenant == tenant)
  (g.clois && pool.isNone) ||
  (g.coop && decide ((clustersOf (s.quota tenant)).length * 8 * coreCapacity g < g.teams)) ||
  (g.coop && g.clois && (match pool with | some p => decide (p.count < g.teams) | none => true))

/-! ## The answer -/

/-- What the dispatcher answers to a launch. -/
inductive Accepted where
  /-- The accepted copy, its context not yet filled in. -/
  | ok (g : Grid)
  /-- Refused with the cause of a `launch`, and that of the read that faulted, if one did. -/
  | refused (cause : Nat) (read : Option Nat)
  /-- A home cannot serve a read now. -/
  | wait
deriving DecidableEq, Repr
/-- The answer from the block and the header that have been read. -/
def State.answerTo (s : State) (tenant : Nat) (va : Dword) (b h : Nat) : Accepted :=
  if headerBad h then .refused 0x105 none
  else
    let g := gridOf s.mezz.isSome va b h
    if s.modesBad tenant g then .refused 0x107 none else .ok g
/-- The header of a block is read, and the launch answered. -/
def State.acceptHeader (s : State) (ag : Agent) (va : Dword) (b : Nat) : Accepted × State :=
  if lpbBad b then (.refused 0x107 none, s)
  else
    let r := s.headerRead ag (BitVec.ofNat 64 (byteField b 0 8))
    (match r.1 with
      | .bad c _ => .refused 0x105 (some c)
      | .wait => .wait
      | .ok h => s.answerTo ag.tenant va b h, r.2)
/-- The two lines of the block are read. -/
def State.acceptBlock (s : State) (ag : Agent) (va : Dword) : Accepted × State :=
  if va.toNat % 64 ≠ 0 then (.refused 0x107 none, s)
  else
    let r := s.dispRead ag va 64 6
    match r.1 with
    | .bad c _ => (.refused 0x107 (some c), r.2)
    | .wait => (.wait, r.2)
    | .ok lo =>
      let r := r.2.dispRead ag (va + 64) 64 6
      match r.1 with
      | .bad c _ => (.refused 0x107 (some c), r.2)
      | .wait => (.wait, r.2)
      | .ok hi => r.2.acceptHeader ag va (lo + hi * 2 ^ 512)
/-- GRID_ACCEPT (R33-R37, R275): a dispatcher that must wait for a read keeps its places. -/
def State.accept (s : State) (ag : Agent) (va : Dword) : Accepted × State :=
  let x := s.acceptBlock ag va
  (x.1, if x.1 = .wait then x.2 else x.2.leave ag.who)
/-- The first grid id from a start that no live grid holds; 0xFFFFFFFF is never assigned (R25, R377). -/
def State.freeGridId (s : State) : Nat → Nat → Nat
  | 0, x => x
  | n + 1, x => if (s.grid (BitVec.ofNat 32 x)).present then s.freeGridId n ((x + 1) % 0xFFFFFFFF) else x
/-- The engine that runs ENQ for a tenant (R346, R364): the lowest cluster of its mask, else of its quota. -/
def State.enqEngine (s : State) (t : Nat) : Nat :=
  ((clustersOf (s.tenantMask t)).head?).getD (((clustersOf (s.quota t)).head?).getD 0)
/-- An accepted grid exists: it gets an id, becomes pending, and ENQ is raised for it (R25, R27, R346). -/
def State.addGrid (s : State) (g : Grid) : BitVec 32 × State :=
  let id := BitVec.ofNat 32 (s.freeGridId (s.grids.length + 1) (Config.freeNat s.free % 0xFFFFFFFF))
  let s := { s with free := s.free + 1, gridOrder := s.gridOrder + 1 }
  let s := s.setGrid id { g with since := s.time, order := s.gridOrder }
  let k := s.enqEngine g.tenant
  (id, s.raiseOn k { Raised.reset with point := .enq, tenant := g.tenant, cluster := k, grid := id })

end Sys2Proof.Machine
end

