-- ==== Sys2Proof/Machine/Publish.lean ====
section
/-! DEFINITION. References, walks and code: `ldref`, `stref`, `pub`, `xpub` and the walker (R130, R136-R144). -/

namespace Sys2Proof.Machine

/-- KIND of a reference is not 0 (R130). -/
def badRef (r : Nat) : Bool := decide (r / 2 ^ 57 % 128 ≠ 0)
/-- VA of line `k` of the object of a reference (R130). -/
def refLine (r k : Nat) : Dword := (BitVec.ofNat 57 (r / 64 % 2 ^ 51 * 64)).signExtend 64 + BitVec.ofNat 64 (64 * k)
/-- Lines of the object. -/
def refLines (r : Nat) : Nat := r % 64 + 1

/-! ## ldref and stref -/

/-- What `ldref` asks for: RT lives at the home only, so the read is made there. -/
def ldrefAsk : Ask := { kind := 0, n := 8, cached := false, write := false, tagged := false, noHost := false }
/-- One lane's `ldref`: the word and its RT bit. -/
def State.ldrefLane (s : State) (ag : Agent) (va : Dword) (p : Option (Xlat × Option CacheLine)) :
    (Nat × Bool) × State :=
  match p with
  | none => ((0, false), s)
  | some (x, _) =>
    let s := s.fillTlb ag.fn ag.pasid va
    ((s.pread x.pa 8, (tagRT (s.tagOf x.pa)).getLsbD (x.pa / 8 % 8)), s)
/-- LDREF (R136). -/
def execLdref (c : BitVec 1) (sc : BitVec 3) (o : BitVec 2) (d : BitVec 6) (a : BitVec 6) (s : State) : Out :=
  let s := addFails (s.laneFails ldrefAsk a) s
  let (ok, s) := s.serveLanes ldrefAsk a
  if !ok then .next (finish c s)
  else
    let s0 := s
    let r := (lanesOf s.cur.act).foldl (fun (acc : List (Nat × Nat) × LaneMask × State) l =>
      let (v, s') := acc.2.2.ldrefLane s0.agent (s0.laneAddr a l) (s0.plan s0.agent ldrefAsk (s0.laneAddr a l))
      (acc.1 ++ [(l, v.1)], (if v.2 then acc.2.1 ||| oneLane l else acc.2.1), s')) ([], 0, s)
    let s' := r.2.2
    .next (finish c (if s'.cur.act = 0 then s' else
      ((s'.mapRegs (writeV d s'.cur.act (laneImageOf r.1) r.2.1)).markLoad false d.toNat r.1.length).acquirePart sc o))

/-- A failure recorded with KIND 1 and SZ 3 (R147). -/
def refFail (cause lane : Nat) (va : Dword) : Fail :=
  { lane := lane, cause := some cause, va := va, kind := 1, s2 := false, sz := 3 }
/-- The target is a line of the own cloister that is neither published nor marked (R137). -/
def State.ownOpen (s : State) (ag : Agent) (x : Xlat) : Bool :=
  x.cid.isSome && x.cid == ag.cid && !tagP (s.tagOf x.pa) && !tagV (s.tagOf x.pa)
/-- A line of the object may be referred to from the target (R137). -/
def State.referentOk (s : State) (ag : Agent) (open_ : Bool) (x : Xlat) : Bool :=
  isHost x.pa || x.cid.isNone || tagP (s.tagOf x.pa) || (x.cid == ag.cid && open_)
/-- The lines of an object judged in order: the first failure. They are translated for reading; their faults are raised by
`stref`, whose KIND is 1 (R137, R369). -/
def State.refCheck (s : State) (ag : Agent) (lane r : Nat) (open_ : Bool) : List Nat → Option Fail
  | [] => none
  | k :: ks =>
    let va := refLine r k
    let q := writeAsk 64 false
    match s.access ag.fn ag.pasid va 0 false false with
    | .error e => some (memFail q va lane (class1 1 e.reason, e.s2))
    | .ok x =>
      if s.poisoned x.pa then some (memFail q va lane (class1 1 7, false))
      else if s.referentOk ag open_ x then s.refCheck ag lane r open_ ks
      else some (refFail 0x084 lane va)
/-- What `stref` asks for at its target. -/
def strefAsk : Ask := { kind := 1, n := 8, cached := false, write := true, tagged := false, noHost := false }
/-- The failure of one lane of `stref` (R137). -/
def State.strefFail (s : State) (ag : Agent) (va : Dword) (r lane : Nat) : Option Fail :=
  match s.checkElem ag strefAsk va with
  | .error e => some (memFail strefAsk va lane e)
  | .ok x =>
    if badRef r then some (refFail 0x098 lane 0)
    else s.refCheck ag lane r (s.ownOpen ag x) (List.range (refLines r))
/-- The target lies in an own line that a walk has marked: the store waits before its checks (R128, R137). -/
def State.strefHeld (s : State) (ag : Agent) (va : Dword) : Bool :=
  match s.checkElem ag strefAsk va with
  | .error _ => false
  | .ok x => x.cid.isSome && x.cid == ag.cid && tagV (s.tagOf x.pa)
/-- The object's lines up to the first that cannot be translated: VA and PA. -/
def State.objectLines (s : State) (ag : Agent) (r : Nat) : List Nat → List (Dword × Nat)
  | [] => []
  | k :: ks =>
    match s.access ag.fn ag.pasid (refLine r k) 0 false false with
    | .error _ => []
    | .ok x => (refLine r k, x.pa) :: s.objectLines ag r ks
/-- The lines of the objects of a `stref`, host memory left out, and what their translations read. -/
def State.refPAs (s : State) (d : BitVec 6) : List Nat :=
  let xs := (lanesOf s.cur.act).flatMap (fun l =>
    let r := (laneVal (s.opnd d 64) l).toNat
    if badRef r then [] else s.objectLines s.agent r (List.range (refLines r)))
  s.withNodes s.agent (pageFirsts (xs.map (·.1))) ((xs.map (·.2)).filter (fun pa => !isHost pa))
/-- The writes of a `stref`: each sets an RT bit. -/
def State.strefWrites (s : State) (es : List (Ask × Dword)) : HomeWrites :=
  (s.homeAccesses s.agent es).map (fun x => (x.2.2.pa, s.vBlocked x.2.2.pa 8 true))
/-- The homes serve the lines of the objects and the targets of a `stref`: true, or the word must wait. -/
def State.serveStref (s : State) (d a : BitVec 6) : Bool × State :=
  let es := (lanesOf s.cur.act).map (fun l => (strefAsk, s.laneAddr a l))
  if !s.cur.serves then (true, s)
  else
    let (ok, t) := s.serveLines s.agent false (s.cur.wpc.toNat + 1) (s.refPAs d)
    if ok then t.serveThen es (fun t => t.strefWrites es) else (false, t.block .home)
/-- One lane's `stref`: the reference is written with RT = 1. -/
def State.strefLane (s : State) (ag : Agent) (va : Dword) (r : Nat)
    (p : Option (Xlat × Option CacheLine)) : State :=
  match p with
  | none => s
  | some (x, _) =>
    let s := s.fillTlb ag.fn ag.pasid va
    ((s.useSnoop x.pa).pwrite x.pa 8 r true (some ag.writer)).l1Update ag.core x.pa 8 r
/-- STREF (R137): only the release part of its OR acts, and every earlier access of the model is performed. -/
def execStref (c : BitVec 1) (_sc : BitVec 3) (_o : BitVec 2) (d : BitVec 6) (a : BitVec 6) (s : State) : Out :=
  let img := s.opnd d 64
  if (lanesOf s.cur.act).any (fun l => s.strefHeld s.agent (s.laneAddr a l)) then
    .next (finish c ((s.setAside .port true).block .home))
  else
    let s := addFails ((lanesOf s.cur.act).filterMap (fun l =>
      s.strefFail s.agent (s.laneAddr a l) (laneVal img l).toNat l)) s
    let (ok, s) := s.serveStref d a
    let s0 := s
    .next (finish c (if !ok then s else (lanesOf s.cur.act).foldl (fun s l => s.strefLane s0.agent (s0.laneAddr a l) (laneVal img l).toNat
      (s0.plan s0.agent strefAsk (s0.laneAddr a l))) s))

/-! ## pub and the walker -/

/-- What `pub` asks for at its target (R138 step 1, R253). -/
def pubAsk : Ask := { kind := 1, n := 8, cached := false, write := true, tagged := false, noHost := true }
/-- The failure of one lane of `pub` in step 1. -/
def State.pubFail (s : State) (ag : Agent) (va : Dword) (r lane : Nat) : Option Fail :=
  match s.checkElem ag pubAsk va with
  | .error e => some (memFail pubAsk va lane e)
  | .ok _ => if badRef r then some (refFail 0x098 lane 0) else none
/-- PUB (R138, R259): its walks are asked for, and the bundle waits until each has stored or failed. -/
def execPub (c : BitVec 1) (_sc : BitVec 3) (d : BitVec 6) (a : BitVec 6) (s : State) : Out :=
  if s.cur.walked then .next (finish c (addFails s.cur.walkFails s))
  else
    let img := s.opnd d 64
    let fs := (lanesOf s.cur.act).filterMap (fun l => s.pubFail s.agent (s.laneAddr a l) (laneVal img l).toNat l)
    let s := addFails fs s
    if s.cur.act = 0 then .next (finish c s)
    else
      let ws := (lanesOf s.cur.act).map (fun l => (l, s.laneAddr a l, laneVal img l))
      .next (finish c ((s.mapCur (fun c => { c with walks := ws, walkFails := fs })).block .pub))

/-- How a traversal ends. -/
inductive WalkEnd where
  /-- It reached the end of its queue. -/
  | done
  /-- It failed with a cause and a VA. -/
  | fail (cause : Nat) (va : Dword) (s2 : Bool)
  /-- A home cannot serve a line now. -/
  | blocked
deriving DecidableEq, Repr
/-- The words of a line whose RT bits are set, with their VAs. -/
def State.taggedWords (s : State) (pa : Nat) (va : Dword) : List (Nat × Dword) :=
  ((List.range 8).filter (fun w => (tagRT (s.tagOf pa)).getLsbD w)).map
    (fun w => (s.pread (pa / 64 * 64 + 8 * w) 8, va + BitVec.ofNat 64 (8 * w)))
/-- V of a line set or cleared, P set on a seal. -/
def markTag (t : BitVec 16) (v p : Bool) : BitVec 16 :=
  (if v then t ||| 0x0800 else t &&& ~~~0x0800#16) ||| (if p then 0x0100 else 0)
/-- One line access of a walk at its home (R89, R115, R140), with the table nodes that its translation reads: `i` is its number in the
walk, the Trace having the even ones. -/
def State.walkLine (s : State) (ag : Agent) (i : Nat) (va : Dword) (pa : Nat) : Bool × State :=
  let (ok, s) := s.serveLines ag false i (s.withNodes ag [va] [pa])
  (ok, if ok then s.fillTlb ag.fn ag.pasid va else s)
/-- Trace of one object's lines (R138): the queue grows by the references found; whether a line was marked. `v` lines of the walk
come before. -/
def traceLines (ag : Agent) (r v : Nat) : List Nat → State → List (Nat × Dword) → Bool →
    WalkEnd × State × List (Nat × Dword) × Bool
  | [], s, q, m => (.done, s, q, m)
  | k :: ks, s, q, m =>
    let va := refLine r k
    match s.access ag.fn ag.pasid va 0 false false with
    | .error e => (.fail 0x08A va e.s2, s, q, m)
    | .ok x =>
      if s.poisoned x.pa then (.fail 0x08A va false, s, q, m)
      else
        match s.walkLine ag (2 * (v + k)) va x.pa with
        | (false, s) => (.blocked, s, q, m)
        | (true, s) =>
          let t := s.tagOf x.pa
          if isHost x.pa || x.cid.isNone || tagP t || tagV t then traceLines ag r v ks s q m
          else if x.cid != ag.cid then (.fail 0x089 va false, s, q, m)
          else traceLines ag r v ks (s.setTag x.pa (markTag t true false)) (q ++ s.taggedWords x.pa va) true
/-- Trace (R138), breadth-first; each entry of the queue is a reference with the VA of the word that held it. The fuel
exceeds every traversal: 65,536 marked objects of 64 lines hold 8 words a line. -/
def traceWalk (ag : Agent) : Nat → List (Nat × Dword) → Nat → Nat → State → WalkEnd × State × Nat
  | 0, _, _, n, s => (.done, s, n)
  | _ + 1, [], _, n, s => (.done, s, n)
  | fuel + 1, (r, src) :: q, v, n, s =>
    if badRef r then (.fail 0x098 src false, s, n)
    else
      match traceLines ag r v (List.range (refLines r)) s q false with
      | (.done, s, q, m) =>
        let n := if m then n + 1 else n
        if n > 65536 then (.fail 0x088 0 false, s, n) else traceWalk ag fuel q (v + refLines r) n s
      | (e, s, _, _) => (e, s, n)
/-- Seal of one object's lines, or their unmarking when `publish` is false: whether the homes served them, and the VA of the first
poisoned line met (R375), which keeps V and after which the walk, failing, publishes no line (log 161). -/
def sealLines (ag : Agent) (publish : Bool) (r v : Nat) :
    List Nat → State → List Nat → Option Dword → Bool × State × List Nat × Option Dword
  | [], s, q, bad => (true, s, q, bad)
  | k :: ks, s, q, bad =>
    match s.access ag.fn ag.pasid (refLine r k) 0 false false with
    | .error _ => sealLines ag publish r v ks s q bad
    | .ok x =>
      if s.poisoned x.pa then sealLines ag publish r v ks s q (bad.or (some (refLine r k)))
      else
        match s.walkLine ag (2 * (v + k) + 1) (refLine r k) x.pa with
        | (false, s) => (false, s, q, bad)
        | (true, s) =>
          let t := s.tagOf x.pa
          if isHost x.pa || !tagV t then sealLines ag publish r v ks s q bad
          else
            let ws := (s.taggedWords x.pa 0).map (·.1)
            sealLines ag publish r v ks ((s.setTag x.pa (markTag t false (publish && bad.isNone))).l1Drop ag.core x.pa) (q ++ ws) bad
/-- The Seal traversal (R138): whether the homes served it, and the first poisoned line met. -/
def sealWalk (ag : Agent) (publish : Bool) : Nat → List Nat → Nat → State → Option Dword → Bool × State × Option Dword
  | 0, _, _, s, bad => (true, s, bad)
  | _ + 1, [], _, s, bad => (true, s, bad)
  | fuel + 1, r :: q, v, s, bad =>
    match sealLines ag publish r v (List.range (refLines r)) s q bad with
    | (false, s, _, bad) => (false, s, bad)
    | (true, s, q, bad) => sealWalk ag publish fuel q (v + refLines r) s bad
/-- Entries that one walk can take from its queue. -/
def walkFuel : Nat := 2 ^ 26
/-- The service of a walk is over: the next access asks anew. -/
def State.newService (s : State) : State := s.mapCur (fun c => { c with svc := Svc.reset })
/-- The Trace of a walk (R138). -/
def State.walkTrace (s : State) (ag : Agent) (lane : Nat) (root : Dword) : WalkStage × State :=
  match traceWalk ag walkFuel [(root.toNat, 0)] 0 0 s with
  | (.blocked, s1, _) => (.start, s.keepService s1)
  | (.fail c va s2, s1, n) => (.traced n (some { refFail c lane va with s2 := s2 }), s1.newService)
  | (.done, s1, n) => (.traced n none, s1.newService)
/-- The Seal of a walk, or the unmarking after a failure (R138); one that meets a poisoned line fails (R375). -/
def State.walkSeal (s : State) (ag : Agent) (lane : Nat) (root : Dword) (n : Nat) (f : Option Fail) : WalkStage × State :=
  match sealWalk ag f.isNone walkFuel [root.toNat] 0 s none with
  | (false, s1, _) => (.traced n f, s.keepService s1)
  | (true, s1, bad) =>
    (match f.or (bad.map (refFail 0x08A lane)) with | none => .sealed | some f => .ended (some f),
     (s1.tally ag.tenant 5 n).newService)
/-- The store of a walk (R138): the reference with RT = 1. -/
def State.walkStore (s : State) (ag : Agent) (lane : Nat) (tgt root : Dword) : WalkStage × State :=
  match s.checkElem ag pubAsk tgt with
  | .error e => (.ended (some (memFail pubAsk tgt lane e)), s.newService)
  | .ok x =>
    match s.walkLine ag 0 tgt x.pa with
    | (false, s) => (.sealed, s)
    | (true, s) =>
      if s.writeBlocked x.pa 8 true then (.sealed, (s.setAside ag.who (s.vBlocked x.pa 8 true)).sendSnoop x.pa)
      else (.ended none, (((s.useSnoop x.pa).pwrite x.pa 8 root.toNat true
        (some ag.writer)).l1Drop ag.core x.pa).newService)
/-- One stage of a lane's walk (R138); while a home cannot serve it, the stage stays. -/
def State.walkStep (s : State) (ag : Agent) (w : Nat × Dword × Dword) : WalkStage → WalkStage × State
  | .start => s.walkTrace ag w.1 w.2.2
  | .traced n f => s.walkSeal ag w.1 w.2.2 n f
  | .sealed => s.walkStore ag w.1 w.2.1 w.2.2
  | .ended f => (.ended f, s)
/-- `n` stages of a lane's walk. -/
def State.walkOn (ag : Agent) (w : Nat × Dword × Dword) : Nat → WalkStage → State → WalkStage × State
  | 0, g, s => (g, s)
  | n + 1, g, s =>
    let (g, s) := s.walkStep ag w g
    State.walkOn ag w n g s
/-! ## Code -/

/-- The instruction caches of the cores of a scope are stepped: IGD, then IGV (R143). -/
def Caches.codeStep (c : Caches) : Caches :=
  let c := { c with igd := c.igd + 1, ic := if c.igd = 15 then c.ic.filter (fun l => l.2.cls != FillClass.die) else c.ic }
  { c with igv := c.igv + 1, ic := if c.igv = 15 then c.ic.filter (fun l => l.2.cls != FillClass.device) else c.ic }
/-- Cores whose instruction caches a scope steps (R143). -/
def scopeCores (core sc : Nat) : List Nat :=
  if sc < 2 then [core]
  else if sc = 2 then (List.range 40).map (fun i => dieOf core * 40 + i)
  else List.range 160
/-- The step of R143. -/
def State.codeStep (s : State) (cores : List Nat) : State :=
  cores.foldl (fun s c => s.setCache c (s.cache c).codeStep) s
/-- First step of `xpub` on one line: D becomes T (R142). -/
def State.toTransit (s : State) (pa : Nat) : State :=
  if isHost pa then s
  else if tagCS (s.tagOf pa) = 0 then s.setTag pa (setCS (s.tagOf pa) 1) else s
/-- Last step of `xpub` on one line: T becomes X. -/
def State.toCode (s : State) (pa : Nat) : State :=
  if isHost pa then s
  else if tagCS (s.tagOf pa) = 1 then s.setTag pa (setCS (s.tagOf pa) 2) else s
/-- The lines of a publication of code in order, up to the first failure: PAs found in D or T, lines counted, failure
(R144, R331). -/
def publishLines (ag : Agent) (kind : Nat) : List Dword → State → List Nat → Nat → State × List Nat × Nat × Option (Dword × Nat × Bool)
  | [], s, ps, n => (s, ps, n, none)
  | va :: r, s, ps, n =>
    match s.access ag.fn ag.pasid va kind true false with
    | .error e => (s, ps, n, some (va, class1 kind e.reason, e.s2))
    | .ok x =>
      let q : Ask := { kind := kind, n := 64, cached := false, write := true, tagged := false, noHost := false }
      if s.poisoned x.pa then (s, ps, n, some (va, class1 kind 7, false))
      else
        match s.escape ag x q with
        | some c => (s, ps, n, some (va, c, false))
        | none =>
          let found := !isHost x.pa && decide (tagCS (s.tagOf x.pa) ≠ 2)
          publishLines ag kind r (s.toTransit x.pa) (if found then ps ++ [x.pa] else ps) (n + 1)
/-- The VAs of the 64-byte lines of a range. -/
def lineVas (base : Dword) (len : Nat) : List Dword := (List.range (len / 64)).map (fun i => base + BitVec.ofNat 64 (64 * i))
/-- The range of an `xpub` is not usable (R144). -/
def xpubRangeBad (base len : Dword) : Bool :=
  decide (base.toNat % 64 ≠ 0 ∨ len.toNat % 64 ≠ 0 ∨ len = 0 ∨ 0x100000 < len.toNat) || !canonical (base + len - 1)
/-- The PAs of the lines of a range up to the first that cannot be translated. -/
def State.rangeLines (s : State) (ag : Agent) (kind : Nat) : List Dword → List Nat
  | [] => []
  | va :: r =>
    match s.access ag.fn ag.pasid va kind true false with
    | .error _ => []
    | .ok x => x.pa :: s.rangeLines ag kind r
/-- Those PAs and what their translations read. -/
def State.rangePAs (s : State) (ag : Agent) (kind : Nat) (vas : List Dword) : List Nat :=
  let pas := s.rangeLines ag kind vas
  s.withNodes ag (pageFirsts (vas.take pas.length)) pas
/-- A failure of `xpub` (R144, R369). -/
def xpubFail (cause lane : Nat) : Fail := { failOf cause lane with kind := 1 }
/-- XPUB (R144): once for its entry; the code steps happen even when a line stops it and its lanes have failed for it. -/
def execXpub (c : BitVec 1) (sc : BitVec 3) (d : BitVec 6) (a : BitVec 6) (s : State) : Out :=
  let base := s.sreg d
  let len := s.sreg a
  let all (f : Nat → Fail) : List Fail := (lanesOf s.cur.act).map f
  if s.cur.act = 0 && !s.cur.fails.any (fun f => f.kind == 1 && f.sz == 6) then .next (finish c s)
  else if !s.cgrid.cgen then .next (finish c (addFails (all (xpubFail 0x092)) s))
  else if xpubRangeBad base len then .next (finish c (addFails (all (xpubFail 0x093)) s))
  else
    let ag := s.agent
    let vas := lineVas base len.toNat
    let (ok, s) := if s.cur.serves then s.serveLines ag false s.cur.wpc.toNat (s.rangePAs ag 1 vas) else (true, s)
    if !ok then .next (finish c (s.block .home))
    else
      let (s1, ps, n, bad) := publishLines ag 1 vas s [] 0
      let fs := match bad with
        | some (va, cause, s2) => all (fun l => { lane := l, cause := some cause, va := va, kind := 1, s2 := s2, sz := 6 })
        | none => []
      if s.cur.dry then .next (finish c (addFails fs s))
      else
        let s2 := (ps.foldl State.toCode (s1.codeStep (scopeCores ag.core sc.toNat))).tally ag.tenant 6 n
        .next (finish c (addFails fs s2))

end Sys2Proof.Machine
end

