-- ==== Sys2Proof/Machine/Context.lean ====
section
/-! DEFINITION. The context image of a saved team (R390, R391): its bytes, how they are written to a slot (R392), and what a restore
reads back from them (R393). The places of the values of the sequencer region are the model's (log 58). -/

namespace Sys2Proof.Machine

/-! ## Fields -/

/-- Physical address of a context slot (R387, R390). -/
def State.slotPA (s : State) (slot : Nat) : Nat := (s.reg 0 0x2080).toNat / 2 ^ 21 % 2 ^ 31 * 2 ^ 21 + slot * 2 ^ 21
/-- Numbers placed at byte offsets. -/
abbrev Fields := List (Nat × Nat × Nat)
/-- The 16-byte loop context of R63 at a PC. -/
def loopContext (pc : Dword) (ls : List LoopLevel) : Nat :=
  ((ls.zipIdx.take 3).map (fun x =>
    (1 + 2 * (x.1.lc % 4) + 2 ^ 3 * (x.1.len % 256) + 2 ^ 11 * ((pc - x.1.first).toNat / 4 % 256)) * 2 ^ (19 * x.2))).sum
/-- The image of a vector register of a group: landing registers carry the landings (R52). -/
def vregImage (g : Grid) (x : Group) (v : Nat) : Nat :=
  let ls (o : Nat) : Nat := (landingImage x.landings o).toNat
  if v = 55 ∧ g.ld ≠ 0 then ls 0 else if v = 53 ∧ 32 < g.ld then ls 32 else (nget 0 x.regs.v v).toNat
/-- Backed vector registers of a grid in name order (R20). -/
def backedRegs (g : Grid) : List Nat :=
  if 32 < g.ld then List.range (g.nv - 3) ++ [53, 54, 55] else List.range (g.nv - 2) ++ [54, 55]
/-- The four words of a fault record (R377). -/
def recordWords (r : FaultRec) : Nat :=
  let d := match r.pc with | some pc => (pc - r.hdr).sshiftRight 2 | none => 0
  let out := !(d == (d.setWidth 30).signExtend 64)
  let k := r.cause / 64 == 1 || r.cause / 64 == 2 || r.cause == 0x0C8
  let w0 := r.va.toNat % 2 ^ 57 + (if k then r.kind % 8 else 0) * 2 ^ 57 + (if r.s2 then 2 ^ 60 else 0) + r.sz % 8 * 2 ^ 61
  let w1 := (if out then 2 ^ 30 else (d.setWidth 30).toNat) + (if r.park then 2 ^ 31 else 0) + r.lanes.toNat * 2 ^ 32
  let w2 := r.grid.toNat + r.team % 2 ^ 31 * 2 ^ 32
  let w3 := r.group % 64 + r.cause % 512 * 2 ^ 6 + (if r.tmv then 2 ^ 15 else 0) + r.fn % 64 * 2 ^ 16 + r.pasid.toNat * 2 ^ 22 +
    r.tstamp.toNat * 2 ^ 42
  w0 + w1 * 2 ^ 64 + w2 * 2 ^ 128 + w3 * 2 ^ 192
/-- The group record of a context image (R391). -/
def groupFields (x : Group) : Fields :=
  let lc (m : NMap Dword) : Nat := ((List.range 3).map (fun i => (nget 0 m i).toNat * 2 ^ (64 * i))).sum
  let own := match x.frontier.find? (·.owner) with | some e => loopContext e.pc x.loops | none => 0
  (x.frontier.zipIdx.map (fun e => (16 * e.2, 16,
    e.1.mask.toNat + e.1.prio.toNat * 2 ^ 32 + (if e.1.barWait then 2 ^ 44 else 0) + (if e.1.owner then 2 ^ 45 else 0) +
      e.1.pc.toNat * 2 ^ 64))) ++
  (x.parked.zipIdx.map (fun p => (0x200 + 96 * p.2, 96,
    p.1.mask.toNat + p.1.prio.toNat * 2 ^ 32 + p.1.pc.toNat * 2 ^ 64 + lc p.1.lc * 2 ^ 128 +
      (match p.1.base with | some b => b.val.toNat | none => 0) * 2 ^ 320 + loopContext p.1.pc p.1.loops * 2 ^ 384 +
      recordWords p.1.record * 2 ^ 512))) ++
  (List.range 64).map (fun i => (0xE00 + 8 * i, 8, (nget 0 x.regs.s i).toNat)) ++
  (List.range 56).map (fun i => (0x1000 + 4 * i, 4, (nget 0 x.regs.vtags i).toNat)) ++
  [(0x10E0, 8, x.regs.stags.toNat)] ++
  (List.range 16).map (fun i => (0x1100 + 4 * i, 4, (nget 0 x.regs.p i).toNat)) ++
  (List.range 8).map (fun i => (0x1140 + 8 * i, 8, (nget 0 x.regs.m i).toNat)) ++
  [(0x1180, 24, lc x.regs.lc), (0x11A0, 8, x.regs.fpc.toNat), (0x11A8, 8, x.regs.nflags.toNat), (0x11B0, 8, x.regs.seed.toNat),
   (0x11B8, 8, x.faultmask.toNat), (0x11C0, 16, own)]
/-- The accepted RES word (R31, R391). -/
def resWord (g : Grid) : Nat := (g.nv / 8 - 1) + (g.ns / 8 - 1) * 8 + g.ld * 2 ^ 6 + g.tmsize / 1024 * 2 ^ 16
/-! ## The sequencer region -/

/-- The word of a task (R303). -/
def TileOp.word : TileOp → Word
  | .tmma a b r c i k => wordTmma 0x38200000 a b r c i k
  | .tmmas a b r c i q k => wordTmmas 0x38400000 a b r c i q k
  | .tzero r c => wordTzero 0x38600000 r c
  | .tscale n r c => wordTscale 0x38800000 n r c
  | .tcvt n r c => wordTscale 0x38A00000 n r c
  | .tacc n r c => wordTscale 0x38C00000 n r c
  | .tarriveBarrier k n => wordTarriveBarrier 0x39000000 k n
  | .tarriveObject n => wordTarriveObject 0x39100000 n
  | .tcbk n o => wordTcbk 0x39600000 n o
/-- The task that a word stands for. -/
def taskOf (w : Word) : TileOp :=
  match (fld w 21 5).toNat with
  | 1 => .tmma (fld w 16 5) (fld w 11 5) (fld w 9 2) (fld w 7 2) (fld w 6 1) (fld w 0 6)
  | 2 => .tmmas (fld w 16 5) (fld w 11 5) (fld w 9 2) (fld w 7 2) (fld w 6 1) (fld w 4 2) (fld w 0 4)
  | 3 => .tzero (fld w 9 2) (fld w 7 2)
  | 4 => .tscale (fld w 16 5) (fld w 9 2) (fld w 7 2)
  | 5 => .tcvt (fld w 16 5) (fld w 9 2) (fld w 7 2)
  | 6 => .tacc (fld w 16 5) (fld w 9 2) (fld w 7 2)
  | 8 => if fld w 20 1 = 0 then .tarriveBarrier (fld w 16 4) (fld w 11 5) else .tarriveObject (fld w 15 5)
  | _ => .tcbk (fld w 18 3) (fld w 0 14)
/-- A sequencer's run state as its image holds it. -/
def SeqRun.code : SeqRun → Nat
  | .fetching => 0 | .stalled => 1 | .ended => 2 | .stopped => 3
/-- The run state of a code. -/
def runOf (n : Nat) : SeqRun := match n % 4 with | 0 => .fetching | 1 => .stalled | 2 => .ended | _ => .stopped
/-- A numbered barrier in 8 bytes. -/
def NBar.word (b : NBar) : Nat := b.gen.toNat + b.arr * 2 ^ 16 + b.cnt * 2 ^ 32 + (if b.cv then 2 ^ 48 else 0) + (if b.brk then 2 ^ 49 else 0)
/-- The barrier of 8 bytes. -/
def nbarOf (x : Nat) : NBar :=
  { gen := BitVec.ofNat 16 x, arr := x / 2 ^ 16 % 2 ^ 16, cnt := x / 2 ^ 32 % 2 ^ 16, cv := x.testBit 48, brk := x.testBit 49 }
/-- The sequencer region of a tile sequencer without issued tasks: where each value lies is the model's choice (log 58). -/
def seqFields (t : Tile) : Fields :=
  [(0, 8, t.pc.toNat), (8, 1, t.run.code), (9, 1, t.flags.toNat), (12, 4, t.bound.toNat), (16, 8, t.next), (25, 1, t.table.length)] ++
  (match t.loop with
   | none => []
   | some l => [(24, 1, 1), (32, 8, l.first.toNat), (40, 4, l.len), (44, 4, l.count), (48, 4, l.pass)]) ++
  (List.range 4).map (fun q => (56 + q, 1, (nget [] t.sq q).length)) ++
  (List.range 16).map (fun k => (0x80 + 8 * k, 8, (nget NBar.reset t.nb k).word)) ++
  (List.range 32).map (fun n => (0x400 + 32 * n, 32, (nget 0 t.slots n).toNat)) ++
  (List.range 8).map (fun n => (0x800 + 32 * n, 32, (nget 0 t.cb n).toNat)) ++
  (t.table.zipIdx.flatMap (fun k =>
    let o := 0x1000 + 128 * k.2
    [(o, 8, k.1.num), (o + 8, 8, k.1.pc.toNat), (o + 16, 4, k.1.word.word.toNat), (o + 20, 4, k.1.pass), (o + 24, 1, k.1.slots.length),
     (o + 25, 1, (k.1.ready.zipIdx.map (fun r => r.1.toNat * 2 ^ r.2)).sum), (o + 26, 1, k.1.ready.length)] ++
    k.1.slots.zipIdx.map (fun d => (o + 32 + 32 * d.2, 32, d.1.toNat)))) ++
  (List.range 4).flatMap (fun q => (nget [] t.sq q).zipIdx.map (fun e => (0x8000 + 0x1000 * q + 512 * e.2, 512, e.1.toNat)))

/-! ## The whole image -/

/-- The image of a saved team (R391). The bytes of the reply marks, whose coding the spec does not give, are free values. -/
def imageFields (g : Grid) (x : Saved) (free : Nat) : Fields :=
  let t := x.team
  let cid := match t.cid with | some c => c.toNat + 2 ^ 16 | none => 0
  [(0, 4, t.grid.toNat), (4, 4, t.id), (8, 8, g.hdr.toNat), (16, 4, resWord g), (20, 2, g.tg), (22, 1, t.q0),
   (23, 1, if g.tsoff = 0 then 0 else 3), (24, 8, cid), (32, 2, t.phase.toNat), (34, 30, Config.freeNat free)] ++
  x.groups.flatMap (fun y =>
    ((groupFields y).map (fun f => (0x1000 + 0x2000 * y.gid + f.1, f.2))) ++
    ((backedRegs g).zipIdx.map (fun v => (0x80000 + 0x3800 * y.gid + 256 * v.2, 256, vregImage g y v.1)))) ++
  (t.tmem.map (fun c => (0x100000 + c.1, 1, c.2.toNat))) ++
  (match x.tile with
   | none => []
   | some tile => (tile.acc.map (fun e => (0x180000 + 4 * e.1, 4, e.2.toNat))) ++ (seqFields tile).map (fun f => (0x1C0000 + f.1, f.2)))
/-- A line lies in the slot at a base. -/
def inSlot (base line : Nat) : Bool := decide (base ≤ 64 * line ∧ 64 * line < base + 2 ^ 21)
/-- A frame of a slot is written whole: it is discarded no longer, and no line of it is poisoned (R117, R375, log 90). -/
def State.slotFrame (s : State) (pa : Nat) : State :=
  let s := s.undiscard pa
  let f := s.frame (pa / 65536)
  if f.poison.isEmpty then s else s.setFrame (pa / 65536) { f with poison := [] }
/-- A context slot is written by PA (R390): the bytes of the image, all others 0, as a write with RT = 0 at every home. -/
def State.writeSlot (s : State) (base : Nat) (fs : Fields) : State :=
  let s := (List.range 32).foldl (fun (s : State) i => s.slotFrame (base + 65536 * i)) s
  let mem := fs.foldl (fun m f => mwriteN m (base + f.1) f.2.1 f.2.2) (mclear s.mem base (2 ^ 21))
  let keep (g : Group) : Group := { g with resv := g.resv.filter (fun r => r.2.tm || !inSlot base r.2.granule) }
  { s with mem := mem, tags := s.tags.map (fun t => if inSlot base t.1 then (t.1, setCS (t.2 &&& 0xFF00#16) 0) else t)
           groups := s.groups.map (fun g => (g.1, keep g.2)), bisnp := s.bisnp.filter (fun b => !inSlot base b.1) }
/-- Frames of a slot. -/
def slotFrames (base : Nat) : List Nat := (List.range 32).map (fun i => base / 65536 + i)
/-- Lines of a slot whose frame the host has cached; a write to one waits for its snoop (R319). -/
def State.slotSnooped (s : State) (base : Nat) : List Nat :=
  ((slotFrames base).filter (fun f => (s.frame f).hostCached)).flatMap (fun f => (List.range 1024).map (fun i => f * 65536 + 64 * i))
/-- A line of a slot has V = 1 and RT bits that the write of the slot would clear (R128). -/
def State.slotBlocked (s : State) (base : Nat) : Bool :=
  s.tags.any (fun t => inSlot base t.1 && tagV (s.tagOf (t.1 * 64)) && tagRT (s.tagOf (t.1 * 64)) != 0)
/-- The write of a slot at its homes: it queues while a frame is busy, and waits for V and for the host (R115, R128, R319). -/
def State.slotAtHome (s : State) (slot : Nat) : AtHome :=
  let base := s.slotPA slot
  let ag := s.senderAgent (.image slot)
  match s.places ag ((slotFrames base).map (· * 65536)) with
  | .wait s1 => .wait s1
  | .ok s1 =>
    let ls := (s1.slotSnooped base).filter s1.unsnooped
    if s1.slotBlocked base then .wait (ls.foldl State.sendSnoop (s1.setAside ag.who true))
    else if ls.isEmpty then .ok (s1.leave ag.who)
    else .wait (ls.foldl State.sendSnoop (s1.setAside ag.who false))

/-! ## What a restore reads -/

/-- The listed bytes of `n` from an address, as a byte memory of its own. -/
def State.cellsAt (s : State) (a n : Nat) : List Host.Cell :=
  (s.mem.filter (fun c => decide (a ≤ c.1 ∧ c.1 < a + n) && !(s.frame (c.1 / 65536)).disc)).map (fun c => (c.1 - a, c.2))
/-- A table of the values that are not 0. -/
def tableOf (w : Nat) (l : List (Nat × Nat)) : NMap (BitVec w) :=
  l.filterMap (fun x => if x.2 = 0 then none else some (x.1, BitVec.ofNat w x.2))
/-- A loop context (R63) at a PC. -/
def loopsOf (pc : Dword) (x : Nat) : List LoopLevel :=
  (List.range 3).filterMap (fun i =>
    let y := x / 2 ^ (19 * i) % 2 ^ 19
    if y % 2 = 0 then none
    else some { lc := y / 2 % 4, len := y / 8 % 256, first := pc - BitVec.ofNat 64 (4 * (y / 2 ^ 11)) })
/-- lc0-lc2 of 24 bytes. -/
def countersOf (x : Nat) : NMap Dword := tableOf 64 ((List.range 3).map (fun i => (i, x / 2 ^ (64 * i) % 2 ^ 64)))
/-- A frontier entry as the slot holds it; what else it waits with is not in the image (R391). -/
def readEntry (x : Nat) (e : Entry) : Entry :=
  { e with mask := BitVec.ofNat 32 x, prio := BitVec.ofNat 12 (x / 2 ^ 32), barWait := x.testBit 44, owner := x.testBit 45
           pc := BitVec.ofNat 64 (x / 2 ^ 64) }
/-- A fault record as 32 bytes hold it (R377). -/
def readRecord (x : Nat) (r : FaultRec) : FaultRec :=
  { r with
    va := BitVec.ofNat 64 (x % 2 ^ 57), kind := x / 2 ^ 57 % 8, s2 := x.testBit 60, sz := x / 2 ^ 61 % 8, park := x.testBit 95
    lanes := BitVec.ofNat 32 (x / 2 ^ 96), cause := x / 2 ^ 198 % 512, tstamp := BitVec.ofNat 22 (x / 2 ^ 234) }
/-- A parked sub-group as the slot holds it. -/
def readParked (x : Nat) (p : Parked) : Parked :=
  let pc := BitVec.ofNat 64 (x / 2 ^ 64)
  { p with
    mask := BitVec.ofNat 32 x, prio := BitVec.ofNat 12 (x / 2 ^ 32), pc := pc, lc := countersOf (x / 2 ^ 128)
    base := p.base.map (fun b => { b with val := BitVec.ofNat 64 (x / 2 ^ 320) })
    loops := loopsOf pc (x / 2 ^ 384), record := readRecord (x / 2 ^ 512) p.record }
/-- A landing as its 8 bytes hold it (R52). -/
def readLanding (x : Nat) (l : Landing) : Landing :=
  { l with await := BitVec.ofNat 32 x, jprio := BitVec.ofNat 12 (x / 2 ^ 32), joff := BitVec.ofNat 20 (x / 2 ^ 44) }
/-- A group as the slot holds it (R391, R393). -/
def State.readGroup (s : State) (base : Nat) (g : Grid) (x : Group) : Group :=
  let o := base + 0x1000 + 0x2000 * x.gid
  let rd (a n : Nat) : Nat := s.pread (o + a) n
  let each (a w n : Nat) : List (Nat × Nat) := (List.range n).map (fun i => (i, rd (a + w * i) w))
  let vs := (backedRegs g).zipIdx.map (fun v => (v.1, base + 0x80000 + 0x3800 * x.gid + 256 * v.2))
  let land (i : Nat) : Nat :=
    match vs.find? (fun v => v.1 == if i < 32 then 55 else 53) with | some v => s.pread (v.2 + 8 * (i % 32)) 8 | none => 0
  let isLand (v : Nat) : Bool := (v == 55 && g.ld != 0) || (v == 53 && decide (32 < g.ld))
  let frontier := x.frontier.zipIdx.map (fun e => readEntry (rd (16 * e.2) 16) e.1)
  { x with
    frontier := frontier
    parked := x.parked.zipIdx.map (fun p => readParked (rd (0x200 + 96 * p.2) 96) p.1)
    landings := x.landings.zipIdx.map (fun l => readLanding (land l.2) l.1)
    loops := match frontier.find? (·.owner) with | some e => loopsOf e.pc (rd 0x11C0 16) | none => []
    faultmask := BitVec.ofNat 32 (rd 0x11B8 8)
    regs := { x.regs with
      s := tableOf 64 (each 0xE00 8 64), vtags := tableOf 32 (each 0x1000 4 56), stags := BitVec.ofNat 64 (rd 0x10E0 8)
      v := tableOf 2048 ((vs.filter (fun v => !isLand v.1)).map (fun v => (v.1, s.pread v.2 256)))
      p := tableOf 32 (each 0x1100 4 16), m := tableOf 64 (each 0x1140 8 8), lc := countersOf (rd 0x1180 24)
      fpc := BitVec.ofNat 5 (rd 0x11A0 8), nflags := BitVec.ofNat 8 (rd 0x11A8 8), seed := BitVec.ofNat 64 (rd 0x11B0 8) } }
/-- A task of a saved table as the slot holds it. -/
def State.readTask (s : State) (o : Nat) : Task :=
  { num := s.pread o 8, pc := BitVec.ofNat 64 (s.pread (o + 8) 8), word := taskOf (BitVec.ofNat 32 (s.pread (o + 16) 4))
    pass := s.pread (o + 20) 4, slots := (List.range (s.pread (o + 24) 1)).map (fun i => BitVec.ofNat 256 (s.pread (o + 32 + 32 * i) 32))
    ready := (List.range (s.pread (o + 26) 1)).map (fun i => (s.pread (o + 25) 1).testBit i), issued := false, entry := 0, books := [], data := 0 }
/-- A tile sequencer with the accumulator store as the slot holds them. -/
def State.readTile (s : State) (base : Nat) (t : Tile) : Tile :=
  let o := base + 0x1C0000
  let rd (a n : Nat) : Nat := s.pread (o + a) n
  let acc := s.cellsAt (base + 0x180000) 0x40000
  { t with
    pc := BitVec.ofNat 64 (rd 0 8), run := runOf (rd 8 1), flags := BitVec.ofNat 8 (rd 9 1), bound := BitVec.ofNat 32 (rd 12 4), next := rd 16 8
    loop := if rd 24 1 = 0 then none
            else some { first := BitVec.ofNat 64 (rd 32 8), len := rd 40 4, count := rd 44 4, pass := rd 48 4 }
    slots := tableOf 256 ((List.range 32).map (fun n => (n, rd (0x400 + 32 * n) 32)))
    cb := tableOf 256 ((List.range 8).map (fun n => (n, rd (0x800 + 32 * n) 32)))
    nb := (List.range 16).map (fun k => (k, nbarOf (rd (0x80 + 8 * k) 8)))
    sq := (List.range 4).map (fun q => (q, (List.range (rd (56 + q) 1)).map (fun i => BitVec.ofNat 4096 (rd (0x8000 + 0x1000 * q + 512 * i) 512))))
    table := (List.range (rd 25 1)).map (fun i => s.readTask (o + 0x1000 + 128 * i))
    acc := tableOf 32 (((acc.map (fun c => c.1 / 4)).eraseDups).map (fun i => (i, mreadN acc (4 * i) 4))) }
/-- A line of a slot is poisoned: an uncorrectable error that a restore meets (R375, R393). -/
def State.slotPoisoned (s : State) (base : Nat) : Bool := (slotFrames base).any (fun f => !(s.frame f).poison.isEmpty)
/-- A saved team as its slot holds it (R393): what R391 gives a place is read from there. -/
def State.readSlot (s : State) (base : Nat) (x : Saved) : Saved :=
  let g := s.grid x.team.grid
  let cid := s.pread (base + 24) 8
  { x with
    bad := x.bad || s.slotPoisoned base
    team := { x.team with
      cid := if cid.testBit 16 then some (BitVec.ofNat 16 cid) else none, phase := BitVec.ofNat 12 (s.pread (base + 32) 2)
      tmem := s.cellsAt (base + 0x100000) g.tmsize }
    groups := x.groups.map (s.readGroup base g)
    tile := x.tile.map (s.readTile base) }

end Sys2Proof.Machine
end

