-- ==== Sys2Proof/Machine/Admit.lean ====
section
/-! DEFINITION. Placement and admission of teams (R22, R23, R26, R38-R41, R131, R346), the saving of a team's context (R390-R392)
and its restore (R393). -/

namespace Sys2Proof.Machine

/-! ## Room on a core -/

/-- Present groups of a quadrant. -/
def State.quadGroups (s : State) (qk : Nat) : List Nat := ((List.range 16).map (fun i => qk * 16 + i)).filter (fun gk => (s.group gk).present)
/-- Vector registers that a quadrant's groups hold. -/
def State.quadRegs (s : State) (qk : Nat) : Nat := ((s.quadGroups qk).map (fun gk => (s.grid (s.team (s.group gk).tk).grid).nv)).sum
/-- Team memory that a core's teams hold. -/
def State.coreTmem (s : State) (core : Nat) : Nat := ((s.coreTeams core).map (fun tk => (s.grid (s.team tk).grid).tmsize)).sum
/-- Groups of a team that quadrant `q` gets when the first goes to `q0` (R22). -/
def quadShare (tg q0 q : Nat) : Nat := tg / 4 + (if (q + 4 - q0) % 4 < tg % 4 then 1 else 0)
/-- A core admits a team of a grid with this first quadrant (R23). -/
def State.roomAt (s : State) (core q0 : Nat) (g : Grid) : Bool :=
  (List.range 4).all (fun q =>
    let n := quadShare g.tg q0 q
    let qk := core * 4 + q
    decide ((s.quadGroups qk).length + n ≤ 16 ∧ s.quadRegs qk + n * g.nv ≤ 512)) &&
  decide (s.coreTmem core + g.tmsize ≤ 524288) &&
  (g.tsoff == 0 || (s.coreTeams core).all (fun tk => (s.grid (s.team tk).grid).tsoff == 0)) &&
  (List.range 64).any (fun j => !(s.team (core * 64 + j)).present)
/-- First quadrants with which a core admits a team. -/
def State.roomsAt (s : State) (core : Nat) (g : Grid) : List Nat := (List.range 4).filter (fun q0 => s.roomAt core q0 g)
/-- A cluster admits teams of a grid's class at all (R40, R346, R404, R412, R422). -/
def State.clusterOpen (s : State) (c : Nat) (g : Grid) : Bool :=
  let x := s.cluster c
  !x.shut && x.pend.isNone && (s.mezz.isSome || x.cls == g.cls) && s.mezzClusters.getLsbD c
/-- Clusters of a grid: its MASK within the present mask of its tenant, of its class (R346, R351, R364). -/
def State.gridClusters (s : State) (g : Grid) : List Nat :=
  (clustersOf (g.mask &&& s.tenantMask g.tenant)).filter (fun c => s.mezz.isSome || (s.cluster c).cls == g.cls)
/-- Cloister ids in use. -/
def State.usedCids (s : State) : List Nat :=
  (s.teams.filterMap (fun t => if t.2.present then t.2.cid.map (·.toNat) else none)) ++
    s.saved.filterMap (fun x => x.2.team.cid.map (·.toNat)) ++ s.exits.filterMap (fun x => x.1.cid.map (·.toNat))
/-- The free ids of a grid's pool, lowest first. -/
def State.freeCids (s : State) (g : Grid) : List (BitVec 16) :=
  match s.pool g.pool with
  | none => []
  | some p => (((List.range p.count).map (· + p.first)).filter (fun c => !s.usedCids.contains c)).map (BitVec.ofNat 16)
/-- The lowest free id of a grid's pool (R131). -/
def State.freeCid (s : State) (g : Grid) : Option (BitVec 16) :=
  match s.pool g.pool with
  | none => none
  | some p => ((List.range p.count).map (· + p.first)).find? (fun c => !s.usedCids.contains c) |>.map (BitVec.ofNat 16)

/-! ## Placement maps -/

/-- One entry of a placement map. -/
structure MapEntry where
  /-- FIRST. -/
  first : Nat
  /-- COUNT. -/
  count : Nat
  /-- BASE. -/
  base : Nat
  /-- STRIDE. -/
  stride : Nat
  /-- PAGES. -/
  pages : Nat
deriving DecidableEq, Repr
/-- A block of a map as the dispatcher reads it; none when it cannot be translated or read, or is poisoned, which makes the map an
absent one (log 135). While its frame moves the dispatcher uses what the block held before (R41). -/
def State.mapRead (s : State) (g : Grid) (va : Nat) (n : Nat) : Option Nat :=
  match s.access g.fn g.pasid (BitVec.ofNat 64 va) 6 false false with
  | .ok x => if s.poisoned x.pa then none else some (s.pread x.pa n)
  | .error _ => none
/-- Entry `i` of a map; none when it cannot be read or a field is malformed (R39, R40). A COUNT of 0 and PAGES outside 1-16 count as
malformed too (log 136). -/
def State.mapEntry (s : State) (g : Grid) (i : Nat) : Option MapEntry :=
  let a := g.pmapva.toNat + 16 + 32 * i
  match s.mapRead g a 16, s.mapRead g (a + 16) 16 with
  | some lo, some hi =>
    let e : MapEntry :=
      { first := byteField lo 0 4, count := byteField lo 4 4, base := byteField lo 8 8, stride := byteField hi 0 8, pages := byteField hi 8 1 }
    if e.count = 0 ∨ e.base % 65536 ≠ 0 ∨ e.stride % 65536 ≠ 0 ∨ e.pages = 0 ∨ 16 < e.pages ∨ byteField hi 9 7 ≠ 0 then none
    else some e
  | _, _ => none
/-- Entries are sorted by FIRST and do not overlap. -/
def mapSorted : List MapEntry → Bool
  | [] => true
  | [_] => true
  | a :: b :: r => decide (a.first + a.count ≤ b.first) && mapSorted (b :: r)
/-- The placement map of a grid; none when absent or malformed (R39, R40). -/
def State.placeMap (s : State) (g : Grid) : Option (List MapEntry) :=
  if g.pmapva = 0 then none
  else match s.mapRead g g.pmapva.toNat 16 with
    | none => none
    | some h =>
      let n := byteField h 0 4
      if n = 0 ∨ 4096 < n ∨ byteField h 4 12 ≠ 0 then none
      else match (List.range n).mapM (s.mapEntry g) with
        | none => none
        | some es => if mapSorted es then some es else none
/-- Home dies of the pages that a team lists, in order; a page without one is left out. A page address past 2^64 wraps (log 162). -/
def State.pageHomes (s : State) (g : Grid) (id : Nat) (e : MapEntry) : List Nat :=
  (List.range e.pages).filterMap (fun j =>
    let va := BitVec.ofNat 64 (e.base + (id - e.first) * e.stride + 65536 * j)
    match if canonical va then s.translate g.fn g.pasid va else .error ⟨0, false⟩ with
    | .error _ => none
    | .ok x => if isHost x.pa || decide (4 ≤ s.homeDie x.pa) then none else some (s.homeDie x.pa))
/-- The die with the most pages, the earliest listed on a tie. -/
def mostHomes (l : List Nat) : Option Nat :=
  l.foldl (fun b d => match b with
    | none => some d
    | some x => if l.count x < l.count d then some d else some x) none
/-- The affinity die of a team (R40 rules 1 to 5). -/
def State.affinity (s : State) (g : Grid) (id : Nat) : Option Nat :=
  match s.placeMap g with
  | none => none
  | some es =>
    match es.find? (fun e => decide (e.first ≤ id ∧ id < e.first + e.count)) with
    | none => none
    | some e => (mostHomes (s.pageHomes g id e)).filter (fun d => (s.gridClusters g).any (fun c => clusterDie c == d))

/-! ## Pending teams -/

/-- Context slot of a saved team of a grid that is pending. -/
def State.savedSlot (s : State) (gid : BitVec 32) (id : Nat) : Option Nat :=
  (s.saved.find? (fun x => x.2.team.grid == gid && x.2.team.id == id && !x.2.dormant)).map (·.1)
/-- Linear ids of the saved pending teams of a grid. -/
def State.savedIds (s : State) (gid : BitVec 32) : List Nat :=
  (s.saved.filter (fun x => x.2.team.grid == gid && !x.2.dormant)).map (fun x => x.2.team.id)
/-- Team `id` of a grid waits for admission. -/
def State.isPending (s : State) (gid : BitVec 32) (id : Nat) : Bool :=
  let g := s.grid gid
  (decide (g.next ≤ id ∧ id < g.teams) && !g.ahead.contains id) || (s.savedIds gid).contains id
/-- Pending teams of a grid. -/
def State.pendingCount (s : State) (gid : BitVec 32) : Nat :=
  let g := s.grid gid
  (g.teams - g.next - g.ahead.length) + (s.savedIds gid).length
/-- Teams of a grid that are resident. -/
def State.residentCount (s : State) (gid : BitVec 32) : Nat := (s.allTeams.filter (fun tk => (s.team tk).grid == gid)).length
/-- R40 lets a team go to a die. -/
def State.dieOk (s : State) (g : Grid) (id die : Nat) : Bool := match s.affinity g id with | none => true | some d => d == die
/-- A team needs a cloister id and none is free (R131). -/
def State.lacksCid (s : State) (gid : BitVec 32) (id : Nat) : Bool :=
  (s.grid gid).clois && (s.savedSlot gid id).isNone && (s.freeCid (s.grid gid)).isNone
/-- Cores of a cluster that admit a team of a grid. -/
def State.openCores (s : State) (c : Nat) (g : Grid) : List Nat :=
  if s.clusterOpen c g then ((List.range 8).map (fun j => c * 8 + j)).filter (fun core => !(s.roomsAt core g).isEmpty) else []
/-- The first team at or above an id, within some tries, that has not been admitted and may go to a die. -/
def State.nextFresh (s : State) (gid : BitVec 32) (die : Nat) : Nat → Nat → Option Nat
  | 0, _ => none
  | n + 1, id =>
    let g := s.grid gid
    if !g.ahead.contains id && s.dieOk g id die then some id else s.nextFresh gid die n (id + 1)
/-- The pending team with the lowest linear id that R40 does not hold for another die than that of a cluster (R351). -/
def State.nextTeam (s : State) (gid : BitVec 32) (c : Nat) : Option Nat :=
  let g := s.grid gid
  let back := ((s.savedIds gid).filter (fun id => s.dieOk g id (clusterDie c))).min?
  let fresh := if g.clois && (s.freeCid g).isNone then none else s.nextFresh gid (clusterDie c) (g.teams - g.next) g.next
  match back, fresh with
  | some a, some b => some (min a b)
  | a, b => a.or b

/-! ## Admission -/

/-- Lowest unused team slot of a core. -/
def State.freeTeam (s : State) (core : Nat) : Nat :=
  core * 64 + (((List.range 64).find? (fun j => !(s.team (core * 64 + j)).present)).getD 0)
/-- Lowest unused group slot of a quadrant. -/
def State.freeGroup (s : State) (qk : Nat) : Nat :=
  qk * 16 + (((List.range 16).find? (fun i => !(s.group (qk * 16 + i)).present)).getD 0)
/-- A team counts as admitted once (R26). -/
def Grid.admitTeam (g : Grid) (id : Nat) : Grid :=
  if id < g.next then g
  else
    let a := id :: g.ahead
    let rec skip : Nat → Nat → Nat
      | 0, n => n
      | k + 1, n => if a.contains n then skip k (n + 1) else n
    let n := skip (a.length + 1) g.next
    { g with next := n, ahead := a.filter (fun i => decide (n ≤ i)) }
/-- A group in the state of R26. -/
def startGroup (g : Grid) (gid : BitVec 32) (tk id n : Nat) : Group :=
  { Group.reset with
    present := true, tk := tk, gid := n
    regs := { Regs.reset with
      s := nput (nput [] 0 g.argva) 1 g.lpbva
      seed := BitVec.ofNat 64 (gid.toNat * 2 ^ 32 + id * 32 + n) }
    frontier := [{ Entry.reset with pc := g.hdr + BitVec.ofNat 64 g.entry, mask := 0xFFFFFFFF, prio := 0xFFF }] }
/-- A group takes the lowest free slot of its quadrant, as its youngest (R69). -/
def State.placeGroup (s : State) (core q0 : Nat) (gs : Group) : Nat × State :=
  let qk := core * 4 + (q0 + gs.gid) % 4
  let gk := s.freeGroup qk
  let q := s.quad qk
  let s := s.setGroup gk { gs with admission := q.admissions, lastIssue := q.cycle }
  let b := q.bank
  let b := if b.oldest = some gk ∨ b.saving.any (fun x => x.unit == gk) then leaveSaving b else b
  (gk, s.setQuad qk { s.quad qk with admissions := q.admissions + 1, bank := b })
/-- Groups placed one after the other, with their keys. -/
def State.placeGroups (core q0 : Nat) : List Group → State → List Nat × State
  | [], s => ([], s)
  | g :: r, s =>
    let x := s.placeGroup core q0 g
    let y := State.placeGroups core q0 r x.2
    (x.1 :: y.1, y.2)
/-- TEAM_ADMIT (R26): a team starts on a core. -/
def State.admitNew (s : State) (gid : BitVec 32) (id core q0 : Nat) : State :=
  let g := s.grid gid
  let tk := s.freeTeam core
  let cid := if g.clois then s.freeCid g else none
  let x := State.placeGroups core q0 ((List.range g.tg).map (startGroup g gid tk id)) s
  let s := x.2.setTeam tk { Team.reset with present := true, grid := gid, id := id, gks := x.1, q0 := q0, cid := cid }
  let s := if g.tsoff = 0 then s
           else (s.setTile core { Tile.reset with owned := true, tk := tk, pc := g.hdr + BitVec.ofNat 64 g.tsoff, run := .fetching }).setSeqBank
             core (leaveSaving (s.seqBank core))
  s.setGrid gid ((s.grid gid).admitTeam id)

/-! ## Replies -/

/-- A sub-group is cancelled: its lanes end without a new record (R59). -/
def State.cancelParked (gk : Nat) (s : State) (p : Parked) : State :=
  let g := s.group gk
  let h := (s.grid (s.team g.tk).grid).hdr
  s.setGroup gk (endLanes h p.mask { g with faulted := g.faulted ||| p.mask })
/-- A sub-group is replayed (R59). -/
def State.replayOne (gk : Nat) (s : State) (p : Parked) : State := s.setGroup gk (replayParked p (s.group gk))
/-- The replies that a group's sub-groups carry take effect: every cancel, then every replay (R314, R383). -/
def State.applyReplies (s : State) (gk : Nat) : State :=
  let ps := (s.group gk).parked
  let s := (ps.filter (fun p => p.reply == some false)).foldl (State.cancelParked gk) s
  let s := (ps.filter (fun p => p.reply == some true)).foldl (State.replayOne gk) s
  let h := (s.grid (s.team (s.group gk).tk).grid).hdr
  s.setGroup gk (settle h (s.group gk))
/-- The reply that a stalled tile sequencer carries takes effect (R311, R383): replay fetches again, cancel stops it. -/
def State.applySeqReply (s : State) (core : Nat) : State :=
  let t := s.tile core
  match t.reply with
  | none => s
  | some true => s.setTile core { t with run := .fetching, stall := none, reply := none }
  | some false => (s.setTile core { t with reply := none }).seqHalt core

/-! ## Saving -/

/-- A fault record of a team is not written yet (R313). -/
def State.recordsOf (s : State) (t : Team) : Bool := s.recs.any (fun r => r.grid == t.grid && r.team == t.id)
/-- A team has nothing left to drain (R392 steps 1 to 3): no hold, no access or launch in progress, no request, no issued
task, no record to write. -/
def State.drained (s : State) (tk : Nat) : Bool :=
  let t := s.team tk
  let tile := s.tile (tk / 64)
  t.gks.all (fun gk =>
    let g := s.group gk
    g.inFlight.isEmpty && g.walks.isEmpty && !((s.quad (quadOf gk)).hold.any (fun h => h.gk == gk)) &&
      g.frontier.all (fun e => match e.pend with
        | none => true
        | some p => p.kind == .await || p.kind == .xwait || p.kind == .nbar || p.kind == .lwait)) &&
  !s.reqs.any (fun q => q.2.tk == tk) && !(tile.owned && tile.tk == tk && tile.table.any (·.issued)) && !s.recordsOf t
/-- A waiting bundle is abandoned without effect: it issues again after the restore (R261, R272, R392). -/
def abandonEntry (x : Regs × List Entry) (e : Entry) : Regs × List Entry :=
  match e.pend with
  | none => (x.1, x.2 ++ [{ e with sleep := 0, count := 0, promoted := none }])
  | some p =>
    let r := match p.base with
      | none => x.1
      | some b => if b.isM then { x.1 with m := nput x.1.m b.reg b.val } else { x.1 with s := nput x.1.s b.reg b.val }
    (r, x.2 ++ [{ e with pend := none, sleep := 0, count := 0, promoted := none, replay := p.replay.or e.replay }])
/-- What a group keeps over a save (R19, R71, R392). -/
def saveGroup (g : Group) : Group :=
  let x := g.frontier.foldl abandonEntry ({ g.regs with latch := [] }, [])
  { g with regs := x.1, frontier := normFrontier x.2, resv := [], walks := [], runs := [], lastIssue := 0, admission := 0 }
/-- Lines of the objects that a waiting `await` still waits for (R352). -/
def State.awaitLines (s : State) (g : Grid) (p : Pend) : List Nat :=
  p.words.flatMap (fun w => match w with
    | .await _ _ _ _ a =>
      ((lanesOf p.act).filter (fun l => !(p.got.any (fun x => x.1 == l)))).filterMap (fun l =>
        match s.translate g.fn g.pasid (laneVal (readOpnd p.src a 64) l) with
        | .ok x => some (x.pa / 64)
        | .error _ => none)
    | _ => [])
/-- The wake set of a team (R352): lines, children, the immediate member. -/
def State.wakeSet (s : State) (tk : Nat) : List Nat × Bool × Bool :=
  let t := s.team tk
  let g := s.grid t.grid
  let es := t.gks.flatMap (fun gk => (s.group gk).frontier)
  let ps := es.filterMap (·.pend)
  let tile := s.tile (tk / 64)
  let busy := tile.owned && tile.tk == tk && (tile.run == .fetching || !tile.table.isEmpty)
  ((ps.flatMap (s.awaitLines g)).eraseDups, ps.any (fun p => p.kind == .lwait),
   busy || es.any (fun e => e.barWait || e.sleep != 0) || ps.any (fun p => p.kind == .nbar || p.kind == .xwait))

/-! ## Save and restore -/

/-- Lines of a context slot (R390, R424). -/
def slotLines : Nat := 2 ^ 21 / 64

/-- A team leaves its core: groups, slots, accumulator and its cloister-class lines go (R392, R133). -/
def State.leaveCore (s : State) (tk : Nat) : State :=
  let t := s.team tk
  let core := tk / 64
  let s := match t.cid with | some c => s.dropCloister core c | none => s
  let tile := s.tile core
  let s := if tile.owned && tile.tk == tk then (s.setTile core Tile.reset).setSeqBank core (leaveSaving (s.seqBank core)) else s
  let s : State := { s with groups := t.gks.foldl (fun m gk => ndel m gk) s.groups, teams := ndel s.teams tk }
  s.phaseChange (clusterOf core)
/-- Teams of a grid have become pending; one that had none pending takes its place anew among the pending grids (R348). -/
def State.pendAgain (s : State) (id : BitVec 32) : State :=
  if s.pendingCount id = 0 then
    ({ s with gridOrder := s.gridOrder + 1 }).setGrid id { s.grid id with since := s.time, order := s.gridOrder }
  else s
/-- Steps 4 and 5 of R392: the drained team is written to its slot and stops being resident. -/
def State.saveTeam (s : State) (tk slot : Nat) (dormant : Bool) : State :=
  let t := s.team tk
  let g := s.grid t.grid
  let tile := s.tile (tk / 64)
  let own := tile.owned && tile.tk == tk
  let w := s.wakeSet tk
  let x : Saved :=
    { Saved.reset with
      team := { t with draining := none, silent := 0, waited := 0 }
      groups := t.gks.map (fun gk => saveGroup (s.group gk))
      tile := if own then some tile else none
      dormant := dormant, wake := w.1, wakeChild := w.2.1, immediate := w.2.2
      cluster := clusterOf (tk / 64), since := s.time }
  let s := s.leaveCore tk
  let s := s.writeSlot (s.slotPA slot) (imageFields g x s.free)
  let s := (s.tally g.tenant 1 (64 * slotLines))
  let s := if dormant then s else s.pendAgain t.grid
  { s with saved := nput s.saved slot x, free := s.free + 1 }
/-- Every live lane of a team ends with the cause of an uncorrectable error, and its tile sequencer stops (R311, R375) with a record whose
PC is that of its fetch (log 173). -/
def State.errorTeam (cause : Nat) (s : State) (tk : Nat) : State :=
  let s := s.killTeam tk cause true
  let t := s.tile (tk / 64)
  if t.owned && t.tk == tk && t.run != .stopped then s.seqStop (tk / 64) cause t.pc 0 else s
/-- A saved team takes its place on a core (R393): its slot is read, generations are stepped, the state is written back and replies
are carried out; an error in the slot ends its live lanes instead. -/
def State.restoreTeam (s : State) (slot core q0 : Nat) : State :=
  let x := s.readSlot (s.slotPA slot) (nget Saved.reset s.saved slot)
  let tk := s.freeTeam core
  let tenant := (s.grid x.team.grid).tenant
  let s := (s.setCache core (Caches.codeStep ((s.cache core).acquire 3))).tally tenant 1 (64 * slotLines)
  let s : State := { s with saved := ndel s.saved slot }
  let y := State.placeGroups core q0 (x.groups.map (fun g => { g with tk := tk })) s
  let s := y.2.setTeam tk { x.team with gks := y.1, q0 := q0 }
  let s := match x.tile with
    | some t => (s.setTile core { t with tk := tk }).setSeqBank core (leaveSaving (s.seqBank core))
    | none => s
  if x.bad then s.errorTeam 0x15E tk
  else
    let s := y.1.foldl State.applyReplies s
    if x.tile.isSome then s.applySeqReply core else s
/-- A pending team is admitted on a core with a first quadrant: restored if it was saved, else started (R26, R393); the
cluster's phase state changes (R413). -/
def State.admitTeam (s : State) (gid : BitVec 32) (id core q0 : Nat) : State :=
  let s := match s.savedSlot gid id with
    | some slot => s.restoreTeam slot core q0
    | none => s.admitNew gid id core q0
  s.phaseChange (clusterOf core)

/-! ## Cooperative grids -/

/-- Groups of a grid that each quadrant of a core still takes (R23). -/
def State.quadRooms (s : State) (core : Nat) (g : Grid) : List Nat :=
  (List.range 4).map (fun q =>
    let qk := core * 4 + q
    min (16 - (s.quadGroups qk).length) ((512 - s.quadRegs qk) / g.nv))
/-- First quadrants with which a core admits a team of a grid and keeps the most room for further ones. -/
def State.bestRooms (s : State) (core : Nat) (g : Grid) : List Nat :=
  let after (q0 : Nat) : Nat := spreadRoom g.tg ((s.quadRooms core g).mapIdx (fun q r => r - quadShare g.tg q0 q))
  let l := s.roomsAt core g
  l.filter (fun q0 => l.all (fun q => decide (after q ≤ after q0)))
/-- The first core in a list that admits a team, with a first quadrant: which of those that keep the most room is free (R22). -/
def State.firstRoom (s : State) (g : Grid) (cores : List Nat) : Option (Nat × Nat) :=
  cores.findSome? (fun core =>
    let l := s.bestRooms core g
    if l.isEmpty then none else some (core, l.getD (Config.freeNat s.free % l.length) 0))
/-- All pending teams of a cooperative grid admitted one after the other; none when one finds no room (R38, R40). -/
def State.admitAll (useMap : Bool) (gid : BitVec 32) : List Nat → State → Option State
  | [], s => some s
  | id :: r, s =>
    let g := s.grid gid
    if s.lacksCid gid id then none
    else
      let ok (c : Nat) : Bool := s.clusterOpen c g && (!useMap || s.dieOk g id (clusterDie c))
      let cores := ((s.gridClusters g).filter ok).flatMap (fun c => (List.range 8).map (fun j => c * 8 + j))
      match s.firstRoom g cores with
      | none => none
      | some x => State.admitAll useMap gid r ({ s with free := s.free + 1 }.admitTeam gid id x.1 x.2)
/-- Linear ids of the pending teams of a grid. -/
def State.pendingIds (s : State) (gid : BitVec 32) : List Nat := (List.range (s.grid gid).teams).filter (s.isPending gid)
/-- A cooperative grid admitted with every team on its affinity die (R38, R40): teams that have one come first, so that the others leave
them their room. -/
def State.coopByMap (s : State) (gid : BitVec 32) : Option State :=
  let ids := s.pendingIds gid
  let bound := ids.filter (fun id => (s.affinity (s.grid gid) id).isSome)
  State.admitAll true gid (bound ++ ids.filter (fun id => !bound.contains id)) s
/-- Teams admitted together have the free cloister ids in increasing linear team id (R316): `s` is the machine before. -/
def State.orderCids (s : State) (gid : BitVec 32) (s1 : State) : State :=
  let g := s.grid gid
  let ids := (s.pendingIds gid).filter (fun id => (s.savedSlot gid id).isNone)
  if !g.clois then s1
  else (ids.zip (s.freeCids g)).foldl (fun s x =>
    match s.allTeams.find? (fun tk => (s.team tk).grid == gid && (s.team tk).id == x.1) with
    | some tk => s.setTeam tk { s.team tk with cid := some x.2 }
    | none => s) s1
/-- The whole cooperative grid admitted at once, with affinity if that is possible (R38, R40 rule 6). -/
def State.admitCoop (s : State) (gid : BitVec 32) : Option State :=
  if (s.pendingIds gid).length < (s.grid gid).teams ∧ s.residentCount gid ≠ 0 then none
  else ((s.coopByMap gid).or (State.admitAll false gid (s.pendingIds gid) s)).map (s.orderCids gid)
/-- R40 lets a team of a cooperative grid that can be admitted go to a die: its affinity is ignored where the grid cannot have it. -/
def State.coopDieOk (s : State) (gid : BitVec 32) (die : Nat) : Bool :=
  (s.coopByMap gid).isNone || (s.pendingIds gid).any (fun id => s.dieOk (s.grid gid) id die)

/-! ## Candidates and PICK -/

/-- A grid is a candidate on a cluster (R346). -/
def State.isCandidate (s : State) (c : Nat) (gid : BitVec 32) : Bool :=
  let g := s.grid gid
  g.present && g.enqueued && !g.cancelled && (s.gridClusters g).contains c && s.clusterOpen c g &&
    !(s.openCores c g).isEmpty &&
    (if g.coop then decide (s.pendingCount gid ≠ 0) && (s.admitCoop gid).isSome && s.coopDieOk gid (clusterDie c)
     else (s.nextTeam gid c).isSome)
/-- A place among pending grids by the time at which they became pending. -/
def State.insertGrid (s : State) (x : BitVec 32) : List (BitVec 32) → List (BitVec 32)
  | [] => [x]
  | y :: r => if (s.grid x).order < (s.grid y).order then x :: y :: r else y :: s.insertGrid x r
/-- Candidate grids on a cluster, oldest first. -/
def State.candidates (s : State) (c : Nat) : List (BitVec 32) :=
  ((s.grids.map (fun g => BitVec.ofNat 32 g.1)).filter (s.isCandidate c)).foldl (fun l x => s.insertGrid x l) []
/-- A team evicted from a cluster has not been saved yet (R364). -/
def State.evicting (s : State) (c : Nat) : Bool := s.allTeams.any (fun tk => clusterOf (tk / 64) == c && (s.team tk).draining.isSome)
/-- Tenants with a candidate on a cluster, by number; one whose second choice failed is left out until the next event (R351). -/
def State.pickTenants (s : State) (c : Nat) : List Nat :=
  let ts := ((s.candidates c).map (fun x => (s.grid x).tenant)).eraseDups
  (List.range 64).filter (fun t => ts.contains t && !s.pickHeld.contains (c * 64 + t))
/-- PICK is raised for a cluster that can admit a team (R346): through the hypervisor engine when more tenants than one have
candidates. -/
def State.raisePick (s : State) (c : Nat) : State :=
  match s.pickTenants c with
  | [] => s
  | [t] => s.raiseOn c { Raised.reset with point := .pick, tenant := t, cluster := c }
  | _ => s.raiseOn 20 { Raised.reset with point := .hypPick, cluster := c }
/-- Something that PICK depends on has changed: held choices are open again and PICK is raised where a team can be admitted. -/
def State.raisePicks (s : State) : State :=
  (List.range 20).foldl State.raisePick { s with pickHeld := [] }

end Sys2Proof.Machine
end

