-- ==== Sys2Proof/Machine/Lanes.lean ====
section
/-! DEFINITION. The cross-lane and data-dependent words: major 3 (R221-R232). Sources are read from all 32 lanes; only
active elements are written (R222). -/

namespace Sys2Proof.Machine

/-- The elements of a register, in order. -/
def elems (w : Nat) (x : VReg) : List Nat := (List.range (2048 / w)).map (elem x w)
/-- A list of elements packed from the low end. -/
def packList (w : Nat) : List Nat → Nat
  | [] => 0
  | a :: r => a % 2 ^ w + 2 ^ w * packList w r
/-- The register image of a list of elements. -/
def imageL (w : Nat) (l : List Nat) : VReg := BitVec.ofNat 2048 (packList w l)
/-- An element lies in an active lane. -/
def activeAt (act : LaneMask) (w e : Nat) : Bool := act.getLsbD (laneOf w e)

/-- `shfl` (R223). -/
def shflImage (w : Nat) (a b : VReg) : VReg :=
  image w (fun e => let i := elem b w e; if i < 2048 / w then elem a w i else 0)
/-- `bcast` (R223). -/
def bcastImage (w : Nat) (a b : VReg) : VReg := splat w (let i := elem b w 0; if i < 2048 / w then elem a w i else 0)
/-- `slide.up` (R224). -/
def slideUpImage (w : Nat) (a b : VReg) : VReg :=
  image w (fun e => if e = 0 then elem b w (2048 / w - 1) else elem a w (e - 1))
/-- `slide.dn` (R224). -/
def slideDnImage (w : Nat) (a b : VReg) : VReg :=
  image w (fun e => if e = 2048 / w - 1 then elem b w 0 else elem a w (e + 1))

/-- One level of the tree: neighbours combined (R171). -/
def pairUp {α : Type} (op : α → α → α) : List α → List α
  | a :: b :: r => op a b :: pairUp op r
  | l => l
/-- reduce_tree on a list whose length is a power of two, with a fuel of levels (R171). -/
def reduceTree {α : Type} (op : α → α → α) (id : α) : Nat → List α → α
  | 0, l => l.headD id
  | n + 1, l => match l with
    | [] => id
    | [x] => x
    | _ => reduceTree op id n (pairUp op l)
/-- Elements with the identity in place of inactive ones. -/
def activeOr (act : LaneMask) (w : Nat) (id : Nat) (a : VReg) : List Nat :=
  (List.range (2048 / w)).map (fun e => if activeAt act w e then elem a w e else id)
/-- An integer reduction in every element (R225). -/
def reduceImage (ty : ITy) (op : Nat → Nat → Nat) (id : Nat) (act : LaneMask) (a : VReg) : VReg :=
  splat ty.w (reduceTree op id 9 (activeOr act ty.w id a))
/-- `red.fadd`: every node is rounded, its flags join (R171, R225). -/
def reduceFloat (f : FFmt) (env : REnv) (act : LaneMask) (a : VReg) : VReg × BitVec 8 :=
  let env := { env with rm := if env.rm = 5 then 0 else env.rm }
  let r := reduceTree (fun x y : Nat × BitVec 8 =>
      let z := fopAdd env f 0 x.1 y.1 0
      (z.1, x.2 ||| y.2 ||| z.2)) (f.zeroPat true, 0) 9
    ((activeOr act f.bits (f.zeroPat true) a).map (fun x => (x, 0)))
  (splat f.bits r.1, r.2)
/-- Running sums of the active elements (R226). -/
def prefixSums (w : Nat) : Nat → List (Bool × Nat) → List Nat
  | _, [] => []
  | s, (on, x) :: r => let s := if on then (s + x) % 2 ^ w else s; s :: prefixSums w s r
/-- Elements with their activity. -/
def marked (act : LaneMask) (w : Nat) (a : VReg) : List (Bool × Nat) :=
  (List.range (2048 / w)).map (fun e => (activeAt act w e, elem a w e))
/-- `scan.add`. -/
def scanImage (w : Nat) (act : LaneMask) (a : VReg) : VReg := imageL w (prefixSums w 0 (marked act w a))
/-- The vote mask: active lanes whose 64 bits are not 0 (R227). -/
def voteMask (act : LaneMask) (a : VReg) : LaneMask := act &&& maskOf (fun l => elem a 64 l != 0)

/-- The two indices of largest magnitude in a group of four, lower index first (R228). -/
def sp24Pick (w : Nat) (a : VReg) (g : Nat) : Nat × Nat :=
  let mag (i : Nat) := elem a w (4 * g + i) % 2 ^ (w - 1)
  -- element i is kept when fewer than two others beat it
  let beats (j i : Nat) : Bool := decide (mag i < mag j) || (mag i == mag j && decide (j < i))
  let kept := [0, 1, 2, 3].filter (fun i => decide (([0, 1, 2, 3].filter (fun j => j != i && beats j i)).length < 2))
  (kept.headD 0, (kept.drop 1).headD 1)
/-- `sp24`. -/
def sp24Image (w : Nat) (a : VReg) : VReg :=
  let g := 2048 / w / 4
  let vals := (List.range g).flatMap (fun i => [elem a w (4 * i + (sp24Pick w a i).1), elem a w (4 * i + (sp24Pick w a i).2)])
  let meta4 := (List.range g).map (fun i => (sp24Pick w a i).1 + 4 * (sp24Pick w a i).2)
  BitVec.ofNat 2048 (packList w vals + packList 4 meta4 <<< 1024)

/-- A value inserted into a sorted list. -/
def insertBy (le : Nat → Nat → Bool) (x : Nat) : List Nat → List Nat
  | [] => [x]
  | y :: r => if le x y then x :: y :: r else y :: insertBy le x r
/-- A list sorted. -/
def sortBy (le : Nat → Nat → Bool) : List Nat → List Nat
  | [] => []
  | x :: r => insertBy le x (sortBy le r)
/-- Order of patterns under a type. -/
def leTy (ty : ITy) (x y : Nat) : Bool := decide (ival ty x ≤ ival ty y)
/-- `sort8` (R229). -/
def sort8Image (ty : ITy) (a : VReg) : VReg :=
  imageL ty.w ((List.range (2048 / ty.w / 8)).flatMap
    (fun h => sortBy (leTy ty) ((List.range 8).map (fun i => elem a ty.w (8 * h + i)))))
/-- Two runs merged, the first winning ties, with as many steps as elements (R229). -/
def mergeRuns (le : Nat → Nat → Bool) : Nat → List Nat → List Nat → List Nat
  | 0, _, _ => []
  | _ + 1, [], ys => ys
  | _ + 1, xs, [] => xs
  | n + 1, x :: xs, y :: ys => if le x y then x :: mergeRuns le n xs (y :: ys) else y :: mergeRuns le n (x :: xs) ys
/-- `merge2` (R229). -/
def merge2Image (ty : ITy) (a b : VReg) : VReg :=
  let n := 2048 / ty.w
  let rx := elem b ty.w 0
  if 8 ≤ rx ∨ n < 2 * 2 ^ rx then a
  else
    let l := 2 ^ rx
    imageL ty.w ((List.range (n / (2 * l))).flatMap (fun h =>
      let run (k : Nat) := (List.range l).map (fun i => elem a ty.w ((2 * h + k) * l + i))
      mergeRuns (leTy ty) (2 * l) (run 0) (run 1)))
/-- `match`: how many active earlier elements hold the same pattern (R230). -/
def matchImage (w : Nat) (act : LaneMask) (a : VReg) : VReg :=
  image w (fun e => ((List.range e).filter (fun j => activeAt act w j && elem a w j == elem a w e)).length)
/-- Active elements whose condition is not 0, in order (R231). -/
def selected (w : Nat) (act : LaneMask) (b : VReg) : List Nat :=
  (List.range (2048 / w)).filter (fun e => activeAt act w e && elem b w e != 0)
/-- `compress`. -/
def compressImage (w : Nat) (act : LaneMask) (a b : VReg) : VReg := imageL w ((selected w act b).map (elem a w))
/-- `expand`, from the list of conditions with the next source index. -/
def expandList (a : VReg) (w : Nat) : Nat → List Bool → List Nat
  | _, [] => []
  | j, on :: r => if on then elem a w j :: expandList a w (j + 1) r else 0 :: expandList a w j r
/-- `expand`. -/
def expandImage (w : Nat) (act : LaneMask) (a b : VReg) : VReg :=
  imageL w (expandList a w 0 ((List.range (2048 / w)).map (fun e => activeAt act w e && elem b w e != 0)))
/-- `transp` (R232). -/
def transpImage (w : Nat) (a : VReg) : VReg :=
  let k := 64 / w
  image w (fun e =>
    let lane := e / k; let j := e % k
    elem a w ((k * (lane / k) + j) * k + lane % k))

/-- A cross-lane word with a vector B and no flags. -/
def laneWord2 (f : Nat → LaneMask → VReg → VReg → VReg) (c k : BitVec 1) (t : BitVec 3) (d a b : BitVec 6) (s : State) : Out :=
  let w := (ity t).w
  vecWord 2 c k d [a, b] (fun s => (f w s.cur.act (s.opnd a w) (s.opnd b w), 0)) s
/-- A cross-lane word of one source and no flags. -/
def laneWord1 (w : Nat) (f : LaneMask → VReg → VReg) (c k : BitVec 1) (d a : BitVec 6) (s : State) : Out :=
  vecWord 2 c k d [a] (fun s => (f s.cur.act (s.opnd a w), 0)) s

/-- `shfl`. -/
def execShfl (c k : BitVec 1) (t : BitVec 3) (d a b : BitVec 6) (s : State) : Out := laneWord2 (fun w _ => shflImage w) c k t d a b s
/-- `slide.up`. -/
def execSlideUp (c k : BitVec 1) (t : BitVec 3) (d a b : BitVec 6) (s : State) : Out := laneWord2 (fun w _ => slideUpImage w) c k t d a b s
/-- `slide.dn`. -/
def execSlideDn (c k : BitVec 1) (t : BitVec 3) (d a b : BitVec 6) (s : State) : Out := laneWord2 (fun w _ => slideDnImage w) c k t d a b s
/-- `bcast`. -/
def execBcast (c k : BitVec 1) (t : BitVec 3) (d a b : BitVec 6) (s : State) : Out := laneWord2 (fun w _ => bcastImage w) c k t d a b s
/-- `compress`. -/
def execCompress (c k : BitVec 1) (t : BitVec 3) (d a b : BitVec 6) (s : State) : Out := laneWord2 compressImage c k t d a b s
/-- `expand`. -/
def execExpand (c k : BitVec 1) (t : BitVec 3) (d a b : BitVec 6) (s : State) : Out := laneWord2 expandImage c k t d a b s
/-- `merge2`. -/
def execMerge2 (c k : BitVec 1) (t : BitVec 3) (d a b : BitVec 6) (s : State) : Out :=
  laneWord2 (fun _ _ => merge2Image (ity t)) c k t d a b s
/-- `red.add`. -/
def execRedAdd (c k : BitVec 1) (t : BitVec 3) (d a : BitVec 6) (s : State) : Out :=
  laneWord1 (ity t).w (reduceImage (ity t) (fun x y => (x + y) % 2 ^ (ity t).w) 0) c k d a s
/-- `red.min`. -/
def execRedMin (c k : BitVec 1) (t : BitVec 3) (d a : BitVec 6) (s : State) : Out :=
  laneWord1 (ity t).w (reduceImage (ity t) (fun x y => if leTy (ity t) x y then x else y) (patt (ity t).w (ity t).hi)) c k d a s
/-- `red.max`. -/
def execRedMax (c k : BitVec 1) (t : BitVec 3) (d a : BitVec 6) (s : State) : Out :=
  laneWord1 (ity t).w (reduceImage (ity t) (fun x y => if leTy (ity t) x y then y else x) (patt (ity t).w (ity t).lo)) c k d a s
/-- `red.fadd`. -/
def execRedFadd (c k : BitVec 1) (t : BitVec 3) (d a : BitVec 6) (s : State) : Out :=
  vecWord 2 c k d [a] (fun s => reduceFloat (ffmt t) s.renv s.cur.act (s.opnd a (ffmt t).bits)) s
/-- `scan.add`. -/
def execScanAdd (c k : BitVec 1) (t : BitVec 3) (d a : BitVec 6) (s : State) : Out :=
  laneWord1 (ity t).w (scanImage (ity t).w) c k d a s
/-- `vote.any`. -/
def execVoteAny (c k : BitVec 1) (d a : BitVec 6) (s : State) : Out :=
  laneWord1 64 (fun act x => splat 64 (if voteMask act x = 0 then 0 else 2 ^ 64 - 1)) c k d a s
/-- `vote.all`. -/
def execVoteAll (c k : BitVec 1) (d a : BitVec 6) (s : State) : Out :=
  laneWord1 64 (fun act x => splat 64 (if voteMask act x = act then 2 ^ 64 - 1 else 0)) c k d a s
/-- `ballot`. -/
def execBallot (c k : BitVec 1) (d a : BitVec 6) (s : State) : Out :=
  laneWord1 64 (fun act x => splat 64 (voteMask act x).toNat) c k d a s
/-- `sp24`. -/
def execSp24 (c k : BitVec 1) (t : BitVec 1) (d a : BitVec 6) (s : State) : Out :=
  laneWord1 (8 * 2 ^ t.toNat) (fun _ => sp24Image (8 * 2 ^ t.toNat)) c k d a s
/-- `sort8`. -/
def execSort8 (c k : BitVec 1) (t : BitVec 3) (d a : BitVec 6) (s : State) : Out :=
  laneWord1 (ity t).w (fun _ => sort8Image (ity t)) c k d a s
/-- `match`. -/
def execMatchEq (c k : BitVec 1) (t : BitVec 3) (d a : BitVec 6) (s : State) : Out :=
  laneWord1 (ity t).w (matchImage (ity t).w) c k d a s
/-- `transp`. -/
def execTransp (c k : BitVec 1) (t : BitVec 3) (d a : BitVec 6) (s : State) : Out :=
  laneWord1 (ity t).w (fun _ => transpImage (ity t).w) c k d a s

end Sys2Proof.Machine
end

