-- ==== Sys2Proof/Machine/Special.lean ====
section
/-! DEFINITION. The approximations of R220. The spec bounds the error and fixes the special inputs, the exact cases and the
flags; within the bound the delivered value is a free value of the configuration (Config.special), the same for the same
operation, format, input and flush bits. The exact result that the bound is judged against is computed to 320 fraction
bits. -/

namespace Sys2Proof.Machine

/-- The seven approximations. -/
inductive SpecialFn where
  | rcp | rsqrt | exp2 | log2 | sin | cos | tanh
deriving DecidableEq, Repr

/-- Fraction bits of the fixed-point values below. -/
def fxBits : Nat := 320
/-- One in fixed point. -/
def fxOne : Nat := 2 ^ 320
/-- Fixed-point product. -/
def fxMul (x y : Nat) : Nat := (x * y) >>> fxBits
/-- ln 2 in fixed point. -/
def fxLn2 : Nat := 0xb17217f7d1cf79abc9e3b39803f2f6af40f343267298b62d8a0d175b8baafa2be7b876206debac98
/-- log2 e in fixed point. -/
def fxLog2e : Nat := 0x171547652b82fe1777d0ffda0d23a7d11d6aef551bad2b4b1164a2cd9a342648fbc3887eeaa2ed9ac
/-- π/2 in fixed point. -/
def fxHalfPi : Nat := 0x1921fb54442d18469898cc51701b839a252049c1114cf98e804177d4c76273644a29410f31c6809bb
/-- 1/(2π) to 1500 fraction bits. -/
def inv2Pi : Nat := 0x28be60db9391054a7f09d5f47d4d377036d8a5664f10e4107f9458eaf7aef1586dc91b8e909374b801924bba827464873f877ac72c4a69cfba208d7d4baed1213a671c09ad17df904e64758e60d4ce7d272117e2ef7e4a0ec7fe25fff7816603fbcbc462d6829b47db4d9fb3c9f2c26dd3d18fd9a797fa8b5d49eeb1faf97c5ecf41ce7de294a4ba9afed7ec47e357421580cc11bf1edaeafc33ef0826bd0d876a78e45857b986c219666157c5281a10237ff620135cc9cc4181855

/-- Sum of the exponential series from term number `i`, with `n` more terms. -/
def expSeries (y : Nat) : Nat → Nat → Nat → Nat
  | 0, _, t => t
  | n + 1, i, t => t + expSeries y n (i + 1) (fxMul t y / (i + 1))
/-- 2^f for a fraction 0 ≤ f < 1. -/
def fxExp2 (f : Nat) : Nat := expSeries (fxMul f fxLn2) 100 0 fxOne
/-- Alternating series of sine or cosine: the term, its index, terms left; answers positive and negative sums. -/
def altSeries (y2 : Nat) : Nat → Nat → Nat → Nat × Nat
  | 0, _, _ => (0, 0)
  | n + 1, i, t =>
    let r := altSeries y2 n (i + 2) (fxMul t y2 / ((i + 1) * (i + 2)))
    (t + r.2, r.1)
/-- sin of a fixed-point angle 0 ≤ y < 2. -/
def fxSin (y : Nat) : Nat := let r := altSeries (fxMul y y) 60 1 y; r.1 - r.2
/-- cos of a fixed-point angle 0 ≤ y ≤ π/2. -/
def fxCos (y : Nat) : Nat := let r := altSeries (fxMul y y) 60 0 fxOne; r.1 - r.2
/-- Fraction bits of log2 of a mantissa 1 ≤ x < 2, by repeated squaring. -/
def fxLog2 : Nat → Nat → Nat → Nat
  | 0, _, r => r
  | n + 1, x, r =>
    let y := fxMul x x
    if 2 * fxOne ≤ y then fxLog2 n (y / 2) (2 * r + 1) else fxLog2 n y (2 * r)

/-- Floor and fraction (in fixed point) of ±m × 2^e; magnitudes past 2^20 are cut, every format has overflowed there. -/
def floorFrac (s : Bool) (m : Nat) (e : Int) : Int × Nat :=
  if 20 < binExp m e then (if s then -(2 ^ 20) else 2 ^ 20, 0)
  else
    let x := (atExp m e (-320)).1
    let x : Int := if s then -(x : Int) else x
    (Int.fdiv x (2 ^ 320), (Int.fmod x (2 ^ 320)).toNat)
/-- A fixed-point number as a value, with a last bit set: it is never exact. -/
def fxVal (s : Bool) (x : Nat) (e : Int) : FVal := .num s (2 * x + 1) (e - 321)
/-- A value just below ±m × 2^e in magnitude. -/
def justBelow (s : Bool) (m : Nat) (e : Int) : FVal := .num s (m * 2 ^ 200 - 1) (e - 200)
/-- A value just above ±m × 2^e in magnitude. -/
def justAbove (s : Bool) (m : Nat) (e : Int) : FVal := .num s (m * 2 ^ 200 + 1) (e - 200)

/-- sin and cos of ±m × 2^e. -/
def trig (isCos s : Bool) (m : Nat) (e : Int) : FVal :=
  if binExp m e < -100 then (if isCos then justBelow false 1 0 else justBelow s m e)
  else
    -- turns modulo 1, at 1500 bits below the point
    let t := m * inv2Pi
    let t := (if 0 ≤ e then t <<< e.toNat else t >>> (-e).toNat) % 2 ^ 1500
    let q := t >>> 1498
    let a := fxMul ((t % 2 ^ 1498) >>> 1178) fxHalfPi
    let quad := if isCos then (q + 1) % 4 else q
    let v := if quad % 2 = 0 then fxSin a else fxCos a
    fxVal (if isCos then decide (quad ≥ 2) else (s != decide (quad ≥ 2))) v 0

/-- The exact cases of R220, with their exact results. -/
def specialExact (fn : SpecialFn) (s : Bool) (m : Nat) (e : Int) : Option FVal :=
  let k := Nat.log2 m
  let pow2 := decide (m = 2 ^ k)
  match fn with
  | .rcp => if pow2 then some (.num s 1 (-(e + k))) else none
  | .rsqrt => if pow2 ∧ (e + k) % 2 = 0 then some (.num false 1 (-((e + k) / 2))) else none
  | .exp2 => let (i, f) := floorFrac s m e
             if f = 0 ∧ (atExp m e 0).2.1 = 0 then some (.num false 1 (max (-5000) (min 5000 i))) else none
  | .log2 => if pow2 then some (intVal (e + k)) else none
  | .sin => none | .cos => none | .tanh => none

/-- The exact result of a finite non-zero input, to fixed-point accuracy; a power of two of `exp2` is exact, subnormal ones too. -/
def specialRef (fn : SpecialFn) (s : Bool) (m : Nat) (e : Int) : FVal :=
  match fn with
  | .rcp => divNum s 1 m (-e)
  | .rsqrt => sqrtNum (2 ^ 400 / m * 2 + 1) (-401 - e)
  | .exp2 =>
    match specialExact .exp2 s m e with
    | some y => y
    | none =>
      if binExp m e < -200 then (if s then justBelow false 1 0 else justAbove false 1 0)
      else
        let (i, f) := floorFrac s m e
        fxVal false (fxExp2 f) (max (-5000) (min 5000 i))
  | .log2 =>
    let k := binExp m e
    let x := (atExp m (e - k) (-320)).1
    let v : Int := k * 2 ^ 320 + (fxLog2 320 x 0 : Int)
    fxVal (decide (v < 0)) v.natAbs 0
  | .sin => trig false s m e
  | .cos => trig true s m e
  | .tanh =>
    if binExp m e < -64 then justBelow s m e
    else if 12 < binExp m e then justBelow s 1 0
    else
      let (i, f) := floorFrac false (fxLog2e * m) (e - 319)
      -- t = e^(2|x|) = 2^i × fxExp2 f
      let t := fxExp2 f <<< i.toNat
      divNum s (t - fxOne) (t + fxOne) 0

/-- |x − y| ≤ b × 2^q for finite values. -/
def withinBound (x y : FVal) (b : Nat) (q : Int) : Bool :=
  match x, y with
  | .num s m e, .num t n g =>
    let z := min (min e g) q
    decide ((sigAt s m e z - sigAt t n g z).natAbs ≤ b <<< (q - z).toNat)
  | _, _ => false

/-- Units in the last place that R220 allows for f64 and f32. -/
def SpecialFn.ulps : SpecialFn → Nat
  | .rcp => 1 | .rsqrt => 1 | .exp2 => 2 | .log2 => 2 | .sin => 2 | .cos => 2 | .tanh => 2
/-- Number of the function, as the free value is asked for it. -/
def SpecialFn.num : SpecialFn → Nat
  | .rcp => 0 | .rsqrt => 1 | .exp2 => 2 | .log2 => 3 | .sin => 4 | .cos => 5 | .tanh => 6

/-- A pattern lies within the bound of R220 of the exact result y of an input v. -/
def specialBound (fn : SpecialFn) (f : FFmt) (v y : FVal) (r : Nat) : Bool :=
  match y with
  | .num _ m e =>
    let b := binExp m e
    let near : Bool := match v with
      | .num false n g => !decide (g + Nat.log2 n < -1) && !ltVal false (.num false 2 0) v
      | _ => false
    if fn = .log2 ∧ near then withinBound (valueOf f r) y 1 (if f = .f64 then -52 else -22)
    else if b < f.emin then withinBound (valueOf f r) y 2 (f.emin - f.frac)
    else withinBound (valueOf f r) y fn.ulps (b - f.frac)
  | _ => false

/-- A finite non-zero input that is no exact case: correctly rounded in 16 bits; in f32 and f64 the free value, when it
keeps the bound. A result that overflows is ∞. -/
def specialValue (fn : SpecialFn) (f : FFmt) (fzi fzo : Bool) (x : Nat) (v : FVal) : Nat :=
  match v with
  | .num s m e =>
    let y := specialRef fn s m e
    let near := (roundVal f .rne 0 y).1
    let pick := Config.special fn.num f.bits x fzi fzo % 2 ^ f.bits
    if f.bits = 16 ∨ near % 2 ^ (f.bits - 1) = f.infPat false then near else if specialBound fn f v y pick then pick else near
  | _ => 0

/-- One element of an approximation (R220). -/
def specialOp (fn : SpecialFn) : FloatOp := fun env f _ a _ _ =>
  let x := flushIn f env.fzi a
  let v := valueOf f x
  let one := (roundVal f .rne 0 (.num false 1 0)).1
  match v with
  | .nan _ => (f.nan, nanFlags [v])
  | .inf s =>
    match fn with
    | .rcp => (f.zeroPat s, 0)
    | .rsqrt => if s then (f.nan, flagNV) else (f.zeroPat false, 0)
    | .exp2 => (if s then f.zeroPat false else f.infPat false, 0)
    | .log2 => if s then (f.nan, flagNV) else (f.infPat false, 0)
    | .sin => (f.nan, flagNV)
    | .cos => (f.nan, flagNV)
    | .tanh => (f.zeroPat s + one, 0)
  | .num s m e =>
    if m = 0 then
      match fn with
      | .rcp => (f.infPat s, flagDZ)
      | .rsqrt => (f.infPat s, flagDZ)
      | .exp2 => (one, 0)
      | .log2 => (f.infPat true, flagDZ)
      | .sin => (x, 0)
      | .cos => (one, 0)
      | .tanh => (x, 0)
    else if s ∧ (fn = .rsqrt ∨ fn = .log2) then (f.nan, flagNV)
    else
      let ex := match specialExact fn s m e with
        | some (.num t n g) =>
          if n = 0 then some (f.zeroPat t)
          else
            let r := roundNum f .rne 0 t n g
            let field := (f.split r.1).2.1
            if r.2 = 0 ∧ field ≠ 0 ∧ field ≠ f.eOnes then some r.1 else none
        | _ => none
      match ex with
      | some r => (r, 0)
      | none =>
        let r := specialValue fn f env.fzi env.fzo x v
        let (t, field, _) := f.split r
        if field = f.eOnes then (r, flagOF ||| flagNX)
        else if field = 0 then (if env.fzo then f.zeroPat t else r, flagUF ||| flagNX)
        else (r, flagNX)

/-- An approximation word: it ignores FPC.RM and never draws. -/
def specialWord (fn : SpecialFn) (c k : BitVec 1) (t : BitVec 3) (d a : BitVec 6) (s : State) : Out :=
  floatUnary 2 false (specialOp fn) c k t d a s

/-- `rcp`. -/
def execRcp (c k : BitVec 1) (t : BitVec 3) (d a : BitVec 6) (s : State) : Out := specialWord .rcp c k t d a s
/-- `rsqrt`. -/
def execRsqrt (c k : BitVec 1) (t : BitVec 3) (d a : BitVec 6) (s : State) : Out := specialWord .rsqrt c k t d a s
/-- `exp2`. -/
def execExp2 (c k : BitVec 1) (t : BitVec 3) (d a : BitVec 6) (s : State) : Out := specialWord .exp2 c k t d a s
/-- `log2`. -/
def execLog2 (c k : BitVec 1) (t : BitVec 3) (d a : BitVec 6) (s : State) : Out := specialWord .log2 c k t d a s
/-- `sin`. -/
def execSin (c k : BitVec 1) (t : BitVec 3) (d a : BitVec 6) (s : State) : Out := specialWord .sin c k t d a s
/-- `cos`. -/
def execCos (c k : BitVec 1) (t : BitVec 3) (d a : BitVec 6) (s : State) : Out := specialWord .cos c k t d a s
/-- `tanh`. -/
def execTanh (c k : BitVec 1) (t : BitVec 3) (d a : BitVec 6) (s : State) : Out := specialWord .tanh c k t d a s

end Sys2Proof.Machine
end

