-- ==== Sys2Proof/Machine/System.lean ====
section
/-! DEFINITION. System words, system registers, traps and queries: major 15 (R264-R269). -/

namespace Sys2Proof.Machine

/-- PRIO (R50, R265). -/
def execPrio (c : BitVec 1) (p : BitVec 12) (s : State) : Out :=
  .next (finish c (if s.cur.act = 0 then s else s.mapCur (fun c => { c with newPrio := some p })))

/-! ## System registers -/

/-- CID (R131). -/
def cidReg (t : Team) : Nat := match t.cid with | some c => c.toNat + 2 ^ 16 | none => 0
/-- The value of a system register for the group on the port (R266): group registers as before the cycle, the rest as it stood
when the bundle issued. -/
def State.sysReg (s : State) (i : Nat) : Nat :=
  let g := s.cg
  let t := s.ct
  let r := s.cur.src
  let core := coreOf s.cur.gk
  let x := s.sampledNow
  if 0x030 ≤ i ∧ i < 0x038 then (nget 0 r.m (i - 0x030)).toNat
  else if 0x038 ≤ i ∧ i < 0x03B then (nget 0 r.lc (i - 0x038)).toNat
  else if 0x040 ≤ i ∧ i < 0x050 then (nget 0 r.p (i - 0x040)).toNat
  else match i with
    | 0x000 => g.gid
    | 0x001 => t.id
    | 0x002 => t.grid.toNat
    | 0x003 => s.cgrid.depth
    | 0x004 => cidReg t
    | 0x008 => core
    | 0x009 => dieOf core
    | 0x010 => r.fpc.toNat
    | 0x011 => r.nflags.toNat
    | 0x012 => r.seed.toNat
    | 0x018 => x.tokbank
    | 0x019 => x.clock.toNat
    | 0x01A => x.time
    | 0x020 => x.phase.toNat
    | 0x021 => x.faultmask.toNat
    | 0x022 => x.parked.toNat
    | 0x023 => x.landings.length
    | _ => 0
/-- FPC written (R155): RM = 6 and 7 leave RM, and FZI and FZO are written; the bits above stay 0. -/
def writeFpc (old : BitVec 5) (x : Dword) : BitVec 5 :=
  if 6 ≤ (x.setWidth 3).toNat then (x.setWidth 5 &&& 0x18) ||| (old &&& 7) else x.setWidth 5
/-- A system register written (R266): a write to a read-only register is ignored, reserved bits stay 0. -/
def writeSys (i : Nat) (x : Dword) (r : Regs) : Regs :=
  if 0x030 ≤ i ∧ i < 0x038 then { r with m := nput r.m (i - 0x030) (x &&& 0x0FFFFFFFFFFFFFFF) }
  else if 0x040 ≤ i ∧ i < 0x050 then { r with p := nput r.p (i - 0x040) (x.setWidth 32) }
  else match i with
    | 0x010 => { r with fpc := writeFpc r.fpc x }
    | 0x011 => { r with nflags := x.setWidth 8 }
    | 0x012 => { r with seed := x }
    | _ => r
/-- RSYS (R266). -/
def execRsys (d : BitVec 6) (i : BitVec 12) (s : State) : Out :=
  scalarWord 0 (fun s => writeS d (BitVec.ofNat 64 (s.sysReg i.toNat)) false) s
/-- WSYS (R266). -/
def execWsys (a : BitVec 6) (i : BitVec 12) (s : State) : Out := scalarWord 0 (fun s => writeSys i.toNat (s.sreg a)) s

/-! ## Traps -/

/-- TRAP (R267). -/
def execTrap (c : BitVec 12) (s : State) : Out := trapLanes 0x140 s.cur.act c s
/-- BRK (R267). -/
def execBrk (c : BitVec 12) (s : State) : Out := trapLanes 0x141 s.cur.act c s
/-- ERET (R267): privileged in every group stream. -/
def execEret (s : State) : Out := .next (finish 0 (addFails ((lanesOf s.cur.act).map (failOf 0x142)) s))
/-- UDF (R178): the unassigned-FN cause of major 15; its bundle has no other effect. -/
def execUdf (c : BitVec 1) (_k : BitVec 1) (_x : BitVec 21) (s : State) : Out :=
  .next (finish c (addFails ((lanesOf s.cur.act).map (failOf 0x00F)) s))

/-! ## Queries and waits -/

/-- The counter that `tokq` reads (R268), as it stood when the bundle issued, before the deductions of that cycle. -/
def State.tokValue (s : State) (sel : Nat) : Nat :=
  let x := s.sampledNow
  match sel with
  | 0 => x.tokbank
  | n + 1 => x.toks.getD (min n 4) 0
/-- TOKQ (R268). -/
def execTokq (d : BitVec 6) (sel : BitVec 3) (s : State) : Out :=
  scalarWord 0 (fun s => writeS d (BitVec.ofNat 64 (s.tokValue sel.toNat)) false) s
/-- A load of the entry from before the bundle has not returned (R268). -/
def State.loadsOut (s : State) : Bool := (s.cg.inFlight.take s.cur.flights).any (fun f => f.mask &&& s.cur.entry.mask != 0)
/-- CLOCK (R268): stores and atomics are performed at issue in this model, so it waits for loads; those of its own bundle return
their data before it reads CLOCK or TIME. -/
def execClock (d : BitVec 6) (sel : BitVec 1) (s : State) : Out :=
  if s.cur.act != 0 && s.loadsOut then .next (finish 0 (s.block .clock))
  else
    let s := if s.cur.act = 0 then s else s.mapCg (fun g => { g with inFlight := g.inFlight.take s.cur.flights })
    scalarWord 0 (fun s => writeS d (if sel = 1 then BitVec.ofNat 64 s.time else s.sampleHere.clock) false) s
/-- The entry is ineligible for the next `n` cycles (R269); its count takes in the rest of the cycle that issues. -/
def rest (n : Nat) (s : State) : Out := .next (finish 0 (if s.cur.act = 0 then s else s.mapCur (fun c => { c with sleep := n + 1 })))
/-- YIELD (R269). -/
def execYield (s : State) : Out := rest 16 s
/-- SLEEP (R269). -/
def execSleep (n : BitVec 16) (s : State) : Out := rest (if n = 0 then 16 else 64 * n.toNat) s
/-- SLEEP_EXPIRY (R269): an entry whose cycles have run out is mergeable again. -/
def execSleepExpiry (gk : Nat) (idx : Nat) (s : State) : Out :=
  let g := s.group gk
  match g.frontier[idx]? with
  | none => .next s
  | some e =>
    if e.sleep = 1 then
      .next (s.setGroup gk { g with frontier := normFrontier (g.frontier.set idx { e with sleep := 0 }) })
    else .next s

end Sys2Proof.Machine
end

