-- ==== Sys2Proof/Machine/Group.lean ====
section
/-! DEFINITION. Execution of one word of a group stream, as the quadrant and the events that finish a waiting bundle use it. -/

namespace Sys2Proof.Machine

/-- The effect of one word of a group stream on the bundle on the port; no other row stands in a group stream (R185). -/
def execWord (i : Instr) (s : State) : Out :=
  match i with
  | .nop c => execNop c s
  | .add c k t d a b => execAdd c k t d a b s
  | .addScalar c k t d a x_s => execAddScalar c k t d a x_s s
  | .sub c k t d a b => execSub c k t d a b s
  | .subScalar c k t d a x_s => execSubScalar c k t d a x_s s
  | .adds c k t d a b => execAdds c k t d a b s
  | .addsScalar c k t d a x_s => execAddsScalar c k t d a x_s s
  | .subs c k t d a b => execSubs c k t d a b s
  | .subsScalar c k t d a x_s => execSubsScalar c k t d a x_s s
  | .mul c k t d a b => execMul c k t d a b s
  | .mulScalar c k t d a x_s => execMulScalar c k t d a x_s s
  | .mulh c k t d a b => execMulh c k t d a b s
  | .mulhScalar c k t d a x_s => execMulhScalar c k t d a x_s s
  | .mad c k t d a b => execMad c k t d a b s
  | .madScalar c k t d a x_s => execMadScalar c k t d a x_s s
  | .dot2 c k t d a b => execDot2 c k t d a b s
  | .dot2Scalar c k t d a x_s => execDot2Scalar c k t d a x_s s
  | .min c k t d a b => execMin c k t d a b s
  | .minScalar c k t d a x_s => execMinScalar c k t d a x_s s
  | .max c k t d a b => execMax c k t d a b s
  | .maxScalar c k t d a x_s => execMaxScalar c k t d a x_s s
  | .absd c k t d a b => execAbsd c k t d a b s
  | .absdScalar c k t d a x_s => execAbsdScalar c k t d a x_s s
  | .and c k t d a b => execAnd c k t d a b s
  | .andScalar c k t d a x_s => execAndScalar c k t d a x_s s
  | .or c k t d a b => execOr c k t d a b s
  | .orScalar c k t d a x_s => execOrScalar c k t d a x_s s
  | .xor c k t d a b => execXor c k t d a b s
  | .xorScalar c k t d a x_s => execXorScalar c k t d a x_s s
  | .andn c k t d a b => execAndn c k t d a b s
  | .andnScalar c k t d a x_s => execAndnScalar c k t d a x_s s
  | .shl c k t d a b => execShl c k t d a b s
  | .shlScalar c k t d a x_s => execShlScalar c k t d a x_s s
  | .shr c k t d a b => execShr c k t d a b s
  | .shrScalar c k t d a x_s => execShrScalar c k t d a x_s s
  | .shrr c k t d a b => execShrr c k t d a b s
  | .shrrScalar c k t d a x_s => execShrrScalar c k t d a x_s s
  | .rotl c k t d a b => execRotl c k t d a b s
  | .rotlScalar c k t d a x_s => execRotlScalar c k t d a x_s s
  | .ceq c k t d a b => execCeq c k t d a b s
  | .ceqScalar c k t d a x_s => execCeqScalar c k t d a x_s s
  | .clt c k t d a b => execClt c k t d a b s
  | .cltScalar c k t d a x_s => execCltScalar c k t d a x_s s
  | .cle c k t d a b => execCle c k t d a b s
  | .cleScalar c k t d a x_s => execCleScalar c k t d a x_s s
  | .bfx c k t d a b => execBfx c k t d a b s
  | .bfxScalar c k t d a x_s => execBfxScalar c k t d a x_s s
  | .bfi c k t d a b => execBfi c k t d a b s
  | .bfiScalar c k t d a x_s => execBfiScalar c k t d a x_s s
  | .popc c k t d a => execPopc c k t d a s
  | .clz c k t d a => execClz c k t d a s
  | .brev c k t d a => execBrev c k t d a s
  | .sel c k t d a b => execSel c k t d a b s
  | .selScalar c k t d a x_s => execSelScalar c k t d a x_s s
  | .avg c k t d a b => execAvg c k t d a b s
  | .avgScalar c k t d a x_s => execAvgScalar c k t d a x_s s
  | .fadd c k t d a b => execFadd c k t d a b s
  | .faddScalar c k t d a x_s => execFaddScalar c k t d a x_s s
  | .fsub c k t d a b => execFsub c k t d a b s
  | .fsubScalar c k t d a x_s => execFsubScalar c k t d a x_s s
  | .fmul c k t d a b => execFmul c k t d a b s
  | .fmulScalar c k t d a x_s => execFmulScalar c k t d a x_s s
  | .fma c k t d a b => execFma c k t d a b s
  | .fmaScalar c k t d a x_s => execFmaScalar c k t d a x_s s
  | .fms c k t d a b => execFms c k t d a b s
  | .fmsScalar c k t d a x_s => execFmsScalar c k t d a x_s s
  | .fnma c k t d a b => execFnma c k t d a b s
  | .fnmaScalar c k t d a x_s => execFnmaScalar c k t d a x_s s
  | .fmin c k t d a b => execFmin c k t d a b s
  | .fminScalar c k t d a x_s => execFminScalar c k t d a x_s s
  | .fmax c k t d a b => execFmax c k t d a b s
  | .fmaxScalar c k t d a x_s => execFmaxScalar c k t d a x_s s
  | .fminm c k t d a b => execFminm c k t d a b s
  | .fminmScalar c k t d a x_s => execFminmScalar c k t d a x_s s
  | .fmaxm c k t d a b => execFmaxm c k t d a b s
  | .fmaxmScalar c k t d a x_s => execFmaxmScalar c k t d a x_s s
  | .fabs c k t d a => execFabs c k t d a s
  | .fneg c k t d a => execFneg c k t d a s
  | .fceq c k t d a b => execFceq c k t d a b s
  | .fceqScalar c k t d a x_s => execFceqScalar c k t d a x_s s
  | .fclt c k t d a b => execFclt c k t d a b s
  | .fcltScalar c k t d a x_s => execFcltScalar c k t d a x_s s
  | .fcle c k t d a b => execFcle c k t d a b s
  | .fcleScalar c k t d a x_s => execFcleScalar c k t d a x_s s
  | .fcun c k t d a b => execFcun c k t d a b s
  | .fcunScalar c k t d a x_s => execFcunScalar c k t d a x_s s
  | .fcls c k t d a => execFcls c k t d a s
  | .frnd c k t d a => execFrnd c k t d a s
  | .fcopysign c k t d a b => execFcopysign c k t d a b s
  | .fcopysignScalar c k t d a x_s => execFcopysignScalar c k t d a x_s s
  | .fscale c k t d a b => execFscale c k t d a b s
  | .fscaleScalar c k t d a x_s => execFscaleScalar c k t d a x_s s
  | .fdot2 c k t d a b => execFdot2 c k t d a b s
  | .fdot2Scalar c k t d a x_s => execFdot2Scalar c k t d a x_s s
  | .cvt c k t d a u y => execCvt c k t d a u y s
  | .pack c k t d a b => execPack c k t d a b s
  | .unpackLo c k t d a => execUnpackLo c k t d a s
  | .unpackHi c k t d a => execUnpackHi c k t d a s
  | .rcp c k t d a => execRcp c k t d a s
  | .rsqrt c k t d a => execRsqrt c k t d a s
  | .sqrt c k t d a => execSqrt c k t d a s
  | .exp2 c k t d a => execExp2 c k t d a s
  | .log2 c k t d a => execLog2 c k t d a s
  | .sin c k t d a => execSin c k t d a s
  | .cos c k t d a => execCos c k t d a s
  | .tanh c k t d a => execTanh c k t d a s
  | .quant c k t d a b => execQuant c k t d a b s
  | .dequant c k t d a b => execDequant c k t d a b s
  | .cbk c k d a b => execCbk c k d a b s
  | .fdiv c k t d a b => execFdiv c k t d a b s
  | .idiv c k t d a b => execIdiv c k t d a b s
  | .irem c k t d a b => execIrem c k t d a b s
  | .shfl c k t d a b => execShfl c k t d a b s
  | .slideUp c k t d a b => execSlideUp c k t d a b s
  | .slideDn c k t d a b => execSlideDn c k t d a b s
  | .bcast c k t d a b => execBcast c k t d a b s
  | .redAdd c k t d a => execRedAdd c k t d a s
  | .redMin c k t d a => execRedMin c k t d a s
  | .redMax c k t d a => execRedMax c k t d a s
  | .redFadd c k t d a => execRedFadd c k t d a s
  | .scanAdd c k t d a => execScanAdd c k t d a s
  | .voteAny c k d a => execVoteAny c k d a s
  | .voteAll c k d a => execVoteAll c k d a s
  | .ballot c k d a => execBallot c k d a s
  | .sp24 c k t d a => execSp24 c k t d a s
  | .sort8 c k t d a => execSort8 c k t d a s
  | .matchEq c k t d a => execMatchEq c k t d a s
  | .compress c k t d a b => execCompress c k t d a b s
  | .expand c k t d a b => execExpand c k t d a b s
  | .transp c k t d a => execTransp c k t d a s
  | .merge2 c k t d a b => execMerge2 c k t d a b s
  | .addi c k d a w x_i => execAddi c k d a w x_i s
  | .muli c k d a w x_i => execMuli c k d a w x_i s
  | .andi c k d a w x_i => execAndi c k d a w x_i s
  | .ori c k d a w x_i => execOri c k d a w x_i s
  | .xori c k d a w x_i => execXori c k d a w x_i s
  | .shli c k d a w x_i => execShli c k d a w x_i s
  | .shri c k d a w x_i => execShri c k d a w x_i s
  | .srai c k d a w x_i => execSrai c k d a w x_i s
  | .shrri c k d a w x_i => execShrri c k d a w x_i s
  | .ceqi c k d a w x_i => execCeqi c k d a w x_i s
  | .clti c k d a w x_i => execClti c k d a w x_i s
  | .slidei c k d a w x_i => execSlidei c k d a w x_i s
  | .mini c k d a w x_i => execMini c k d a w x_i s
  | .maxi c k d a w x_i => execMaxi c k d a w x_i s
  | .sadd c d a x_i b => execSadd c d a x_i b s
  | .ssub c d a x_i b => execSsub c d a x_i b s
  | .smul c d a x_i b => execSmul c d a x_i b s
  | .smulh c d a x_i b => execSmulh c d a x_i b s
  | .sand c d a x_i b => execSand c d a x_i b s
  | .sor c d a x_i b => execSor c d a x_i b s
  | .sxor c d a x_i b => execSxor c d a x_i b s
  | .sshl c d a x_i b => execSshl c d a x_i b s
  | .sshr c d a x_i b => execSshr c d a x_i b s
  | .ssra c d a x_i b => execSsra c d a x_i b s
  | .smin c d a x_i b => execSmin c d a x_i b s
  | .smax c d a x_i b => execSmax c d a x_i b s
  | .sceq c d a x_i b => execSceq c d a x_i b s
  | .sclt c d a x_i b => execSclt c d a x_i b s
  | .scltn c d a x_i b => execScltn c d a x_i b s
  | .ssel c d a x_i b => execSsel c d a x_i b s
  | .sbfx c d a x_i b => execSbfx c d a x_i b s
  | .sbfi c d a x_i b => execSbfi c d a x_i b s
  | .spopc c d a => execSpopc c d a s
  | .sclz c d a => execSclz c d a s
  | .vtos c d a x_i b => execVtos c d a x_i b s
  | .stov c d a x_i b => execStov c d a x_i b s
  | .sdiv c d a x_i b => execSdiv c d a x_i b s
  | .srem c d a x_i b => execSrem c d a x_i b s
  | .liS c d h x_i => execLiS c d h x_i s
  | .likS c d h x_i => execLikS c d h x_i s
  | .liV c k d h x_i => execLiV c k d h x_i s
  | .likV c k d h x_i => execLikV c k d h x_i s
  | .ld c d x_s m w o => execLd c d x_s m w o s
  | .st c d x_s m w o => execSt c d x_s m w o s
  | .ldtm c d x_s m w o => execLdtm c d x_s m w o s
  | .sttm c d x_s m w o => execSttm c d x_s m w o s
  | .ldacc c d x_s => execLdacc c d x_s s
  | .stacc c d x_s => execStacc c d x_s s
  | .ldnt c d x_s m w o => execLdnt c d x_s m w o s
  | .stnt c d x_s m w o => execStnt c d x_s m w o s
  | .lds c d x_s m w o => execLds c d x_s m w o s
  | .sts c d x_s m w o => execSts c d x_s m w o s
  | .pref c x_s m o => execPref c x_s m o s
  | .ldg c d a x_s w x => execLdg c d a x_s w x s
  | .stg c d a x_s w x => execStg c d a x_s w x s
  | .ldgtm c d a x_s w x => execLdgtm c d a x_s w x s
  | .stgtm c d a x_s w x => execStgtm c d a x_s w x s
  | .bra p o => execBra p o s
  | .brn p o => execBrn p o s
  | .jmp o => execJmp o s
  | .call o => execCall o s
  | .jmpi a => execJmpi a s
  | .ret => execRet s
  | .join j o => execJoin j o s
  | .loop l x_s n => execLoop l x_s n s
  | .exit => execExit s
  | .braAny p o => execBraAny p o s
  | .braAll p o => execBraAll p o s
  | .trapc p c => execTrapc p c s
  | .amoadd c x_s o d a l w => execAmoadd c x_s o d a l w s
  | .amomin c x_s o d a u l w => execAmomin c x_s o d a u l w s
  | .amomax c x_s o d a u l w => execAmomax c x_s o d a u l w s
  | .amoand c x_s o d a l w => execAmoand c x_s o d a l w s
  | .amoor c x_s o d a l w => execAmoor c x_s o d a l w s
  | .amoxor c x_s o d a l w => execAmoxor c x_s o d a l w s
  | .amoswap c x_s o d a l w => execAmoswap c x_s o d a l w s
  | .amocas c x_s o d a l w => execAmocas c x_s o d a l w s
  | .amoinc c x_s o d a l w => execAmoinc c x_s o d a l w s
  | .amofadd c x_s o d a l w => execAmofadd c x_s o d a l w s
  | .lr c x_s o d a l w => execLr c x_s o d a l w s
  | .sc c x_s o d a l w => execSc c x_s o d a l w s
  | .fence c x_s o => execFence c x_s o s
  | .pub c x_s d a => execPub c x_s d a s
  | .ldref c x_s o d a => execLdref c x_s o d a s
  | .stref c x_s o d a => execStref c x_s o d a s
  | .xpub c x_s d a => execXpub c x_s d a s
  | .arrive c x_s o d a => execArrive c x_s o d a s
  | .await c x_s o d a => execAwait c x_s o d a s
  | .bar c x_s o => execBar c x_s o s
  | .tagq c d a => execTagq c d a s
  | .untag c d => execUntag c d s
  | .xcpy c a => execXcpy c a s
  | .xnbmv c a => execXnbmv c a s
  | .xwait c n => execXwait c n s
  | .nbarArrive c n k => execNbarArrive c n k s
  | .nbarWait c a k => execNbarWait c a k s
  | .tstart c a => execTstart c a s
  | .launch c a => execLaunch c a s
  | .lwait c n => execLwait c n s
  | .prio c p => execPrio c p s
  | .rsys d x_i => execRsys d x_i s
  | .wsys a x_i => execWsys a x_i s
  | .trap c => execTrap c s
  | .eret => execEret s
  | .phase p => execPhase p s
  | .tokq d x_s => execTokq d x_s s
  | .clock d x_s => execClock d x_s s
  | .yield => execYield s
  | .sleep n => execSleep n s
  | .brk c => execBrk c s
  | .udf c k x => execUdf c k x s
  | _ => .next s

end Sys2Proof.Machine
end

