-- ==== Sys2Proof/Machine/Words.lean ====
section
/-! DEFINITION. What the quadrant reads off the words of a bundle before it executes them: pipe (R18), price (R80, R82), register
fields (R179, R180, R182) and the checks 3 and 4 of R185 with the reasons of R187. -/

namespace Sys2Proof.Machine

/-- Five-bit function number. -/
def fn5 (w : Word) : Nat := (fld w 21 5).toNat
/-- Four-bit function number of majors 6, 9, 10 and 11. -/
def fn4 (w : Word) : Nat := (fld w 22 4).toNat
/-- TY. -/
def tyOf (w : Word) : Nat := (fld w 18 3).toNat
/-- C. -/
def chained (w : Word) : Bool := w.getLsbD 31
/-- `nop` (R178). -/
def isNop (w : Word) : Bool := w &&& 0x7FFFFFFF#32 == 0

/-- The pipes of R18. -/
inductive Pipe where
  | s | v0 | v1 | x | m | e
deriving DecidableEq, Repr

/-- The pipe of a word; `nop` has none (R18, R178). -/
def pipeOf (w : Word) : Option Pipe :=
  match majorOf w with
  | 0 => if isNop w then none else some .v1
  | 1 => some .v0 | 2 => some .x | 3 => some .x | 4 => some .v1 | 5 => some .v0 | 6 => some .v1 | 7 => some .s
  | 8 => some (if w.getLsbD 25 then .v1 else .s)
  | 9 => some .m | 10 => some .m | 11 => some .s | 12 => some .m | 13 => some .e | 14 => none | _ => some .s

/-- Price of an integer function number (R82). -/
def intPrice (fn : Nat) : Nat := if fn = 0 then 0 else if 5 ≤ fn ∧ fn ≤ 8 then 3 else 2
/-- Price of a float function number at a width other than 64 (R82); f64 costs double but for the sign words. -/
def floatPrice (fn ty : Nat) : Nat :=
  if fn = 10 ∨ fn = 11 ∨ fn = 18 then 2
  else (if (3 ≤ fn ∧ fn ≤ 5) ∨ fn = 20 then 4 else 3) * (if ty = 0 then 2 else 1)
/-- Price of a word of a group stream (R82). -/
def priceOf (w : Word) : Nat :=
  match majorOf w with
  | 0 => intPrice (fn5 w)
  | 4 => intPrice (fn5 w)
  | 1 => floatPrice (fn5 w) (tyOf w)
  | 5 => floatPrice (fn5 w) (tyOf w)
  | 2 => [2, 2, 2, 2, 8, 8, 16, 8, 8, 8, 8, 8, 2, 2, 3, 16, 16, 16].getD (fn5 w) 0
  | 3 => [3, 3, 3, 3, 5, 5, 5, 5, 5, 3, 3, 3, 4, 4, 4, 4, 4, 3, 4].getD (fn5 w) 0
  | 6 => if fn4 w = 1 ∨ fn4 w = 11 then 3 else 2
  | 8 => if w.getLsbD 25 then 2 else 0
  | 9 => [4, 4, 2, 2, 4, 4, 4, 4, 4, 4, 2].getD (fn4 w) 0
  | 10 => [8, 8, 4, 4].getD (fn4 w) 0
  | 12 => [6, 6, 6, 6, 6, 6, 6, 6, 6, 6, 6, 6, 0, 16, 4, 4, 8, 6, 2, 2, 2, 2].getD (fn5 w) 0
  | 13 => [8, 16, 2, 0, 0, 8, 16, 2].getD (fn5 w) 0
  | _ => 0

/-- One register field of a word. -/
structure RegUse where
  /-- A vector operand code, else an s-register number. -/
  vec : Bool
  /-- The field's value. -/
  code : Nat
  /-- The word writes it. -/
  write : Bool
  /-- The word reads it. -/
  read : Bool
deriving DecidableEq, Repr

/-- A vector field of the word that is read. -/
def vr (w : Word) (lo : Nat) : RegUse := ⟨true, (fld w lo 6).toNat, false, true⟩
/-- A vector destination. -/
def vw (w : Word) (lo : Nat) : RegUse := ⟨true, (fld w lo 6).toNat, true, false⟩
/-- A vector field that is read and written. -/
def vrw (w : Word) (lo : Nat) : RegUse := ⟨true, (fld w lo 6).toNat, true, true⟩
/-- A scalar field that is read. -/
def sr (w : Word) (lo : Nat) : RegUse := ⟨false, (fld w lo 6).toNat, false, true⟩
/-- A scalar destination. -/
def sw (w : Word) (lo : Nat) : RegUse := ⟨false, (fld w lo 6).toNat, true, false⟩
/-- A scalar field that is read and written. -/
def srw (w : Word) (lo : Nat) : RegUse := ⟨false, (fld w lo 6).toNat, true, true⟩

/-- Register fields of a format V3 word: `b` is its B field, if the word has one. -/
def v3Uses (w : Word) (third : Bool) (b : List RegUse) : List RegUse := (if third then vrw w 12 else vw w 12) :: vr w 6 :: b
/-- The integer words that read D (R195). -/
def intReadsD (fn : Nat) : Bool := fn == 7 || fn == 8 || fn == 24 || fn == 28
/-- The integer words without B. -/
def intNoB (fn : Nat) : Bool := fn == 25 || fn == 26 || fn == 27
/-- The float words that read D. -/
def fltThird (fn : Nat) : Bool := fn == 3 || fn == 4 || fn == 5 || fn == 20
/-- The float words without B. -/
def fltNoB (fn : Nat) : Bool := fn == 10 || fn == 11 || fn == 16 || fn == 17
/-- The register fields of a word of a group stream, most significant first (R182, R185). -/
def regUses (w : Word) : List RegUse :=
  match majorOf w with
  | 0 => if fn5 w = 0 then [] else v3Uses w (intReadsD (fn5 w)) (if intNoB (fn5 w) then [] else [vr w 0])
  | 4 => v3Uses w (intReadsD (fn5 w)) (if intNoB (fn5 w) then [] else [sr w 0])
  | 1 => v3Uses w (fltThird (fn5 w)) (if fltNoB (fn5 w) then [] else [vr w 0])
  | 5 => v3Uses w (fltThird (fn5 w)) (if fltNoB (fn5 w) then [] else [sr w 0])
  | 2 => v3Uses w false (if [1, 14, 15, 16, 17].contains (fn5 w) || ([12, 13].contains (fn5 w) && tyOf w != 5) then [vr w 0] else [])
  | 3 => v3Uses w false (if [0, 1, 2, 3, 15, 16, 18].contains (fn5 w) then [vr w 0] else [])
  | 6 => [vw w 16, vr w 10]
  | 7 =>
    let b := if w.getLsbD 8 || fn5 w == 18 || fn5 w == 19 then [] else [sr w 0]
    if fn5 w = 20 then sw w 15 :: vr w 9 :: b
    else if fn5 w = 21 then vw w 15 :: sr w 9 :: b
    else (if fn5 w = 15 ∨ fn5 w = 17 then srw w 15 else sw w 15) :: sr w 9 :: b
  | 8 =>
    let keep := w.getLsbD 16
    [if w.getLsbD 25 then (if keep then vrw w 19 else vw w 19) else (if keep then srw w 19 else sw w 19)]
  | 9 =>
    (match fn4 w with
     | 10 => []
     | 8 => [sw w 16]
     | 9 => [sr w 16]
     | n => [if n % 2 = 0 then vw w 16 else vr w 16]) ++
      -- AM 3 reads no SB (R234)
      (if (fn4 w = 2 ∨ fn4 w = 3) ∧ fld w 7 3 = 3 then [] else [sr w 10])
  | 10 => [if fn4 w % 2 = 0 then vw w 16 else vr w 16, vr w 10, sr w 4]
  | 11 => if fn4 w = 4 then [sr w 12] else if fn4 w = 7 then [sr w 14] else []
  | 12 =>
    match fn5 w with
    | 12 => []
    | 19 => []
    | 16 => [sr w 10, sr w 4]
    | 13 => [vr w 10, vr w 4]
    | 15 => [vr w 10, vr w 4]
    | 17 => [vr w 10, vr w 4]
    | 21 => [vrw w 10]
    | 10 => [vw w 10, vr w 4]
    | 14 => [vw w 10, vr w 4]
    | 20 => [vw w 10, vr w 4]
    | _ => [vrw w 10, vr w 4]
  | 13 => if [0, 1, 4, 5, 6].contains (fn5 w) then [sr w 15] else []
  | 15 => if [1, 6, 7].contains (fn5 w) then [sw w 15] else if fn5 w = 2 then [sr w 15] else []
  | _ => []

/-! ## Check 3: registers -/

/-- Landing registers of a landing depth (R20). -/
def landingRegs (ld : Nat) : Nat := if ld = 0 then 0 else if ld ≤ 32 then 1 else 2
/-- Why a vector register cannot be named (R20, R187). -/
def vregReason (g : Grid) (code : Nat) : Option Nat :=
  let l := landingRegs g.ld
  if code = 55 then (if 1 ≤ l then some 2 else none)
  else if code = 54 then none
  else if code = 53 ∧ l = 2 then some 2
  else if code + (if l = 2 then 4 else 3) ≤ g.nv then none
  else some 0
/-- Why a register field cannot be used (R179, R180, R187). -/
def useReason (g : Grid) (u : RegUse) : Option Nat :=
  if !u.vec then (if g.ns ≤ u.code then some 1 else none)
  else if u.code < 0x38 then vregReason g u.code
  else if u.code < 0x3E then (if u.write then some 3 else none)
  else if u.code = 0x3F ∧ u.write then some 4
  else none
/-- `amocas` with D odd, or with D + 1 not backed (R182): a landing register is backed (R20). -/
def pairReason (g : Grid) (w : Word) : Option Nat :=
  let d := (fld w 10 6).toNat
  if majorOf w = 12 ∧ fn5 w = 7 ∧ (d % 2 = 1 ∨ 0x37 ≤ d ∨ vregReason g (d + 1) = some 0) then some 5 else none
/-- The first failing register field decides (R185). -/
def regReason (g : Grid) (w : Word) : Option Nat :=
  match regUses w with
  | [] => none
  | d :: r => ((useReason g d).or (pairReason g w)).or (r.findSome? (useReason g))

/-! ## Check 4: packets -/

/-- A word that must end its bundle: major 11, or major 15 other than `prio` (R65, R176). -/
def isControl (w : Word) : Bool := majorOf w == 11 || (majorOf w == 15 && fn5 w != 0)
/-- The function number is assigned (R184). -/
def assigned (w : Word) : Bool := (candidateGroup (canonicalMajor w)).isSome || isNop w
/-- The register fields that a word's major and FN read or write, whatever its other fields (R185). -/
def fieldUses (w : Word) : List RegUse :=
  if majorOf w = 2 ∧ (fn5 w = 12 ∨ fn5 w = 13) then [vw w 12, vr w 6, vr w 0] else regUses w
/-- A word reads a latch (R65, R185). -/
def namesLatch (w : Word) : Bool :=
  assigned w && (fieldUses w).any (fun u => u.vec && u.read && decide (0x38 ≤ u.code ∧ u.code < 0x3E))
/-- A word of a resumable pipe. -/
def resumable (w : Word) : Bool := [9, 10, 12, 13].contains (majorOf w)
/-- The packet rule that word `w` breaks, at position `pos` of its packet, after the words `before` of a bundle (R176,
R187). -/
def packetReason (bundle before : List Word) (pos : Nat) (w : Word) : Option Nat :=
  if pos = 3 ∧ chained w then some 0
  else if (pipeOf w).isSome ∧ before.any (fun v => pipeOf v == pipeOf w) then some 1
  else if chained w ∧ isControl w then some 2
  else if resumable w ∧ bundle.any namesLatch then some 3
  else none

/-! ## Mezzanine service -/

/-- Words that mezzanine service makes reserved field values (R404). -/
def mezzBarred (w : Word) : Bool :=
  let t := tyOf w
  match majorOf w with
  | 1 => t == 0 || t == 3
  | 5 => t == 0 || t == 3
  | 2 =>
    match fn5 w with
    | 0 => (w.getLsbD 4 && (t == 0 || t == 3)) || (fld w 0 4).toNat == 8 || (fld w 0 4).toNat == 11
    | 12 => true
    | 13 => true
    | n => ((4 ≤ n && n ≤ 11) || n == 15) && (t == 0 || t == 3)
  | _ => false

/-! ## All checks -/

/-- A class 0 failure of a bundle: cause and reason (R185, R187). -/
abbrev Bad := Nat × Nat

/-- Checks 1 to 4 on one word (R185). -/
def wordBad (g : Grid) (mezz : Bool) (bundle before : List Word) (pos : Nat) (w : Word) : Option Bad :=
  if isNop w then (packetReason bundle before pos w).map (fun r => (0x030, r))
  else match decodeGroup w with
    | .error e => some (e.code, 0)
    | .ok _ =>
      if mezz && mezzBarred w then some (0x010 + majorOf w, 0)
      else match regReason g w with
        | some r => some (0x020 + majorOf w, r)
        | none => (packetReason bundle before pos w).map (fun r => (0x030 + majorOf w, r))
/-- The first failing word of a bundle decides. -/
def bundleBad (g : Grid) (mezz : Bool) (bundle : List Word) : List Word → List Word → Nat → Option Bad
  | _, [], _ => none
  | before, w :: r, pos =>
    match wordBad g mezz bundle before pos w with
    | some b => some b
    | none => bundleBad g mezz bundle (before ++ [w]) r (pos + 1)
/-- The words of a packet from a position, up to the first with C = 0 (R46, R176). -/
def takeBundle : List Word → List Word
  | [] => []
  | w :: r => if chained w then w :: takeBundle r else [w]
/-- The instruction of a checked word. -/
def instrOf (w : Word) : Option Instr :=
  if isNop w then some (.nop (fld w 31 1)) else (decodeGroup w).toOption

end Sys2Proof.Machine
end

