-- ==== Sys2Proof/Machine/Issue.lean ====
section
/-! DEFINITION. Instruction fetch (R145, R317), eligibility and order (R46-R48), the execution of a bundle (R49), arbitration, holds,
starvation and saving (R66, R83-R87), the fairness timer (R68), and the events that finish bundles that wait. -/

namespace Sys2Proof.Machine

/-! ## Fetch -/

/-- What a fetch gives. -/
inductive Fetched where
  /-- The four words of the packet. -/
  | words (ws : List Word)
  /-- A fault. -/
  | fault (cause : Nat) (s2 : Bool)
  /-- The home cannot serve the line now. -/
  | wait
deriving DecidableEq, Repr

/-- The words of a 16-byte packet. -/
def packetWords (x : Nat) : List Word := (List.range 4).map (fun i => BitVec.ofNat 32 (x >>> (32 * i)))
/-- A packet of a cached or home line. -/
def packetOf (line : Nat) (pa : Nat) : List Word := packetWords ((line >>> (8 * (pa % 64 / 16 * 16))) % 2 ^ 128)
/-- What a fetch asks for. -/
def fetchAsk : Ask := { kind := 3, n := 4, cached := false, write := false, tagged := false, noHost := false }
/-- A fetch before homes and arbiters are asked (R145). -/
structure FetchPlan where
  /-- Lines asked for at their homes: those of the translation, and the code line unless the instruction cache holds it. -/
  lines : List Nat
  /-- PA of a code line that the instruction cache does not hold. -/
  miss : Option Nat
  /-- What comes of it. -/
  out : Fetched
deriving DecidableEq, Repr
/-- A fetch at a VA (R145): translation, the check of a cloister line (R132), the instruction cache, then the home line
by its code state. -/
def State.fetchSeen (s : State) (ag : Agent) (va : Dword) : FetchPlan :=
  let nodes := s.nodeLines ag.fn ag.pasid va
  match s.access ag.fn ag.pasid va 3 false false with
  | .error e => ⟨nodes, none, .fault (class1 3 e.reason) e.s2⟩
  | .ok x =>
    let c := s.cache ag.core
    match c.ic.find? (fun l => l.1 == x.pa / 64 && lineValid c.igd c.igv none l.2) with
    | some l =>
      match s.escape ag x fetchAsk with
      | some c => ⟨nodes, none, .fault c false⟩
      | none => ⟨nodes, none, .words (packetOf l.2.data.toNat x.pa)⟩
    | none =>
      ⟨nodes ++ [x.pa], some x.pa,
        if s.poisoned x.pa then .fault (class1 3 7) false
        else match s.escape ag x fetchAsk with
          | some c => .fault c false
          | none => match tagCS (s.tagOf x.pa) with
            | 2 => .words (packetOf (s.pread (x.pa / 64 * 64) 64) x.pa)
            | 1 => .fault 0x090 false
            | _ => .fault 0x091 false⟩
/-- The same, which waits while a home or an arbiter does not serve its lines (R90, R115). -/
def State.fetchAt (s : State) (ag : Agent) (va : Dword) : Fetched :=
  let f := s.fetchSeen ag va
  if (s.serveLines ag false 0 f.lines).1 then f.out else .wait
/-- A fetch that the homes serve: one that missed and finds its line in state X fills the instruction cache (R143), of which a full one
of 2,048 lines gives up one, which one is free. A fetch that they do not serve has its place in their queues. -/
def State.icFill (s : State) (ag : Agent) (va : Dword) : State :=
  let f := s.fetchSeen ag va
  match s.serveLines ag false 0 f.lines with
  | (false, s) => s
  | (true, s) =>
    let s := s.leave ag.who
    match f.out, f.miss with
    | .words _, some pa =>
      let c := s.cache ag.core
      let cls := if isHost pa || s.homeDie pa != dieOf ag.core then FillClass.device else .die
      let line : CacheLine := { cls := cls, gen := if cls = .die then c.igd else c.igv
                                data := BitVec.ofNat 512 (s.pread (pa / 64 * 64) 64) }
      let ic := if c.ic.length < 2048 then c.ic else c.ic.eraseIdx (Config.freeNat s.free % c.ic.length)
      let s := { s with free := s.free + 1 }
      (s.fillTlb ag.fn ag.pasid va).setCache ag.core { c with ic := nput ic (pa / 64) line }
    | .words _, none => s.fillTlb ag.fn ag.pasid va
    | _, _ => s
/-- The agent of a group's fetch at a VA. -/
def State.fetcher (s : State) (gk : Nat) (va : Dword) : Agent := { s.groupAgent gk with who := .sender (.group gk va.toNat) }

/-! ## Bundles and eligibility -/

/-- A checked bundle (R46). -/
structure Bundle where
  /-- Its words. -/
  raws : List Word
  /-- Its instructions. -/
  words : List Instr
  /-- PC after it. -/
  npc : Dword
  /-- Its price. -/
  price : Nat
  /-- It makes its entry the loop owner (R61, R63). -/
  takesLoop : Bool
deriving DecidableEq, Repr

/-- What R47 sees in an entry. -/
inductive Verdict where
  /-- Not eligible. -/
  | no
  /-- Not eligible for want of a source alone. -/
  | starved
  /-- The fetch or a check fails. -/
  | bad (fs : List Fail)
  /-- Eligible. -/
  | ok (b : Bundle)
deriving DecidableEq, Repr

/-- The loop levels that an entry runs in. -/
def entryLevels (g : Group) (e : Entry) : List LoopLevel :=
  if e.owner then g.loops else match e.replay with
    | some r => r.loops
    | none => []
/-- PC of the last body word of a level. -/
def LoopLevel.last (l : LoopLevel) : Dword := l.first + BitVec.ofNat 64 (4 * l.len)
/-- The C bits of last body words act as 0 (R249). -/
def cutLoops (ls : List LoopLevel) : Dword → List Word → List Word
  | _, [] => []
  | pc, w :: r => (if ls.any (fun l => l.last == pc) then w &&& 0x7FFFFFFF#32 else w) :: cutLoops ls (pc + 4) r
/-- R61 and R249 stall an entry while another is the loop owner. -/
def loopStall (g : Group) (e : Entry) : Bool :=
  g.frontier.any (·.owner) && !e.owner &&
    ((e.replay.any (fun r => !r.loops.isEmpty)) ||
      g.loops.any (fun l => decide (l.first.toNat ≤ e.pc.toNat ∧ e.pc.toNat ≤ l.last.toNat)))
/-- `loop`. -/
def isLoopWord (w : Word) : Bool := majorOf w == 11 && fn4 w == 7
/-- Word `fn` of major 12. -/
def isY (fn : Nat) (w : Word) : Bool := majorOf w == 12 && fn5 w == fn
/-- A word that reads the source of every lane of its group, whatever lanes execute it (R201, R204, R222). -/
def readsAllLanes (w : Word) : Bool :=
  majorOf w == 3 || (majorOf w == 6 && fn4 w == 11) || (majorOf w == 7 && fn5 w == 20)
/-- Lanes of a source that a word on the lanes of `mask` reads: `cbk` reads lanes 0-3 of B (R217). -/
def readLanes (w : Word) (mask : LaneMask) (u : RegUse) : LaneMask :=
  if readsAllLanes w then BitVec.allOnes 32
  else if majorOf w = 2 ∧ fn5 w = 14 ∧ u.code = (fld w 0 6).toNat then mask ||| 0xF
  else mask
/-- The register that a load or an atomic of a waiting bundle will write, which is an s-register or not (R237). -/
def loadDest (i : Instr) : Option (Bool × Nat) :=
  match i with
  | .ld _ d _ _ _ _ => some (false, d.toNat)
  | .ldnt _ d _ _ _ _ => some (false, d.toNat)
  | .ldtm _ d _ _ _ _ => some (false, d.toNat)
  | .ldacc _ d _ => some (false, d.toNat)
  | .lds _ d _ _ _ _ => some (true, d.toNat)
  | .ldg _ d _ _ _ _ => some (false, d.toNat)
  | .ldgtm _ d _ _ _ _ => some (false, d.toNat)
  | .amoadd _ _ _ d _ _ _ => some (false, d.toNat)
  | .amomin _ _ _ d _ _ _ _ => some (false, d.toNat)
  | .amomax _ _ _ d _ _ _ _ => some (false, d.toNat)
  | .amoand _ _ _ d _ _ _ => some (false, d.toNat)
  | .amoor _ _ _ d _ _ _ => some (false, d.toNat)
  | .amoxor _ _ _ d _ _ _ => some (false, d.toNat)
  | .amoswap _ _ _ d _ _ _ => some (false, d.toNat)
  | .amocas _ _ _ d _ _ _ => some (false, d.toNat)
  | .amoinc _ _ _ d _ _ _ => some (false, d.toNat)
  | .amofadd _ _ _ d _ _ _ => some (false, d.toNat)
  | .lr _ _ _ d _ _ _ => some (false, d.toNat)
  | .sc _ _ _ d _ _ _ => some (false, d.toNat)
  | .ldref _ _ _ d _ => some (false, d.toNat)
  | .await _ _ _ d _ => some (false, d.toNat)
  | _ => none
/-- Loads of a group that have not returned: those in flight, and those of its bundles that wait (R46, R237). -/
def Group.pendingLoads (g : Group) : List InFlight :=
  g.inFlight ++ (g.frontier.filterMap (·.pend)).flatMap (fun p =>
    (p.words.filterMap loadDest).map (fun d => { scalar := d.1, reg := d.2, mask := p.act, elems := 0 }))
/-- The sources of a word are ready (R46): no load that has not returned writes them in a lane that the word reads. D + 1 is a source of
`amocas` (R255), and v54 one of `ret`. -/
def wordReady (g : Group) (mask : LaneMask) (w : Word) : Bool :=
  let uses := if majorOf w = 11 ∧ fn4 w = 5 then [⟨true, 54, false, true⟩]
    else if majorOf w = 12 ∧ fn5 w = 7 then ⟨true, (fld w 10 6).toNat + 1, false, true⟩ :: regUses w
    else regUses w
  uses.all (fun u => !u.read || g.pendingLoads.all (fun f =>
    !(f.scalar == !u.vec && f.reg == u.code && (f.scalar || f.mask &&& readLanes w mask u != 0))))
/-- Element requests to global memory that a word makes and that stay in flight, on `n` lanes (R3). -/
def elemRequests (n : Nat) (i : Instr) : Nat :=
  match i with
  | .ld _ _ _ m w _ => if m = 1 then 1 else n * (64 / widthOf w)
  | .ldnt _ _ _ m w _ => if m = 1 then 1 else n * (64 / widthOf w)
  | .ldg _ _ _ _ w _ => n * (64 / widthOf w)
  | .lds _ _ _ _ _ _ => 1
  | .amoadd _ _ _ _ _ l _ => if l = 1 then 0 else n
  | .amomin _ _ _ _ _ _ l _ => if l = 1 then 0 else n
  | .amomax _ _ _ _ _ _ l _ => if l = 1 then 0 else n
  | .amoand _ _ _ _ _ l _ => if l = 1 then 0 else n
  | .amoor _ _ _ _ _ l _ => if l = 1 then 0 else n
  | .amoxor _ _ _ _ _ l _ => if l = 1 then 0 else n
  | .amoswap _ _ _ _ _ l _ => if l = 1 then 0 else n
  | .amocas _ _ _ _ _ l _ => if l = 1 then 0 else n
  | .amoinc _ _ _ _ _ l _ => if l = 1 then 0 else n
  | .amofadd _ _ _ _ _ l _ => if l = 1 then 0 else n
  | .lr _ _ _ _ _ l _ => if l = 1 then 0 else n
  | .sc _ _ _ _ _ l _ => if l = 1 then 0 else n
  | .ldref _ _ _ _ _ => n
  | _ => 0
/-- Element requests of a bundle's words on `n` lanes. -/
def bundleRequests (n : Nat) (is : List Instr) : Nat := (is.map (elemRequests n)).sum
/-- Element requests of a group that are outstanding: of loads in flight, and of bundles that have issued and wait (R3). -/
def Group.requests (g : Group) : Nat :=
  (g.inFlight.map (·.elems)).sum +
    ((g.frontier.filterMap (·.pend)).map (fun p => bundleRequests (lanesOf p.act).length p.words)).sum
/-- Element requests of a core that are outstanding (R3). -/
def State.coreRequests (s : State) (core : Nat) : Nat :=
  ((List.range 64).map (fun i => (s.group (core * 64 + i)).requests)).sum
/-- The lanes in the frontier and not held. -/
def Group.running (g : Group) : LaneMask := (g.frontier.filter (fun e => !e.held)).foldl (fun m e => m ||| e.mask) 0
/-- Eligibility beyond the sources: `bar` holds every running lane (R262), engine words need a free place (R272), and element
requests beyond 2,048 of a core wait (R3). -/
def State.admits (s : State) (gk : Nat) (g : Group) (e : Entry) (ws : List Word) (is : List Instr) : Bool :=
  let n := bundleRequests (lanesOf e.mask).length is
  (n == 0 || decide (s.coreRequests (coreOf gk) + n ≤ 2048)) &&
  (!ws.any (isY 19) || e.mask == g.running) &&
  (!ws.any (fun w => majorOf w == 13 && fn5 w == 0) || s.engineFree (coreOf gk) false) &&
  (!ws.any (fun w => majorOf w == 13 && fn5 w == 1) || s.engineFree (coreOf gk) true)
/-- One failure for every lane of an entry. -/
def entryFails (m : LaneMask) (f : Fail) : List Fail := (lanesOf m).map (fun l => { f with lane := l })
/-- The words of an entry's bundle. -/
def bundleWords (g : Group) (e : Entry) (packet : List Word) : List Word :=
  takeBundle (cutLoops (entryLevels g e) e.pc (packet.drop (e.pc.toNat / 4 % 4)))
/-- The verdict on an entry (R46, R61, R185, R317). DESIGN CHOICE (log 165): an entry that waits after a `bar`, sleeps or is kept out by a
loop is not eligible even where its bundle fails a check. -/
def State.verdict (s : State) (gk : Nat) (e : Entry) : Verdict :=
  let g := s.group gk
  let grid := s.grid (s.team g.tk).grid
  if e.held || e.barWait || e.sleep != 0 || e.pend.isSome || loopStall g e then .no
  else match s.fetchAt (s.fetcher gk e.pc) e.pc with
    | .wait => .no
    | .fault c s2 => .bad (entryFails e.mask { lane := 0, cause := some c, va := e.pc, kind := 3, s2 := s2, sz := 4 })
    | .words p =>
      let ws := bundleWords g e p
      if g.frontier.any (·.owner) && !e.owner && ws.any isLoopWord then .no
      else match bundleBad grid s.mezz.isSome ws [] ws (e.pc.toNat / 4 % 4) with
        | some (c, r) => .bad (entryFails e.mask { lane := 0, cause := some c, va := 0, kind := 0, s2 := false, sz := r })
        | none =>
          match ws.mapM instrOf with
          | none => .no
          | some is =>
            if !s.admits gk g e ws is then .no
            else if !ws.all (wordReady g e.mask) then .starved
            else .ok { raws := ws, words := is, npc := e.pc + BitVec.ofNat 64 (4 * ws.length),
                       price := (ws.map priceOf).sum
                       takesLoop := ws.any isLoopWord || e.replay.any (fun r => !r.loops.isEmpty) }

/-- A candidate of R47: place in the frontier, entry, verdict. -/
abbrev Candidate := Nat × Entry × Verdict
/-- A candidate takes its place. DESIGN CHOICE (log 131): where R47 gives no order, among entries promoted in one cycle and among
entries of equal priority at one PC, the earlier place in the frontier comes first. -/
def insertCandidate (c : Candidate) : List Candidate → List Candidate
  | [] => [c]
  | d :: r => if ahead c.2.1 d.2.1 then c :: d :: r else d :: insertCandidate c r
/-- The verdicts of a group's entries. -/
def State.verdicts (s : State) (gk : Nat) : List Candidate :=
  ((s.group gk).frontier.zipIdx).map (fun x => (x.2, x.1, s.verdict gk x.1))
/-- A verdict that takes part in the selection. -/
def Verdict.counts : Verdict → Bool
  | .ok _ => true
  | .bad _ => true
  | _ => false
/-- A group as the arbitration sees it: key, then its eligible entries in the order of R47. -/
abbrev View := Nat × List Candidate
/-- The order of R47 in a group. -/
def State.view (s : State) (gk : Nat) : View :=
  (gk, ((s.verdicts gk).filter (fun c => c.2.2.counts)).foldl (fun l c => insertCandidate c l) [])
/-- A fault record of a group has been raised and not written (R313, R379). -/
def State.recsOut (s : State) (gk : Nat) : Bool :=
  let g := s.group gk
  let t := s.team g.tk
  s.recs.any (fun r => r.grid == t.grid && r.team == t.id && r.group == g.gid)
/-- A group may issue at all: its team is not being saved (R392), and the records of its last faults are written (R313). DESIGN CHOICE (log
163): entries that the records keep from issuing do not count as eligible for the fairness timer. -/
def State.mayIssue (s : State) (gk : Nat) : Bool :=
  let g := s.group gk
  let t := s.team g.tk
  g.present && t.draining.isNone && !s.recsOut gk
/-- Keys of the groups of a quadrant. -/
def quadKeys (qk : Nat) : List Nat := (List.range 16).map (fun i => qk * 16 + i)
/-- The older of two groups (R69). -/
def State.older (s : State) (a b : Nat) : Bool :=
  let x := s.group a
  let y := s.group b
  decide (x.lastIssue < y.lastIssue ∨ (x.lastIssue = y.lastIssue ∧ x.admission < y.admission))
/-- A view takes its place by age. -/
def State.insertView (s : State) (v : View) : List View → List View
  | [] => [v]
  | w :: r => if s.older v.1 w.1 then v :: w :: r else w :: s.insertView v r
/-- The ready groups of a quadrant, oldest first (R69, R83). -/
def State.readyViews (s : State) (qk : Nat) : List View :=
  (((quadKeys qk).filter s.mayIssue).map s.view |>.filter (fun v => !v.2.isEmpty)).foldl (fun l v => s.insertView v l) []
/-- Price that the selection counts (R185). -/
def Candidate.price (c : Candidate) : Nat := match c.2.2 with | .ok b => b.price | _ => 0
/-- Price of a group's head. -/
def View.price (v : View) : Nat := match v.2 with | c :: _ => Candidate.price c | [] => 0

/-! ## Executing a bundle -/

/-- The words of a bundle one after the other. -/
def runWords : List Instr → State → Out
  | [], s => .next s
  | i :: r, s =>
    match execWord i s with
    | .next s => runWords r s
    | o => o
/-- What the check of a bundle's words has found so far (R49, R57). -/
structure Checked where
  /-- The issue context: failures, lanes left, blocks. -/
  cur : Cur
  /-- Registers with the increment of AM 2 or AM 3, if a word made one. -/
  regs : Regs
  /-- The machine before the bundle, with what homes and arbiters have served. -/
  kept : State
deriving DecidableEq, Repr
/-- The words are checked in order, each from the state before the bundle. -/
def checkWords (s0 : State) : List Instr → Checked → Checked
  | [], c => c
  | i :: r, c =>
    match execWord i { c.kept with cur := { c.cur with dry := true } } with
    | .next s1 =>
      checkWords s0 r { cur := s1.cur, kept := c.kept.keepService s1
                        regs := if !c.cur.stepped && s1.cur.stepped then s1.cg.regs else c.regs }
    | _ => checkWords s0 r c
/-- The `bar` of a bundle. -/
def barOf (ws : List Instr) : Option (BitVec 3 × BitVec 2) :=
  ws.findSome? (fun i => match i with | .bar _ sc o => some (sc, o) | _ => none)
/-- A bundle that must wait has issued: its `bar` arrives then (R262). -/
def blockIssued (k : WaitKind) (ws : List Instr) (s : State) : State :=
  match barOf ws with
  | some (sc, o) =>
    if s.cur.act = 0 || s.cur.arrived then blockBundle k s
    else (blockBundle k (s.mapCur (fun c => { c with arrived := true }))).barArrive s.cur.gk sc o
  | none => blockBundle k s
/-- A bundle that is open on the port executes (R49): a lane on which some word fails performs no word, and a bundle that a
word must wait for waits whole. Its failures are found first; then the homes serve the lanes that are left. -/
def runBundle (ws : List Instr) (s0 : State) : Out :=
  match ws with
  | [i] => execWord i s0
  | _ =>
    let a := checkWords s0 ws { cur := { s0.cur with serves := false }, regs := s0.cg.regs, kept := s0 }
    let cur := { s0.cur with fails := a.cur.fails, act := a.cur.act }
    let b := checkWords s0 ws { cur := cur, regs := s0.cg.regs, kept := s0 }
    match b.cur.blocked with
    | some k =>
      .next (blockIssued k ws (({ b.kept with cur := { b.cur with dry := false, seed := s0.cur.seed } }).mapRegs (fun _ => b.regs)))
    | none => runWords ws { b.kept with cur := { cur with svc := b.cur.svc } }

/-- A replayed sub-group that was inside a loop becomes its owner when it issues (R63). -/
def reclaimLoops (e : Entry) (g : Group) : Group × Entry :=
  match e.replay with
  | some r => if r.loops.isEmpty then (g, e) else ({ g with loops := r.loops, regs := { g.regs with lc := r.lc } }, { e with owner := true })
  | none => (g, e)
/-- An entry leaves the frontier for the port: its words read `src`. -/
def State.openEntry (s : State) (gk idx : Nat) (e : Entry) (src : Regs) (words : List Instr) (npc : Dword) (chain : Nat) :
    State :=
  let g := s.group gk
  let x := reclaimLoops { e with count := 0, promoted := none, pend := none } { g with frontier := g.frontier.eraseIdx idx }
  let src := if x.2.owner && !e.owner then { src with lc := x.1.regs.lc } else src
  { s.setGroup gk x.1 with cur := { Cur.reset with
      gk := gk, core := coreOf gk, entry := x.2, act := e.mask, pc := e.pc, wpc := e.pc, npc := npc, src := src,
      words := words, pre := x.1.regs, replay := e.replay, chain := chain, seed := src.seed
      flights := g.inFlight.length } }
/-- An issued bundle that waits is tried again: its words read what they read at issue, and draw with SEED as it was before that
cycle (DESIGN CHOICE, log 132). -/
def State.retry (s : State) (gk idx : Nat) (f : Cur → Cur) : Out :=
  match (s.group gk).frontier[idx]? with
  | none => .next s
  | some e =>
    match e.pend with
    | none => .next s
    | some p =>
      let s1 := s.openEntry gk idx { e with replay := none } p.src p.words p.npc p.chain
      runBundle p.words (s1.mapCur (fun c => f { c with
        replay := p.replay, base := p.base, answer := p.answer, got := p.got, walked := p.walked, walkFails := p.fails
        arrived := p.arrived, broken := p.broken, sampled := p.sampled, svc := p.svc }))
/-- An entry whose fetch or check fails: its lanes park or end, and no bundle issues (R186, R317). -/
def State.failEntry (s : State) (gk idx : Nat) (e : Entry) (fs : List Fail) : State :=
  let g := s.group gk
  let h := (s.grid (s.team g.tk).grid).hdr
  let x : ParkContext := { pc := e.pc, prio := e.prio
                           lc := match e.replay with | some r => if r.loops.isEmpty then g.regs.lc else r.lc | none => g.regs.lc
                           loops := entryLevels g e, base := e.replay.bind (·.base) }
  let s := s.setGroup gk { g with frontier := g.frontier.eraseIdx idx }
  let s := raiseFails gk x fs s
  let g := s.group gk
  s.setGroup gk (settle h (ownerCheck { g with frontier := normFrontier g.frontier }))

/-! ## What a quadrant does in a cycle -/

/-- The choice of a cycle (R83). -/
inductive Choice where
  /-- Nothing. -/
  | idle
  /-- An entry whose fetch or check failed. -/
  | bad (gk idx : Nat) (e : Entry) (fs : List Fail)
  /-- A bundle on port 0 and perhaps one on port 1, of one group. -/
  | issue (gk : Nat) (p0 : Nat × Entry × Bundle) (p1 : Option (Nat × Entry × Bundle))
deriving DecidableEq, Repr

/-- Bundles on disjoint pipes that do not both take the loop (R47, R63). -/
def compatible (a b : Bundle) : Bool :=
  !(a.takesLoop && b.takesLoop) &&
    a.raws.all (fun w => b.raws.all (fun v => (pipeOf w).isNone || pipeOf w != pipeOf v))
/-- The port-1 bundle of a view, if it may go with the head (R47, R83, R185). -/
def portOne (v : View) (head : Bundle) (left : Nat) : Option (Nat × Entry × Bundle) :=
  match v.2 with
  | _ :: (i, e, .ok b) :: _ => if compatible head b ∧ b.price ≤ left then some (i, e, b) else none
  | _ => none
/-- The choice that a view's head makes. -/
def headChoice (v : View) (level : Nat) : Choice :=
  match v.2 with
  | (i, e, .ok b) :: _ => .issue v.1 (i, e, b) (portOne v b (level - b.price))
  | (i, e, .bad fs) :: _ => .bad v.1 i e fs
  | _ => .idle
/-- The normal case (R83): the oldest group whose head is affordable. -/
def chooseNormal (vs : List View) (level : Nat) : Choice :=
  match vs.find? (fun v => decide (View.price v ≤ level)) with
  | some v => headChoice v level
  | none => .idle
/-- The words after a bundle name a latch (R66), whether or not their fetch must wait. -/
def State.successorLatch (s : State) (gk : Nat) (levels : List LoopLevel) (npc : Dword) : Bool :=
  match (s.fetchSeen (s.groupAgent gk) npc).out with
  | .words p => (takeBundle (cutLoops levels npc (p.drop (npc.toNat / 4 % 4)))).any namesLatch
  | _ => false
/-- A bundle that ends its hold chain (R65): a control transfer or the end of a loop pass. -/
def endsChain (levels : List LoopLevel) (b : Bundle) : Bool :=
  b.raws.any isControl || levels.any (fun l => l.last + 4 == b.npc)
/-- A bundle whose successor names a latch (R86). -/
def State.leadsLatch (s : State) (gk : Nat) (e : Entry) (b : Bundle) : Bool :=
  let ls := entryLevels (s.group gk) e
  !endsChain ls b && s.successorLatch gk ls b.npc
/-- The saving case (R86): the saved bundle alone once the bank holds its price, until then narrow heads of other groups. -/
def State.chooseSaving (s : State) (vs : List View) (level : Nat) (x : Saving) : Choice :=
  let gk := x.unit
  let mine := (vs.find? (fun v => v.1 == gk)).bind (fun v => v.2.find? (fun c => c.2.1.pc == x.pc && c.2.1.mask &&& x.mask != 0))
  match decide (x.price ≤ level), mine with
  | true, some (i, e, .ok b) => .issue gk (i, e, b) none
  | true, some (i, e, .bad fs) => .bad gk i e fs
  | _, _ =>
    match vs.find? (fun v => v.1 != gk && decide (View.price v = 0) && (match v.2 with
        | (_, e, .ok b) :: _ => !s.leadsLatch v.1 e b
        | _ => true)) with
    | none => .idle
    | some v =>
      match headChoice v 0 with
      | .issue g p0 (some p1) => .issue g p0 (if s.leadsLatch g p1.2.1 p1.2.2 then none else some p1)
      | c => c
/-- The hold case (R66): the held entry's next bundle when the bank holds its price. -/
def State.chooseHold (s : State) (h : Hold) (level : Nat) : Choice :=
  if s.recsOut h.gk then .idle
  else match (s.verdicts h.gk).find? (fun c => c.2.1.mask &&& h.mask != 0 && !c.2.1.held) with
  | some (i, e, .ok b) => if b.price ≤ level then .issue h.gk (i, e, b) none else .idle
  | some (i, e, .bad fs) => .bad h.gk i e fs
  | _ => .idle
/-- The entry of a hold is still in the frontier of a resident group (R66). -/
def State.holdLives (s : State) (h : Hold) : Bool :=
  (s.group h.gk).present && (s.group h.gk).frontier.any (fun e => e.mask &&& h.mask != 0 && !e.held)
/-- The saved bundle's group is still resident, and a lane of its entry is left in the frontier (R87). -/
def State.savedLives (s : State) (x : Saving) : Bool :=
  let g := s.group x.unit
  g.present && g.admission == x.admission && g.frontier.any (fun e => e.pc == x.pc && e.mask &&& x.mask != 0)

/-! ## Counters of a cycle -/

/-- The quadrant's bank changed. -/
def State.mapBank (s : State) (qk : Nat) (f : Bank → Bank) : State := s.setQuad qk { s.quad qk with bank := f (s.quad qk).bank }
/-- The cap of a quadrant bank (R79). -/
def quadCap : Nat := 2048
/-- A sleeping entry counts a cycle down (R269). -/
def restEntry (e : Entry) : Entry := if 1 < e.sleep then { e with sleep := e.sleep - 1 } else e
/-- Entries whose last cycle of sleep is over run on; the others count down. -/
def wakeSleepers (g : Group) : Group :=
  let due := g.frontier.any (fun e => e.sleep == 1)
  let f := g.frontier.map (fun e => if e.sleep = 1 then { e with sleep := 0 } else restEntry e)
  { g with frontier := if due then normFrontier f else f }
/-- Reservations grow older; one of 4,096 cycles is lost (R71). -/
def ageResv (g : Group) : Group :=
  { g with resv := (g.resv.map (fun r => (r.1, { r.2 with age := r.2.age + 1 }))).filter (fun r => decide (r.2.age < 4096)) }
/-- A cycle begins: sleeps and reservations (R71, R269). -/
def State.beginCycle (s : State) (qk : Nat) : State :=
  let q := s.quad qk
  let s := s.setQuad qk { q with cycle := q.cycle + 1 }
  (quadKeys qk).foldl (fun s gk =>
    if (s.group gk).present then s.setGroup gk (ageResv (wakeSleepers (s.group gk))) else s) s
/-- The tenants with a resident team on a core are charged a core-cycle (R424). -/
def State.coreCycle (s : State) (core : Nat) : State :=
  let ts := ((List.range 64).filter (fun j => (s.team (core * 64 + j)).present)).map
    (fun j => (s.grid (s.team (core * 64 + j)).grid).tenant)
  ts.eraseDups.foldl (fun s t => s.tally t 4 1) s
/-- The stall counters of R414: resident groups, of which none is eligible for want of a load or atomic alone. -/
def State.countStall (s : State) (qk : Nat) : State :=
  let gs := (quadKeys qk).filter (fun gk => (s.group gk).present)
  if gs.isEmpty then s
  else
    let vs := gs.flatMap (fun gk => (s.verdicts gk).map (fun c => c.2.2))
    let st := !vs.any Verdict.counts && vs.any (fun v => v == .starved)
    let c := s.cluster (qk / 32)
    s.setCluster (qk / 32) { c with busy := c.busy + 1, stalled := c.stalled + (if st then 1 else 0) }
/-- FAIRNESS_PROMOTION of one entry (R68): at 2,048 counted cycles it is promoted. -/
def promote (cycle : Nat) (e : Entry) : Entry :=
  if 2048 ≤ e.count ∧ e.promoted.isNone then { e with promoted := some cycle } else e
/-- Entries that are eligible and do not issue count the cycle (R68). -/
def State.countFairness (s : State) (qk : Nat) (vs : List View) (skip : List (Nat × Nat)) : State :=
  vs.foldl (fun s v =>
    let due := v.2.filterMap (fun c => match c.2.2 with
      | .ok _ => if skip.contains (v.1, c.1) then none else some c.1
      | .bad _ => if skip.contains (v.1, c.1) then none else some c.1
      | _ => none)
    let g := s.group v.1
    s.setGroup v.1 { g with frontier := g.frontier.mapIdx (fun i e =>
      if due.contains i then promote (s.quad qk).cycle { e with count := e.count + 1 } else e) }) s

/-! ## Issuing -/

/-- The hold chain of a bundle of an entry that issues under no hold (R65): that of the entry's bundle of the last cycle, unless it ended
there; else a new one. -/
def State.chainOf (s : State) (gk : Nat) (e : Entry) : Nat × State :=
  let g := s.group gk
  match g.runs.find? (fun r => r.cycle + 1 == (s.quad (quadOf gk)).cycle && r.mask &&& e.mask != 0) with
  | some r => (r.chain, s)
  | none => (g.chain + 1, s.setGroup gk { g with chain := g.chain + 1 })
/-- A bundle issued in a cycle, as the hold rules see it (R65, R66). -/
structure Issued where
  /-- Its entry. -/
  entry : Entry
  /-- The bundle. -/
  bundle : Bundle
  /-- Number of its hold chain. -/
  chain : Nat
  /-- Bundles of the hold so far; 1 without one. -/
  len : Nat
  /-- It ends its chain: a control transfer, or the end of a loop pass. -/
  ends : Bool
deriving DecidableEq, Repr
/-- The chain may go on in the next cycle. -/
def Issued.goesOn (x : Issued) : Bool := !x.ends && decide (x.len < 8)
/-- The hold chains that the bundles of a cycle leave open (R65). -/
def State.openRuns (s : State) (gk : Nat) (bs : List Issued) : State :=
  let g := s.group gk
  s.setGroup gk { g with runs := (bs.filter Issued.goesOn).map (fun x =>
    { mask := x.entry.mask &&& g.frontLanes, chain := x.chain, cycle := (s.quad (quadOf gk)).cycle }) }
/-- A hold begins or goes on after a bundle whose successor names a latch (R66): the bundle's lanes that reached it, or that wait
with it. DESIGN CHOICE (log 133): lanes that wait after a `bar`, `yield` or `sleep` cannot issue in the next cycle and end the
chain. -/
def State.holdAfter (s : State) (gk : Nat) (i : Issued) : Option Hold :=
  let g := s.group gk
  let npc := i.bundle.npc
  let stay := g.frontier.find? (fun x => x.mask &&& i.entry.mask != 0 && !x.held && !x.barWait && x.sleep == 0 &&
    (match x.pend with | some p => p.npc == npc | none => x.pc == npc))
  match stay with
  | none => none
  | some x =>
    if i.goesOn && s.successorLatch gk (entryLevels g x) npc then
      some { gk := gk, mask := x.mask, chain := i.chain, len := i.len, waiting := false }
    else none
/-- The bank pays for issued bundles (R81, R92). -/
def State.pay (s : State) (qk gk price : Nat) : State :=
  let ag := s.groupAgent gk
  (s.mapBank qk (fun b => { b with level := b.level - price, spent := b.spent + BitVec.ofNat 64 price })).tokens ag.tenant
    ag.queue price
/-- A group has issued: its age (R69), and its team is not silent (R376). -/
def State.stamp (s : State) (qk gk : Nat) : State :=
  let g := s.group gk
  let s := s.setGroup gk { g with lastIssue := (s.quad qk).cycle }
  s.setTeam g.tk { s.team g.tk with silent := 0 }
/-- The entry that issues on port 1 is set aside while the port 0 bundle executes: no lane joins it in this cycle (R47, R48). -/
def State.hideEntry (s : State) (gk i : Nat) : State :=
  let g := s.group gk
  s.setGroup gk { g with frontier := g.frontier.modify i (fun x => { x with sleep := 1 }) }
/-- The bundles of a choice execute (R48, R49): both read the registers and the rest as they were before the cycle. -/
def State.issueChoice (s : State) (gk : Nat) (p0 : Nat × Entry × Bundle) (p1 : Option (Nat × Entry × Bundle)) (chain c1 : Nat) :
    Out :=
  let src := (s.group gk).regs
  let seen := s.sampleOf gk
  let s := match p1 with | some p => s.hideEntry gk p.1 | none => s
  match runBundle p0.2.2.words (s.openEntry gk p0.1 p0.2.1 src p0.2.2.words p0.2.2.npc chain) with
  | .next s1 =>
    match p1 with
    | none => .next s1
    | some (_, e, b) =>
      match (s1.group gk).frontier.findIdx? (fun x => x.mask == e.mask && x.pc == e.pc && x.sleep == 1) with
      | none => .next s1
      | some i =>
        let seed := s1.cur.seed
        runBundle b.words ((s1.openEntry gk i e src b.words b.npc c1).mapCur (fun c => { c with sampled := some seen, seed := seed }))
  | o => o

/-- The choice of this cycle with the hold or saving that it acts under (R83). -/
def State.choose (s : State) (qk : Nat) (vs : List View) : Choice :=
  let q := s.quad qk
  match q.hold.filter s.holdLives with
  | some h => s.chooseHold h q.bank.level
  | none =>
    match q.bank.saving with
    | some x => if s.savedLives x then s.chooseSaving vs q.bank.level x else .idle
    | none => chooseNormal vs q.bank.level
/-- The group that a choice issues from; a failing entry issues nothing (R186). -/
def Choice.gk? : Choice → Option Nat
  | .issue gk _ _ => some gk
  | _ => none
/-- The code of a choice is read. A port-1 bundle whose code can then no longer be served does not issue. -/
def State.readCode (s : State) (c : Choice) : Choice × State :=
  match c with
  | .idle => (c, s)
  | .bad gk _ e _ => (c, s.icFill (s.fetcher gk e.pc) e.pc)
  | .issue gk p0 p1 =>
    let s := s.icFill (s.fetcher gk p0.2.1.pc) p0.2.1.pc
    let at1 (p : Nat × Entry × Bundle) : Agent := s.fetcher gk p.2.1.pc
    let p1 := p1.filter (fun p => match s.fetchAt (at1 p) p.2.1.pc with | .words _ => true | _ => false)
    (.issue gk p0 p1, match p1 with | some p => s.icFill (at1 p) p.2.1.pc | none => s)
/-- Fetches that the homes and arbiters do not serve take their places in the queues; one that waited and is served now fills the
instruction cache (R90, R115). -/
def State.askFetch (s : State) (gk : Nat) : State :=
  let g := s.group gk
  g.frontier.foldl (fun s e =>
    if e.held || e.barWait || e.sleep != 0 || e.pend.isSome || loopStall g e then s
    else
      let ag := s.fetcher gk e.pc
      if s.fetchAt ag e.pc == .wait || s.held.any (fun h => h.1 == .group gk e.pc.toNat) then s.icFill ag e.pc else s) s
/-- The starvation count after a cycle without hold or saving (R85): once the oldest ready group has issued, the next cycle counts
for the group that is oldest then. -/
def starveAfter (vs : List View) (c : Choice) (b : Bank) : Bank :=
  match vs with
  | [] => { b with starve := 0, oldest := none }
  | v :: _ =>
    if c.gk? = some v.1 then { b with starve := 0, oldest := none }
    else if b.oldest.isSome ∧ b.oldest ≠ some v.1 then { b with starve := 0, oldest := some v.1 }
    else { b with starve := if b.level < View.price v then min 256 (b.starve + 1) else b.starve, oldest := some v.1 }
/-- Entry into saving (R85): the head of the oldest ready group becomes the saved bundle. -/
def State.enterSaving (s : State) (vs : List View) (b : Bank) : Bank :=
  match vs with
  | (gk, (_, e, v) :: _) :: _ =>
    if b.starve = 256 ∧ b.saving.isNone then
      { b with savepi := b.savepi + 1
               saving := some { price := Candidate.price (0, e, v), unit := gk, admission := (s.group gk).admission, pc := e.pc, mask := e.mask } }
    else b
  | _ => b
/-- What a choice does: the entry or bundles it takes up, the hold that follows, and the price paid. DESIGN CHOICE (log 133): when the
successors of both bundles of a cycle name a latch, only the port-0 entry is held. DESIGN CHOICE (log 134): HOLDW keeps its value
in the cycle in which the waiting bundle issues. -/
def State.perform (s : State) (qk : Nat) (c : Choice) : Out :=
  let q := s.quad qk
  let under := q.hold.filter s.holdLives
  match c with
  | .idle =>
    let w (h : Hold) : Bool :=
      (s.verdicts h.gk).any (fun x => x.2.1.mask &&& h.mask != 0 && (match x.2.2 with | .ok _ => true | _ => false))
    .next (s.setQuad qk { q with hold := under.map (fun h => { h with waiting := w h }) })
  | .bad gk idx e fs => .next ((s.failEntry gk idx e fs).setQuad qk { q with hold := none })
  | .issue gk p0 p1 =>
    let (chain, s) := match under with
      | some h => (h.chain, s)
      | none => s.chainOf gk p0.2.1
    let (c1, s) := match p1 with
      | some p => s.chainOf gk p.2.1
      | none => (0, s)
    let len := match under with | some h => h.len + 1 | none => 1
    let ends (p : Nat × Entry × Bundle) : Bool := endsChain (entryLevels (s.group gk) p.2.1) p.2.2
    let i0 : Issued := ⟨p0.2.1, p0.2.2, chain, len, ends p0⟩
    let i1 : Option Issued := p1.map (fun p => ⟨p.2.1, p.2.2, c1, 1, ends p⟩)
    match s.issueChoice gk p0 p1 chain c1 with
    | .next s1 =>
      let s1 := s1.stamp qk gk
      let s1 := s1.openRuns gk (i0 :: i1.toList)
      let h := (s1.holdAfter gk i0).or (i1.bind (s1.holdAfter gk))
      let s1 := s1.setQuad qk { s1.quad qk with hold := h }
      .next (s1.pay qk gk (p0.2.2.price + (match p1 with | some p => p.2.2.price | none => 0)))
    | o => o
/-- ONE CYCLE OF A QUADRANT (R83-R87): selection, issue, fairness, starvation and saving. -/
def quadCycle (qk : Nat) (s : State) : Out :=
  let s := s.beginCycle qk
  let s := if qk % 4 = 0 then s.coreCycle (qk / 4) else s
  let s := (quadKeys qk).foldl (fun s gk => if (s.group gk).present then s.askFetch gk else s) s
  let s := s.countStall qk
  let vs := s.readyViews qk
  let q := s.quad qk
  let hold := q.hold.any s.holdLives
  let (c, s) := s.readCode (s.choose qk vs)
  let skip := match c with
    | .issue gk p0 p1 => (gk, p0.1) :: (match p1 with | some p => [(gk, p.1)] | none => [])
    | .bad gk i _ _ => [(gk, i)]
    | .idle => []
  let s0 := s.countFairness qk vs skip
  match s0.perform qk c with
  | .next s1 =>
    match q.bank.saving with
    | some x =>
      -- a cycle that begins in saving counts, unless the saved bundle issues (R92)
      let issued := !hold && c.gk? == some x.unit
      .next (s1.mapBank qk (fun b =>
        let b := if issued then b else { b with savcyc := b.savcyc + 1 }
        if issued || !s1.savedLives x then leaveSaving b else b))
    | none =>
      if hold then .next s1
      else
        -- the count uses the level before this cycle's deductions
        let b0 := starveAfter vs c { (s1.quad qk).bank with level := q.bank.level }
        .next (s1.mapBank qk (fun b => s.enterSaving vs { b with starve := b0.starve, oldest := b0.oldest }))
  | o => o

/-! ## Events of the issue stage -/

/-- FAIRNESS_PROMOTION (R68). -/
def execFairnessPromotion (gk : Nat) (idx : Nat) (s : State) : Out :=
  let g := s.group gk
  .next (s.setGroup gk { g with frontier := g.frontier.modify idx (promote (s.quad (quadOf gk)).cycle) })
/-- SAVING_ENTRY (R85): a quadrant whose starvation count has reached 256. -/
def execSavingEntry (core : Nat) (quad : Nat) (s : State) : Out :=
  let qk := core * 4 + quad
  let q := s.quad qk
  if q.hold.isSome then .next s else .next (s.mapBank qk (s.enterSaving (s.readyViews qk)))
/-- INSTRUCTION_FETCH (R145, R317): the fetch of an entry misses and fills the instruction cache, or faults. -/
def execInstructionFetch (gk : Nat) (idx : Nat) (s : State) : Out :=
  match (s.group gk).frontier[idx]? with
  | none => .next s
  | some e =>
    if e.held || e.pend.isSome || e.barWait || e.sleep != 0 then .next s
    else
      let t := s.icFill (s.fetcher gk e.pc) e.pc
      match s.fetchAt (s.fetcher gk e.pc) e.pc with
      | .fault c s2 =>
        .next (t.failEntry gk idx e (entryFails e.mask { lane := 0, cause := some c, va := e.pc, kind := 3, s2 := s2, sz := 4 }))
      | _ => .next t
/-- The kind of the wait of an entry. -/
def State.waitKind (s : State) (gk idx : Nat) : Option WaitKind :=
  ((s.group gk).frontier[idx]?).bind (fun e => e.pend.map (·.kind))
/-- An event that tries waiting bundles of some kinds again. -/
def retryKinds (ks : List WaitKind) (gk idx : Nat) (s : State) : Out :=
  match s.waitKind gk idx with
  | some k => if ks.contains k then s.retry gk idx id else .next s
  | none => .next s
/-- An event that ends a wait; the wait of a team whose save is in progress is abandoned with it instead (R392). -/
def endWait (k : WaitKind) (gk idx : Nat) (s : State) : Out :=
  if (s.team (s.group gk).tk).draining.isSome then .next s else retryKinds [k] gk idx s
/-- MEMORY_ACCESS_PERFORMED (R90, R108, R115, R128, R319): the accesses of a bundle are tried again at their homes. -/
def execMemoryAccessPerformed (gk : Nat) (idx : Nat) (s : State) : Out := retryKinds [.home, .acc] gk idx s
/-- LOAD_DATA_RETURN (R237): a load's data is back and its destination is ready. -/
def execLoadDataReturn (gk : Nat) (n : Nat) (s : State) : Out :=
  let g := s.group gk
  .next (s.setGroup gk { g with inFlight := g.inFlight.eraseIdx n })
/-- AWAIT_END (R261). -/
def execAwaitEnd (gk : Nat) (idx : Nat) (s : State) : Out := endWait .await gk idx s
/-- XWAIT_END (R274). -/
def execXwaitEnd (gk : Nat) (idx : Nat) (s : State) : Out := endWait .xwait gk idx s
/-- NBAR_WAIT_END (R294). -/
def execNbarWaitEnd (gk : Nat) (idx : Nat) (s : State) : Out := endWait .nbar gk idx s
/-- LWAIT_END (R276). -/
def execLwaitEnd (gk : Nat) (idx : Nat) (s : State) : Out := endWait .lwait gk idx s
/-- CLOCK_COMPLETE (R268). -/
def execClockComplete (gk : Nat) (idx : Nat) (s : State) : Out := retryKinds [.clock] gk idx s
/-- The waiting `pub`s with walks left: group key, cloister id of the team, issue order, and whether a walk has begun (R138). Those whose
lanes have been ended from outside go on (R135). -/
def State.pubs (s : State) : List (Nat × Option (BitVec 16) × Nat × Bool) :=
  s.groups.flatMap (fun g => g.2.pends.flatMap (fun p =>
    if p.kind = .pub ∧ !p.walks.isEmpty then [(g.1, (s.team g.2.tk).cid, p.turn, p.stage != .start)] else []))
/-- The walks of a cloister id go one at a time in issue order, and a die has 32 walks in flight; further ones wait in issue
order (R138, R140). -/
def State.walkTurn (s : State) (gk : Nat) (p : Pend) : Bool :=
  let cid := (s.team (s.group gk).tk).cid
  let ps := s.pubs
  let first (x : Nat × Option (BitVec 16) × Nat × Bool) : Bool :=
    x.2.1.isNone || !ps.any (fun y => y.2.1 == x.2.1 && decide (y.2.2.1 < x.2.2.1))
  let die := ps.filter (fun x => dieOf (coreOf x.1) == dieOf (coreOf gk) && x.2.2.1 != p.turn)
  (cid.isNone || !ps.any (fun y => y.2.1 == cid && decide (y.2.2.1 < p.turn))) &&
    (p.stage != .start ||
      (decide ((die.filter (fun x => x.2.2.2)).length < 32) &&
       decide ((die.filter (fun x => first x && decide (x.2.2.1 < p.turn))).length < 32)))
/-- The next walk of a `pub` goes through its stages, or through one of them (Config.walkWhole): what is left of the bundle. -/
def State.walkPend (s : State) (gk : Nat) (p : Pend) : Pend × State :=
  match p.walks with
  | [] => (p, s)
  | w :: r =>
    let (g, s1) := State.walkOn { s.groupAgent gk with who := .port } w (if Config.walkWhole s.epoch then 3 else 1) p.stage
      (s.mapCur (fun c => { c with svc := p.svc }))
    let p := { p with svc := s1.cur.svc }
    (match g with
      | .ended f => { p with walks := r, fails := p.fails ++ f.toList, stage := .start, svc := Svc.reset }
      | g => { p with stage := g },
     { s1 with cur := s.cur })
/-- WALK (R138, R140): the next walk of a waiting `pub` takes its turn; after the last walk the bundle goes on. Numbers past the frontier
name the `pub`s whose lanes have been ended: those walks store or fail, and raise nothing on lanes that are gone (log 175). -/
def execWalk (gk : Nat) (idx : Nat) (s : State) : Out :=
  let n := (s.group gk).frontier.length
  match (s.group gk).frontier[idx]? with
  | none =>
    match (s.group gk).walks[idx - n]? with
    | none => .next s
    | some p =>
      if !s.walkTurn gk p then .next s
      else
        let (p, s) := s.walkPend gk p
        let x := s.group gk
        .next (s.setGroup gk { x with walks := if p.walks.isEmpty then x.walks.eraseIdx (idx - n) else x.walks.set (idx - n) p })
  | some e =>
    match e.pend with
    | none => .next s
    | some p =>
      if p.kind ≠ .pub then .next s
      else if p.walks.isEmpty then s.retry gk idx (fun c => { c with walked := true })
      else if !s.walkTurn gk p then .next s
      else
        let (p, s) := s.walkPend gk p
        let x := s.group gk
        let s := s.setGroup gk { x with frontier := x.frontier.set idx { e with pend := some p } }
        if p.walks.isEmpty then s.retry gk idx (fun c => { c with walked := true }) else .next s

end Sys2Proof.Machine
end

