-- ==== Sys2Proof/Machine/Teams.lean ====
section
/-! DEFINITION. What the dispatchers do for teams and grids: the answer to `launch` (R275), the end of a team (R27, R135, R380), the
retirement of a grid (R27, R29), saves (R392), aborts (R400), the watchdog (R376) and waiting teams (R346). -/

namespace Sys2Proof.Machine

/-! ## Objects updated from the I/O die -/

/-- An arrival object as a unit of the I/O die reaches it. -/
inductive IoObject where
  /-- Its PA. -/
  | ok (pa : Nat) (s : State)
  /-- It cannot be translated, read or written. -/
  | bad (cause : Nat) (s2 : Bool)
  /-- Its home cannot serve it now: it keeps its place, and a snoop that it waits for is sent (R115, R319). -/
  | wait (s : State)
deriving DecidableEq, Repr
/-- The object at a VA in a context, for reads (KIND 4) or an update (KIND 5) (R287, R329). -/
def State.ioObject (s : State) (ag : Agent) (va : Dword) (kind : Nat) : IoObject :=
  match s.access ag.fn ag.pasid va kind false true with
    | .error e => .bad (class1 kind e.reason) e.s2
    | .ok x =>
      let q : Ask := { kind := kind, n := 16, cached := false, write := kind == 5, tagged := false, noHost := true }
      if s.poisoned x.pa then .bad (class1 kind 7) false
      else if (s.escape ag x q).isSome then .bad 0x082 false
      else
        let pas := s.withNodes ag [va] [x.pa]
        match if kind == 5 then s.writeAtHome ag pas x.pa 16 else s.atHome ag pas with
        | .wait s1 => .wait s1
        | .ok s1 => .ok x.pa (s1.fillTlb ag.fn ag.pasid va)

/-! ## launch -/

/-- The LPB address of a waiting `launch`. -/
def launchVa (p : Pend) : Option Dword :=
  p.words.findSome? (fun w => match w with | .launch _ a => some (nget 0 p.src.s a.toNat) | _ => none)
/-- LAUNCH_DECIDED (R275): with fewer than 255 unretired children, the dispatcher accepts or refuses the grid. -/
def execLaunchDecided (gk : Nat) (idx : Nat) (s : State) : Out :=
  match (s.group gk).frontier[idx]? with
  | none => .next s
  | some e =>
    match e.pend with
    | none => .next s
    | some p =>
      let tk := (s.group gk).tk
      let t := s.team tk
      let g := s.grid t.grid
      if p.kind ≠ .launch ∨ 255 ≤ s.childCount t.grid t.id then .next s
      else match launchVa p with
        | none => .next s
        | some va =>
          let x := s.accept (ioAgent g.fn g.pasid g.tenant g.queue (.launch gk e.pc.toNat)) va
          let s := x.2
          match x.1 with
          | .wait => .next s
          | .refused c _ => s.retry gk idx (fun c' => { c' with answer := some c })
          | .ok child =>
            let child := { child with
              depth := g.depth + 1, queue := g.queue, tenant := g.tenant, fn := g.fn, pasid := g.pasid, parent := some (t.grid, t.id) }
            (s.addGrid child).2.retry gk idx (fun c' => { c' with answer := some 0 })

/-! ## The end of teams and grids -/

/-- A resident team is over (R310, R135): no group live, no walk, no request and no issued task. -/
def State.teamOver (s : State) (tk : Nat) : Bool :=
  let t := s.team tk
  let tile := s.tile (tk / 64)
  t.present && (s.liveGroups tk).isEmpty && t.gks.all (fun gk => (s.group gk).walks.isEmpty) && !s.reqs.any (fun q => q.2.tk == tk) &&
    !(tile.owned && tile.tk == tk && tile.table.any (·.issued))
/-- TEAM_END (R27, R28, R135, R310, R380, R381): reports, exit step, release of the core, and the cancelling of descendants. It waits
until the exit step can be taken at its homes. -/
def execTeamEnd (tk : Nat) (s : State) : Out :=
  if !s.teamOver tk then .next s
  else
    let t := s.team tk
    let gs := t.gks.map s.group
    let s := match t.cid with | some c => s.dropCloister (tk / 64) c | none => s
    match s.exitAtHome t with
    | .wait s => .next s
    | .ok s =>
      let s := s.finishTeam t gs
      let s := s.leaveCore tk
      let s := if endedByFault t gs then s.cancelBelow t.grid else s
      .next s.raisePicks
/-- The saved teams that have ended and whose exit step can be taken now are over (R27, R135). -/
def State.finishExits (s : State) : State :=
  s.exits.foldl (fun s x =>
    match s.exitAtHome x.1 with
    | .ok s1 => ({ s1 with exits := s1.exits.filter (· != x) }.finishTeam x.1 x.2).raisePicks
    | .wait s1 => s1) s
/-- All teams of a grid have ended (R27); a cancelled grid's other teams are not admitted any more (R28). -/
def State.teamsOver (s : State) (id : BitVec 32) : Bool :=
  let g := s.grid id
  s.residentCount id == 0 && !s.saved.any (fun x => x.2.team.grid == id) && !s.exits.any (fun x => x.1.grid == id) && (g.cancelled || decide (g.teams ≤ g.ended))
/-- WAKE is raised for dormant teams that wait for a child (R352). -/
def State.wakeParent (s : State) (p : Option (BitVec 32 × Nat)) : State :=
  s.saved.foldl (fun s x =>
    let v := x.2
    if v.dormant && v.wakeChild && p == some (v.team.grid, v.team.id) then
      s.raiseOn v.cluster { Raised.reset with
        point := .wake, tenant := (s.grid v.team.grid).tenant, cluster := v.cluster, grid := v.team.grid, team := v.team.id }
    else s) s
/-! ## Saves -/

/-- Every lane of a saved team has ended or waits for its cancel (R383). -/
def Saved.dead (x : Saved) : Bool := x.groups.all (fun g => g.frontier.isEmpty && g.parked.all (fun p => p.reply == some false))
/-- A saved team whose replies leave no lane live ends without restore (R383). -/
def State.endIfDead (s : State) (slot : Nat) : State :=
  let x := nget Saved.reset s.saved slot
  if x.team.present && x.dead then
    let s : State := { s with saved := nput s.saved slot { x with groups := x.groups.map killSavedGroup } }
    ((s.endSaved slot).cancelBelow x.team.grid).raisePicks
  else s

/-- CONTEXT_SAVE_COMPLETE (R392): a drained team is written to its slot, once the host has given up its copies of the slot's lines
(R319); a dormant one with the immediate member raises WAKE (R352), any other is pending again. -/
def execContextSaveComplete (tk : Nat) (s : State) : Out :=
  let t := s.team tk
  match t.draining with
  | none => .next s
  | some (slot, dormant) =>
    if !t.present || (s.liveGroups tk).isEmpty || !s.drained tk then .next s
    else match s.slotAtHome slot with
    | .wait s => .next s
    | .ok s =>
      let s := s.saveTeam tk slot dormant
      let x := nget Saved.reset s.saved slot
      let s := if x.dead then s.endIfDead slot else if x.dormant && x.immediate then
          s.raiseOn x.cluster { Raised.reset with
            point := .wake, tenant := (s.grid t.grid).tenant, cluster := x.cluster, grid := t.grid, team := t.id }
        else s
      .next s.raisePicks
/-- Context slots that no team holds (R390). -/
def State.freeSlots (s : State) : List Nat :=
  let held := s.saved.map (·.1) ++ s.allTeams.filterMap (fun tk => (s.team tk).draining.map (·.1))
  (List.range ((s.reg 0 0x2088).toNat % 65536)).filter (fun i => !held.contains i)
/-- Teams of a list whose save has not begun. -/
def State.unsaved (s : State) (tks : List Nat) : List Nat := tks.filter (fun tk => (s.team tk).present && (s.team tk).draining.isNone)
/-- Teams that begin their saves together: those of a cooperative grid do (R38, R70). -/
def State.evictUnits (s : State) (tks : List Nat) : List (List Nat) :=
  (tks.map (fun tk =>
    if (s.grid (s.team tk).grid).coop then tks.filter (fun x => (s.team x).grid == (s.team tk).grid) else [tk])).eraseDups
/-- The lists that some slots are enough for, each whole. -/
def takeUnits : Nat → List (List Nat) → List Nat
  | _, [] => []
  | n, u :: r => if u.length ≤ n then u ++ takeUnits (n - u.length) r else takeUnits n r
/-- The save of teams begins, each with a slot of its own, as far as the free slots go (R390, R392); all teams of a cooperative grid or
none (R70). -/
def State.evict (s : State) (tks : List Nat) (dormant : Bool) : State :=
  ((takeUnits s.freeSlots.length (s.evictUnits (s.unsaved tks))).zip s.freeSlots).foldl (fun s x => s.setTeam x.1 { s.team x.1 with draining := some (x.2, dormant) }) s

/-! ## Aborts and watchdog -/

/-- A resident or saved team of a live grid. -/
def State.findTeam (s : State) (grid : BitVec 32) (team : Nat) : Option (Nat ⊕ Nat) :=
  match s.allTeams.find? (fun tk => (s.team tk).grid == grid && (s.team tk).id == team) with
  | some tk => some (.inl tk)
  | none => (s.saved.find? (fun x => x.2.team.grid == grid && x.2.team.id == team)).map (fun x => .inr x.1)
/-- A firmware abort of a team (R400): none when no live team matches. -/
def State.abortTeam (s : State) (grid : BitVec 32) (team : Nat) : Option State :=
  match s.findTeam grid team with
  | some (.inl tk) => if (s.liveGroups tk).isEmpty then none else some (s.killTeam tk 0x146 false)
  | some (.inr slot) => some (((s.killSaved 0x146 slot (nget Saved.reset s.saved slot)).cancelBelow grid).raisePicks)
  | none => none
/-- A firmware abort of a grid (R400): as R28 cancels, with 0x146; none when no live grid matches. -/
def State.abortGrid (s : State) (grid : BitVec 32) : Option State :=
  if (s.grid grid).present then some ((s.cancelGrids 0x146 [grid]).raisePicks) else none
/-- ABORT_TEAM (R400). -/
def execAbortTeam (grid : BitVec 32) (team : Nat) (s : State) : Out := .next ((s.abortTeam grid team).getD s)
/-- ABORT_GRID (R400). -/
def execAbortGrid (grid : BitVec 32) (s : State) : Out := .next ((s.abortGrid grid).getD s)
/-- WATCHDOG_EXPIRY (R376): a team silent for LIMIT ms ends with 0x144. -/
def execWatchdogExpiry (tk : Nat) (s : State) : Out :=
  let t := s.team tk
  let limit := (s.reg (s.grid t.grid).fn 0x60).toNat % 65536
  if !t.present || limit == 0 || decide (t.silent < limit * 1000000) || !s.silenceCounts tk then .next s
  else .next ((s.killTeam tk 0x144 false).setTeam tk { (s.killTeam tk 0x144 false).team tk with silent := 0 }).dispEvent
/-- BLOCK_WAIT_TIMEOUT (R346): every live group of a team has waited for 20 µs. -/
def execBlockWaitTimeout (tk : Nat) (s : State) : Out :=
  let t := s.team tk
  let g := s.grid t.grid
  let due := (s.engine (clusterOf (tk / 64))).raised ++ ((s.engine (clusterOf (tk / 64))).run.map (·.raised)).toList
  let again := due.any (fun r => r.point == .block && r.grid == t.grid && r.team == t.id)
  if !t.present || t.draining.isSome || g.coop || again || decide (t.waited < 20000) then .next s
  else
    let c := clusterOf (tk / 64)
    .next (s.raiseOn c
      { Raised.reset with point := .block, tenant := g.tenant, cluster := c, grid := t.grid, team := t.id })

end Sys2Proof.Machine
end

