-- ==== Sys2Proof/Machine/Policy.lean ====
section
/-! DEFINITION. The policy engines (R344-R366): decisions raised and started, their inputs, the Muovo words, the decision
registers and what the dispatcher does with them, and the verifier (R358, R359). -/

namespace Sys2Proof.Machine

/-! ## Points -/

/-- DP of a point (R346). -/
def Point.dp : Point → Nat
  | .enq => 0 | .pick => 1 | .tick => 2 | .block => 3 | .wake => 4 | .migrate => 5 | .hypPick => 1 | .hypTick => 2
/-- The hypervisor engine's points. -/
def Point.hyp : Point → Bool
  | .hypPick => true | .hypTick => true | _ => false
/-- A decision of the point needs a candidate (R346, R347). -/
def Point.needs : Point → Bool
  | .tick => false | .hypTick => false | _ => true
/-- The registers that a point may write (R350). -/
def Point.mayWrite : Point → List Nat
  | .enq => [1, 3] | .pick => [0, 4] | .hypPick => [0] | .tick => [2] | .hypTick => [1, 2] | .block => [0] | .wake => [0, 3]
  | .migrate => [5]
/-- Number of candidate fields of a point, from 0x10 up (R348). -/
def Point.fields : Point → Nat
  | .enq => 12 | .pick => 12 | .block => 5 | .wake => 5 | .migrate => 3 | .hypPick => 5 | .tick => 0 | .hypTick => 0
/-- The slot of a raised decision's routine (R345). -/
def Raised.slot (r : Raised) : Nat := if r.point.hyp then 512 + r.point.dp else r.tenant * 8 + r.point.dp

/-! ## Candidates -/

/-- Whole microseconds since a TIME in ns. -/
def State.since (s : State) (t : Nat) : Nat := (s.time - t) / 1000
/-- A grid as a candidate (R348). -/
def State.gridCand (s : State) (id : BitVec 32) : Cand :=
  let g := s.grid id
  let last (j : Nat) : Nat := nget 0 s.interval.last (g.queue * 4 + j)
  { grid := id, team := 0, tenant := g.tenant
    fields := [g.queue, id.toNat, s.pendingCount id, s.residentCount id, last 0, last 1, last 2, s.since g.since, g.prio.toNat,
      g.cls, g.tg, g.coop.toNat] }
/-- A team as a candidate, with the time since when it waits or is dormant. -/
def State.teamCand (s : State) (id : BitVec 32) (team us : Nat) : Cand :=
  let g := s.grid id
  { grid := id, team := team, tenant := g.tenant, fields := [g.queue, id.toNat, team, us, g.prio.toNat] }
/-- A die as a candidate for a frame. -/
def State.dieCand (s : State) (frame die : Nat) : Cand :=
  { grid := 0, team := 0, tenant := 0
    fields := [(nget 0 (s.frame frame).wcnt die).toNat, (s.frames.filter (fun f => f.2.moving == some die)).length,
      (s.homeDie (frame * 65536) == die).toNat] }
/-- Cores that hold teams of a tenant. -/
def State.tenantCores (s : State) (t : Nat) : Nat :=
  (((s.allTeams.filter (fun tk => (s.grid (s.team tk).grid).tenant == t)).map (· / 64)).eraseDups).length
/-- A tenant as a candidate on a cluster. -/
def State.tenantCand (s : State) (c t : Nat) : Cand :=
  let gs := (s.candidates c).filter (fun id => (s.grid id).tenant == t)
  { grid := 0, team := 0, tenant := t
    fields := [t, gs.length, s.tenantCores t, nget 0 s.interval.last (2 ^ 20 + t),
      match gs with | [] => 0 | id :: _ => s.since (s.grid id).since] }
/-- Context slot of a dormant team. -/
def State.dormantSlot (s : State) (id : BitVec 32) (team : Nat) : Option Nat :=
  (s.saved.find? (fun x => x.2.team.grid == id && x.2.team.id == team && x.2.dormant)).map (·.1)
/-- Key of a resident team whose save is not in progress. -/
def State.residentTeam (s : State) (id : BitVec 32) (team : Nat) : Option Nat :=
  s.allTeams.find? (fun tk => (s.team tk).grid == id && (s.team tk).id == team && (s.team tk).draining.isNone)
/-- The candidates that a decision samples when it starts: the oldest 64 (R347, R348). -/
def State.sample (s : State) (r : Raised) : List Cand :=
  let l := match r.point with
    | .enq => if (s.grid r.grid).present && !(s.grid r.grid).enqueued then [s.gridCand r.grid] else []
    | .pick => ((s.candidates r.cluster).filter (fun id => (s.grid id).tenant == r.tenant)).map s.gridCand
    | .hypPick => (s.pickTenants r.cluster).map (s.tenantCand r.cluster)
    | .block =>
      match s.residentTeam r.grid r.team with
      | some tk => [s.teamCand r.grid r.team ((s.team tk).waited / 1000)]
      | none => []
    | .wake =>
      match s.dormantSlot r.grid r.team with
      | some x => [s.teamCand r.grid r.team (s.since (nget Saved.reset s.saved x).since)]
      | none => []
    | .migrate => (List.range 4).map (s.dieCand r.frame)
    | .tick => []
    | .hypTick => []
  l.take 64

/-! ## The fixed decision -/

/-- Place of the first candidate whose number exceeds the last one, else 0 (R362). -/
def roundRobin (last : Option Nat) (ns : List Nat) : Nat :=
  match last with
  | none => 0
  | some x => (ns.findIdx? (fun n => decide (x < n))).getD 0
/-- The decision registers at the start (R350, R362). A register that is not listed changes nothing when the dispatcher acts:
the priority of a WAKE, and the SLICE of a hypervisor TICK, which is 1,000 unless written (R351). -/
def State.presets (s : State) (k : Nat) (r : Raised) (cs : List Cand) : NMap Nat :=
  match r.point with
  | .enq => [(1, 0xFFFFF), (3, 0)]
  | .pick => [(0, roundRobin (nget none (s.engine k).lastQueue r.tenant) (cs.map (fun c => c.fields.headD 0))), (4, 8)]
  | .hypPick => [(0, roundRobin (nget none s.hyp.lastTenant r.cluster) (cs.map (·.tenant)))]
  | .tick => [(2, 1000)]
  | .hypTick => [(1, (s.quota r.tenant).toNat)]
  | .block => [(0, 0)]
  | .wake => [(0, 1)]
  | .migrate => [(5, 4)]

/-! ## Starting a decision -/

/-- ARG (R348). -/
def State.argOf (s : State) (k : Nat) (r : Raised) : Nat :=
  match r.point with
  | .tick => s.since (nget 0 (s.engine k).tickAt r.tenant)
  | .hypTick => r.tenant
  | .migrate => r.frame
  | _ => 0
/-- The routine that serves a slot; the words of an empty or retired one are none (R345, R361). -/
def State.routine (s : State) (slot : Nat) : Routine :=
  let r := nget Routine.reset s.slots slot
  if r.retired then { r with words := [] } else r
/-- The decision that starts from a raised one (R347, R357). -/
def State.newDecision (s : State) (k : Nat) (r : Raised) (cs : List Cand) : Decision :=
  { raised := r, slot := r.slot, routine := s.routine r.slot, arg := s.argOf k r, cands := cs, pc := 0, used := 0, w := []
    scratch := [], regs := s.presets k r cs, loops := [] }
/-- A PICK of a cluster that still evicts waits (R364). -/
def State.mustWait (s : State) (r : Raised) : Bool := (r.point == .pick || r.point == .hypPick) && s.evicting r.cluster
/-- An idle engine starts its oldest raised decision, if it is of the given point; without a required candidate the decision
ends at once (R347). -/
def State.startDecision (s : State) (k : Nat) (p : Point) : State :=
  let e := s.engine k
  match e.run, e.raised with
  | none, r :: rest =>
    if r.point ≠ p ∨ s.mustWait r = true then s
    else
      let cs := s.sample r
      if r.point.needs && cs.isEmpty then s.setEngine k { e with raised := rest }
      else
        let d := s.newDecision k r cs
        let x := nget Routine.reset s.slots r.slot
        let s := if d.routine.words.isEmpty then s
                 else { s with slots := nput s.slots r.slot { x with calls := nput x.calls k (nget 0 x.calls k + 1) } }
        s.setEngine k { e with
          raised := rest, run := some d
          tickAt := if r.point == .tick then nput e.tickAt r.tenant s.time else e.tickAt }
  | _, _ => s
/-- ENQ_DECISION (R346). -/
def execEnqDecision (k : Nat) (s : State) : Out := .next (s.startDecision k .enq)
/-- PICK_DECISION (R346). -/
def execPickDecision (k : Nat) (s : State) : Out := .next (s.startDecision k .pick)
/-- TICK_DECISION (R346). -/
def execTickDecision (k : Nat) (s : State) : Out := .next (s.startDecision k .tick)
/-- BLOCK_DECISION (R346). -/
def execBlockDecision (k : Nat) (s : State) : Out := .next (s.startDecision k .block)
/-- WAKE_DECISION (R346, R352). -/
def execWakeDecision (k : Nat) (s : State) : Out := .next (s.startDecision k .wake)
/-- MIGRATE_DECISION (R346). -/
def execMigrateDecision (k : Nat) (s : State) : Out := .next (s.startDecision k .migrate)
/-- HYP_PICK_DECISION (R346). -/
def execHypPickDecision (s : State) : Out := .next (s.startDecision 20 .hypPick)
/-- HYP_TICK_DECISION (R346). -/
def execHypTickDecision (s : State) : Out := .next (s.startDecision 20 .hypTick)

/-! ## Ticks -/

/-- SLICE in force of a tenant on an engine, in ns. -/
def State.sliceOf (s : State) (k t : Nat) : Nat := nget 1000 (s.engine k).slice t * 1000
/-- Dormant teams of a tenant that left a cluster and whose wake set holds the immediate member are offered again (R352). -/
def State.offerAgain (s : State) (k t : Nat) : State :=
  s.saved.foldl (fun s x =>
    let v := x.2
    if v.dormant && v.immediate && v.cluster == k && (s.grid v.team.grid).tenant == t then
      s.raiseOn k { Raised.reset with point := .wake, tenant := t, cluster := k, grid := v.team.grid, team := v.team.id }
    else s) s
/-- TENANT_TICK_EXPIRY (R346, R352): the tick interval of a tenant whose mask holds the cluster ends. -/
def execTenantTickExpiry (k tenant : Nat) (s : State) : Out :=
  let r : Raised := { Raised.reset with point := .tick, tenant := tenant, cluster := k }
  if 20 ≤ k ∨ 64 ≤ tenant ∨ !(s.tenantMask tenant).getLsbD k ∨ s.time < nget 0 (s.engine k).tickAt tenant + s.sliceOf k tenant ∨
      (s.engine k).raised.any (fun w => absorbs w r) then .next s
  else .next ((s.raiseOn k r).offerAgain k tenant)
/-- Tenants with an assigned AQI, in increasing number. -/
def State.assignedTenants (s : State) : List Nat :=
  (List.range 64).filter (fun t => s.aqis.any (fun a => a.2.entry.v && a.2.entry.tenant == t))
/-- A hypervisor TICK is raised or runs. -/
def State.inRound (s : State) : Bool :=
  (s.engine 20).raised.any (fun r => r.point == .hypTick) || (s.engine 20).run.any (fun d => d.raised.point == .hypTick)
/-- HYP_TICK_EXPIRY (R346, R351): the next round, after the smallest SLICE written in the last one or 1,000 µs. -/
def execHypTickExpiry (s : State) : Out :=
  if s.inRound ∨ s.time < s.hyp.roundAt + s.hyp.least.getD 1000 * 1000 then .next s
  else
    let s := { s with hyp := { s.hyp with roundAt := s.time, least := none } }
    .next (s.assignedTenants.foldl (fun s t => s.raiseOn 20 { Raised.reset with point := .hypTick, tenant := t }) s)

/-! ## Counters -/

/-- Sum over the quadrants of a cluster. -/
def State.sumQuads (s : State) (c : Nat) (f : Quad → Nat) : Nat := ((List.range 32).map (fun i => f (s.quad (c * 32 + i)))).sum
/-- Sum over the sequencer banks of a cluster. -/
def State.sumSeqs (s : State) (c : Nat) (f : Bank → Nat) : Nat :=
  ((List.range 8).map (fun i => f (nget Bank.reset s.seqBanks (c * 8 + i)))).sum
/-- Counter of a cluster by index (R349); none for an index that names none. A budget reads as its limit per interval, not as what is
left of it (log 137). -/
def State.clusterCounter (s : State) (c i : Nat) : Option Nat :=
  let cores := (List.range 8).map (fun j => c * 8 + j)
  match i with
  | 0x000 => some c
  | 0x001 => some (s.cluster c).cls
  | 0x002 => some ((List.range 32).map (fun q => 16 - (s.quadGroups (c * 32 + q)).length)).sum
  | 0x003 => some ((cores.map (fun x => 512 - s.coreTmem x / 1024)).sum)
  | 0x004 => some (cores.filter (fun x => (s.coreTeams x).all (fun tk => (s.grid (s.team tk).grid).tsoff == 0))).length
  | 0x005 => some (s.sumQuads c (·.bank.level))
  | 0x006 => some (s.sumQuads c (·.bank.spent.toNat))
  | 0x007 => some (s.sumQuads c (·.bank.savcyc.toNat))
  | 0x008 => some (s.sumSeqs c (·.spent.toNat))
  | 0x009 => some (nget 0 (s.budget c).limit 0)
  | 0x00A => some (nget 0 (s.budget c).limit 1)
  | 0x00B => some (nget 0 (s.budget c).limit 2)
  | 0x00C => some (nget 0 (s.budget c).spent 0).toNat
  | 0x00D => some (nget 0 (s.budget c).spent 1).toNat
  | 0x00E => some (nget 0 (s.budget c).spent 2).toNat
  | 0x00F => some (s.budget c).delay.toNat
  | 0x010 => some (nget 0 s.l2miss c).toNat
  | 0x011 => some (s.time / 1000)
  | 0x012 => some (s.sumQuads c (·.bank.savepi.toNat))
  | 0x013 => some (s.sumSeqs c (·.savcyc.toNat))
  | 0x020 => some (s.arcade (clusterDie c)).injTot.toNat
  | 0x021 => some (s.arcade (clusterDie c)).expTot.toNat
  | _ => none
/-- Cluster counters that routines reach; those of 0x014-0x01F have no name (R349). -/
def clusterIndex (i : Nat) : Bool := decide (i ≤ 0x021)
/-- What a routine reaches (R349). -/
def counterOk (hyp : Bool) (i : Nat) : Bool :=
  if hyp then
    (decide (0x1000 ≤ i ∧ i < 0x1000 + 0x40 * 20) && clusterIndex ((i - 0x1000) % 0x40)) ||
    decide (0x2000 ≤ i ∧ i < 0x2000 + 0x10 * 64 ∧ (i - 0x2000) % 0x10 < 7)
  else clusterIndex i || decide (0x030 ≤ i ∧ i ≤ 0x036)
/-- Accounting counter of a tenant (R349, R424). -/
def State.acctCounter (s : State) (t j : Nat) : Nat := (nget 0 s.acct (t * 8 + j)).toNat
/-- The counter that `ldc` reads on an engine (R349); an index without a counter gives a free value. -/
def State.counter (s : State) (k : Nat) (d : Decision) (i : Nat) : Dword :=
  BitVec.ofNat 64
    (if k = 20 then
      if 0x2000 ≤ i then s.acctCounter ((i - 0x2000) / 0x10) ((i - 0x2000) % 0x10)
      else (s.clusterCounter ((i - 0x1000) / 0x40) ((i - 0x1000) % 0x40)).getD (Config.freeNat s.free)
    else if 0x030 ≤ i then s.acctCounter d.raised.tenant (i - 0x030)
    else (s.clusterCounter k i).getD (Config.freeNat s.free))

/-! ## Word mechanics -/

/-- Loops whose body a taken branch leaves end (R357). -/
def leaveLoops (n : Nat) : List ELoop → List ELoop
  | [] => []
  | l :: r => if l.first ≤ n ∧ n < l.first + l.len then l :: r else leaveLoops n r
/-- Falling through to word `n`: at the end of a body the next pass begins, at a cost of 1, or the loop ends (R356, R357). -/
def loopEnd (n : Nat) : List ELoop → Nat × List ELoop × Nat
  | [] => (n, [], 0)
  | l :: r =>
    if n = l.first + l.len then
      if 1 < l.left then (l.first, { l with left := l.left - 1 } :: r, 1) else loopEnd n r
    else (n, l :: r, 0)
/-- The decision goes on at the next word. -/
def Decision.next (d : Decision) (n : Nat) : Decision :=
  let x := loopEnd n d.loops
  { d with pc := x.1, loops := x.2.1, used := d.used + x.2.2 }
/-- The decision goes on at a branch target. -/
def Decision.jump (d : Decision) (n : Nat) : Decision := { d with pc := n, loops := leaveLoops n d.loops }
/-- The decision has no more words (R357). -/
def Decision.stop (d : Decision) : Decision := { d with pc := d.routine.words.length, loops := [] }
/-- A register. -/
def Decision.reg (d : Decision) (i : BitVec 4) : Dword := nget 0 d.w i.toNat
/-- A register written. -/
def Decision.setReg (d : Decision) (i : BitVec 4) (x : Dword) : Decision := { d with w := nput d.w i.toNat x }
/-- The event record of an overrun (R363). -/
def overrunRec (s : State) (k : Nat) (d : Decision) : CompRec :=
  { time := s.time, seq := d.routine.seq, aqi := d.routine.aqi, type := 5, status := 9, evtag := 0, cause := 0x8148, nflt := 0
    detail := d.pc % 2 ^ 16 + k * 2 ^ 16 + d.raised.point.dp * 2 ^ 24, irq := true }
/-- A routine, by the number of its installation, is retired: in its slot when it is still there, and in the decisions that run it
(R361). -/
def State.retireRoutine (s : State) (num : Nat) : State :=
  let mark (d : Decision) : Decision := if d.routine.num = num then { d with routine := { d.routine with retired := true } } else d
  { s with slots := s.slots.map (fun x => if x.2.num = num then (x.1, { x.2 with retired := true }) else x)
           engines := s.engines.map (fun e => (e.1, { e.2 with run := e.2.run.map mark })) }
/-- An overrun (R361, R363): the presets hold, the routine is retired, and its first overrun is recorded. -/
def State.overrun (s : State) (k : Nat) (d : Decision) : State :=
  let s := s.setEngine k { s.engine k with run := some { d.stop with regs := s.presets k d.raised d.cands } }
  if d.routine.retired then s
  else
    let e := (nget Aqi.reset s.aqis d.routine.aqi).entry
    let ring := if e.v then e.fn * 16 + e.er else 0
    { s.retireRoutine d.routine.num with ringWait := nput s.ringWait ring (nget [] s.ringWait ring ++ [overrunRec s k d]) }
/-- One word of the decision that the engine on the port runs: its cost is checked against the allowance, then it is performed
(R357). -/
def State.muovo (s : State) (cost : Decision → Nat) (f : Decision → Decision) : Out :=
  let k := s.cur.unit
  match (s.engine k).run with
  | none => .next s
  | some d =>
    if d.routine.allow < d.used + cost d then .next (s.overrun k d)
    else .next (s.setEngine k { s.engine k with run := some (f { d with used := d.used + cost d }) })
/-- A word of cost 1 or a fixed cost that computes a register. -/
def State.muovoReg (s : State) (cost : Nat) (i : BitVec 4) (f : Decision → Dword) : Out :=
  s.muovo (fun _ => cost) (fun d => (d.setReg i (f d)).next (d.pc + 1))
/-- Immediate of 18 bits, sign-extended (R188). -/
def imm18 (i : BitVec 18) : Dword := i.signExtend 64

/-! ## Muovo words -/

/-- MUOVO_NOP (R356). -/
def execMuovoNop (s : State) : Out := s.muovo (fun _ => 1) (fun d => d.next (d.pc + 1))
/-- MUOVO_LI (R356). -/
def execMuovoLi (d : BitVec 4) (i : BitVec 18) (s : State) : Out := s.muovoReg 1 d (fun _ => imm18 i)
/-- MUOVO_MOV (R356). -/
def execMuovoMov (d a : BitVec 4) (s : State) : Out := s.muovoReg 1 d (fun x => x.reg a)
/-- MUOVO_ADD (R356). -/
def execMuovoAdd (d a b : BitVec 4) (s : State) : Out := s.muovoReg 1 d (fun x => x.reg a + x.reg b)
/-- MUOVO_SUB (R356). -/
def execMuovoSub (d a b : BitVec 4) (s : State) : Out := s.muovoReg 1 d (fun x => x.reg a - x.reg b)
/-- MUOVO_MUL (R356). -/
def execMuovoMul (d a b : BitVec 4) (s : State) : Out := s.muovoReg 3 d (fun x => x.reg a * x.reg b)
/-- MUOVO_AND (R356). -/
def execMuovoAnd (d a b : BitVec 4) (s : State) : Out := s.muovoReg 1 d (fun x => x.reg a &&& x.reg b)
/-- MUOVO_OR (R356). -/
def execMuovoOr (d a b : BitVec 4) (s : State) : Out := s.muovoReg 1 d (fun x => x.reg a ||| x.reg b)
/-- MUOVO_XOR (R356). -/
def execMuovoXor (d a b : BitVec 4) (s : State) : Out := s.muovoReg 1 d (fun x => x.reg a ^^^ x.reg b)
/-- MUOVO_SHL (R356): by wb[5:0]. -/
def execMuovoShl (d a b : BitVec 4) (s : State) : Out := s.muovoReg 1 d (fun x => x.reg a <<< ((x.reg b).toNat % 64))
/-- MUOVO_SHR (R356): by wb[5:0]. -/
def execMuovoShr (d a b : BitVec 4) (s : State) : Out := s.muovoReg 1 d (fun x => x.reg a >>> ((x.reg b).toNat % 64))
/-- MUOVO_MIN (R356): unsigned. -/
def execMuovoMin (d a b : BitVec 4) (s : State) : Out :=
  s.muovoReg 1 d (fun x => if (x.reg a).toNat ≤ (x.reg b).toNat then x.reg a else x.reg b)
/-- MUOVO_MAX (R356): unsigned. -/
def execMuovoMax (d a b : BitVec 4) (s : State) : Out :=
  s.muovoReg 1 d (fun x => if (x.reg a).toNat ≤ (x.reg b).toNat then x.reg b else x.reg a)
/-- MUOVO_SLT (R356): unsigned. -/
def execMuovoSlt (d a b : BitVec 4) (s : State) : Out :=
  s.muovoReg 1 d (fun x => if (x.reg a).toNat < (x.reg b).toNat then 1 else 0)
/-- MUOVO_SLE (R356): unsigned. -/
def execMuovoSle (d a b : BitVec 4) (s : State) : Out :=
  s.muovoReg 1 d (fun x => if (x.reg a).toNat ≤ (x.reg b).toNat then 1 else 0)
/-- MUOVO_SEQ (R356). -/
def execMuovoSeq (d a b : BitVec 4) (s : State) : Out := s.muovoReg 1 d (fun x => if x.reg a = x.reg b then 1 else 0)
/-- MUOVO_SEL (R356): by the old wd. -/
def execMuovoSel (d a b : BitVec 4) (s : State) : Out := s.muovoReg 1 d (fun x => if x.reg d ≠ 0 then x.reg a else x.reg b)
/-- MUOVO_ADDI (R356). -/
def execMuovoAddi (d a : BitVec 4) (i : BitVec 18) (s : State) : Out := s.muovoReg 1 d (fun x => x.reg a + imm18 i)
/-- MUOVO_LDC (R349, R356). -/
def execMuovoLdc (d : BitVec 4) (i : BitVec 18) (s : State) : Out :=
  { s with free := s.free + 1 }.muovoReg 6 d (fun x => s.counter s.cur.unit x i.toNat)
/-- Byte offset of a Muovo access in its space (R356). -/
def muovoOffset (size : Nat) (base : Dword) (o : BitVec 17) : Nat := ((base.toNat + o.toNat) % 2 ^ 64 % size) / 8 * 8
/-- First Atrium byte of a routine's window (R353). -/
def windowBase (k : Nat) (d : Decision) : Nat := if k = 20 then hypWindow else 4 * 0x40000 + 0x400 * d.raised.tenant
/-- Cycles of a window access: 4 when the slice holds the line, up to 40 (R356), a free value within that range. -/
def State.windowCost (s : State) : Nat := 4 + Config.freeNat s.free % 37
/-- MUOVO_LDA (R354, R356). -/
def execMuovoLda (d a : BitVec 4) (sp : BitVec 1) (o : BitVec 17) (s : State) : Out :=
  if sp = 0 then
    s.muovoReg 2 d (fun x => BitVec.ofNat 64 (mreadN x.scratch (muovoOffset 256 (x.reg a) o) 8))
  else
    { s with free := s.free + 1 }.muovoReg s.windowCost d
      (fun x => BitVec.ofNat 64 (mreadN s.atrium (windowBase s.cur.unit x + muovoOffset 1024 (x.reg a) o) 8))
/-- A window store of the decision on the port, when its cost is within the allowance. -/
def State.windowStore (s : State) (d a : BitVec 4) (o : BitVec 17) (cost : Nat) : State :=
  match (s.engine s.cur.unit).run with
  | none => s
  | some x =>
    if x.routine.allow < x.used + cost then s
    else s.atriumWrite (windowBase s.cur.unit x + muovoOffset 1024 (x.reg a) o) 8 (x.reg d).toNat
/-- MUOVO_STA (R354, R356). -/
def execMuovoSta (d a : BitVec 4) (sp : BitVec 1) (o : BitVec 17) (s : State) : Out :=
  if sp = 0 then
    s.muovo (fun _ => 2) (fun x =>
      { x with scratch := mwriteN x.scratch (muovoOffset 256 (x.reg a) o) 8 (x.reg d).toNat }.next (x.pc + 1))
  else
    ({ s with free := s.free + 1 }.windowStore d a o s.windowCost).muovo (fun _ => s.windowCost) (fun x => x.next (x.pc + 1))
/-- All ones, which a field of an absent candidate reads as (R348). -/
def absentField : Nat := 0xFFFFFFFFFFFFFFFF
/-- A decision or candidate field (R348). -/
def Decision.field (d : Decision) (k : Nat) (a : BitVec 4) (f : Nat) : Nat :=
  match f with
  | 0 => d.cands.length
  | 1 => d.arg
  | 2 => nget 0 d.routine.calls k
  | 3 => k
  | _ =>
    match d.cands[(d.reg a).toNat]? with
    | some c => c.fields.getD (f - 0x10) absentField
    | none => absentField
/-- Cycles of `ldp`: 2 for a decision field, 6 or 1 for a candidate that is present or absent (R356). -/
def Decision.ldpCost (d : Decision) (a : BitVec 4) (f : Nat) : Nat :=
  if f < 0x10 then 2 else if (d.reg a).toNat < d.cands.length then 6 else 1
/-- MUOVO_LDP (R348, R356). -/
def execMuovoLdp (d a : BitVec 4) (f : BitVec 8) (s : State) : Out :=
  s.muovo (fun x => x.ldpCost a f.toNat) (fun x => (x.setReg d (BitVec.ofNat 64 (x.field s.cur.unit a f.toNat))).next (x.pc + 1))
/-- Bits that a decision register keeps (R350). -/
def decBits (r : Nat) : Nat := [7, 20, 14, 8, 4, 3].getD r 0
/-- MUOVO_STDEC (R350, R356). -/
def execMuovoStdec (a : BitVec 4) (r : BitVec 18) (s : State) : Out :=
  s.muovo (fun _ => 1) (fun x =>
    { x with regs := if r.toNat < 6 then nput x.regs r.toNat ((x.reg a).toNat % 2 ^ decBits r.toNat) else x.regs }.next (x.pc + 1))
/-- A branch: 2 cycles when taken, else 1 (R356). -/
def State.muovoBranch (s : State) (k : BitVec 18) (taken : Decision → Bool) : Out :=
  s.muovo (fun x => if taken x then 2 else 1)
    (fun x => if taken x then x.jump (x.pc + 1 + k.toNat) else x.next (x.pc + 1))
/-- MUOVO_BF (R356): forward branch if zero. -/
def execMuovoBf (a : BitVec 4) (k : BitVec 18) (s : State) : Out := s.muovoBranch k (fun x => x.reg a == 0)
/-- MUOVO_BT (R356): forward branch if not zero. -/
def execMuovoBt (a : BitVec 4) (k : BitVec 18) (s : State) : Out := s.muovoBranch k (fun x => x.reg a != 0)
/-- MUOVO_JF (R356). -/
def execMuovoJf (k : BitVec 18) (s : State) : Out := s.muovoBranch k (fun _ => true)
/-- MUOVO_LOOP (R357): `l` is the body's length minus one, `n` the count; a count of 0 skips the body. -/
def execMuovoLoop (l n : BitVec 8) (s : State) : Out :=
  s.muovo (fun _ => 1) (fun x =>
    if n = 0 then x.next (x.pc + l.toNat + 2)
    else { x with pc := x.pc + 1, loops := { first := x.pc + 1, len := l.toNat + 1, left := n.toNat } :: x.loops })
/-- MUOVO_RET (R356): ends the decision. -/
def execMuovoRet (s : State) : Out := s.muovo (fun _ => 1) Decision.stop

/-! ## What the dispatcher does -/

/-- A decision register, with what the dispatcher takes when it is not listed. -/
def Decision.out (d : Decision) (r dflt : Nat) : Nat := nget dflt d.regs r
/-- ENQ: MASK, within the tenant's mask, and PRIO of the grid are set, and it may be picked (R351). While the tenant's mask is empty
the grid waits until it holds a cluster (R364), so the written value stands (log 54). -/
def State.actEnq (s : State) (d : Decision) : State :=
  let id := d.raised.grid
  let g := s.grid id
  if !g.present then s
  else (s.setGrid id { g with
    mask := BitVec.ofNat 20 (d.out 1 0xFFFFF) &&& (if s.tenantMask g.tenant = 0 then 0xFFFFF else s.tenantMask g.tenant), prio := BitVec.ofNat 8 (d.out 3 0), enqueued := true }).raisePicks
/-- Hypervisor PICK: the chosen tenant's PICK runs on the cluster. -/
def State.actHypPick (s : State) (d : Decision) : State :=
  match d.cands[d.out 0 127]? with
  | none => s
  | some c =>
    let s := { s with hyp := { s.hyp with lastTenant := nput s.hyp.lastTenant d.raised.cluster (some c.tenant) } }
    s.raiseOn d.raised.cluster { Raised.reset with point := .pick, tenant := c.tenant, cluster := d.raised.cluster }
/-- The chosen grid's next team, or all teams of a cooperative one, admitted; none when that cannot be done now (R351). -/
def State.pickAdmit (s : State) (c target : Nat) (id : BitVec 32) : Option State :=
  if !s.isCandidate c id then none
  else
    let g := s.grid id
    if g.coop then s.admitCoop id
    else
      let cores := (s.openCores c g).filter (fun x => decide (8 ≤ target) || x == c * 8 + target)
      match s.nextTeam id c, cores with
      | some t, core :: _ =>
        let rooms := s.roomsAt core g
        some ({ s with free := s.free + 1 }.admitTeam id t core (rooms.getD (Config.freeNat s.free % rooms.length) 0))
      | _, _ => none
/-- PICK: the chosen grid's team goes to a core; a choice that fails is made once more, then nothing of the tenant is admitted
until the next event (R351). -/
def State.actPick (s : State) (k : Nat) (d : Decision) : State :=
  let c := d.raised.cluster
  match d.cands[d.out 0 127]? with
  | none => s
  | some x =>
    match s.pickAdmit c (d.out 4 8) x.grid with
    | some s =>
      let e := s.engine k
      (s.setEngine k { e with lastQueue := nput e.lastQueue d.raised.tenant (some (x.fields.headD 0)) }).raisePick c
    | none =>
      if d.raised.again then { s with pickHeld := s.pickHeld ++ [c * 64 + d.raised.tenant] }
      else s.raiseOn k { d.raised with again := true }
/-- SLICE as the dispatcher takes it. -/
def clampSlice (x : Nat) : Nat := max 10 (min 10000 x)
/-- TICK. -/
def State.actTick (s : State) (k : Nat) (d : Decision) : State :=
  let e := s.engine k
  s.setEngine k { e with slice := nput e.slice d.raised.tenant (clampSlice (d.out 2 1000)) }
/-- Teams that leave when a tenant's mask loses clusters: its teams there, and every team of a cooperative grid that has one
there (R38, R364). -/
def State.leavers (s : State) (t : Nat) (lost : BitVec 20) : List Nat :=
  let here := s.allTeams.filter (fun tk => (s.grid (s.team tk).grid).tenant == t && lost.getLsbD (clusterOf (tk / 64)))
  let coops := (here.map (fun tk => (s.team tk).grid)).filter (fun id => (s.grid id).coop)
  s.allTeams.filter (fun tk => here.contains tk || coops.contains (s.team tk).grid)
/-- Evictions that a hypervisor TICK whose mask change waits begins already (R390). -/
def State.evictions (s : State) (d : Decision) : State :=
  if d.raised.point = .hypTick then
    let t := d.raised.tenant
    s.evict (s.leavers t (s.tenantMask t &&& ~~~(BitVec.ofNat 20 (d.out 1 0xFFFFF) &&& s.quota t))) false
  else s
/-- Hypervisor TICK (R351, R364); none while an eviction waits for a context slot (R390). -/
def State.actHypTick (s : State) (d : Decision) : Option State :=
  let t := d.raised.tenant
  let old := s.tenantMask t
  let new := BitVec.ofNat 20 (d.out 1 0xFFFFF) &&& s.quota t
  let out := s.leavers t (old &&& ~~~new)
  if !((s.evict out false).unsaved out).isEmpty then none
  else
    let s := s.evict out false
    let s := { s with
      masks := nput s.masks t new
      hyp := { s.hyp with least := match d.regs.find? (fun r => r.1 == 2) with
        | none => s.hyp.least
        | some (_, x) => some (match s.hyp.least with | none => clampSlice x | some y => min y (clampSlice x)) } }
    some (if new &&& ~~~old = 0 then s else s.raisePicks)
/-- BLOCK: PICK[0] = 1 begins the save that makes the team dormant. -/
def State.actBlock (s : State) (d : Decision) : Option State :=
  if d.out 0 0 % 2 = 0 then some s
  else match s.residentTeam d.raised.grid d.raised.team with
    | none => some s
    | some tk => if s.freeSlots.isEmpty then none else some (s.evict [tk] true)
/-- WAKE: PICK[0] = 1 makes the team pending again, with the new priority. -/
def State.actWake (s : State) (d : Decision) : State :=
  if d.out 0 1 % 2 = 0 then s
  else match s.dormantSlot d.raised.grid d.raised.team with
    | none => s
    | some slot =>
      let g := s.grid d.raised.grid
      let s := s.setGrid d.raised.grid { g with prio := BitVec.ofNat 8 (d.out 3 g.prio.toNat) }
      let s := s.pendAgain d.raised.grid
      { s with saved := nput s.saved slot { nget Saved.reset s.saved slot with dormant := false } }.raisePicks
/-- MIGRATE: the move of R114 and R115 begins where its conditions hold; reservations in the frame are lost. -/
def State.actMigrate (s : State) (d : Decision) : State :=
  let f := d.raised.frame
  let h := d.out 5 4
  let x := s.frame f
  if 4 ≤ h ∨ s.homeDie (f * 65536) = h ∨ x.moving.isSome ∨ s.pinned f = true ∨
      4 ≤ (s.frames.filter (fun y => y.2.moving == some h)).length then s
  else
    let keep (g : Group) : Group := { g with resv := g.resv.filter (fun r => r.2.tm || r.2.granule / 1024 != f) }
    let s : State := { s with groups := s.groups.map (fun g => (g.1, keep g.2)) }
    s.setFrame f { x with moving := some h }
/-- The dispatcher acts on the registers of a decision that has ended (R351); none when it must wait. -/
def State.act (s : State) (k : Nat) (d : Decision) : Option State :=
  match d.raised.point with
  | .enq => some (s.actEnq d)
  | .pick => some (s.actPick k d)
  | .tick => some (s.actTick k d)
  | .block => s.actBlock d
  | .wake => some (s.actWake d)
  | .migrate => some (s.actMigrate d)
  | .hypPick => some (s.actHypPick d)
  | .hypTick => s.actHypTick d
/-- An engine is at a decision boundary: no load waits for it any longer (R360). -/
def State.boundary (s : State) (k : Nat) : State :=
  { s with jobs := s.jobs.map (fun j => if rawField j.2.raw 0 1 = 5 then (j.1, { j.2 with engines := j.2.engines.filter (· != k) }) else j) }
/-- The engine's decision has no word left: the dispatcher acts on it and the engine is idle (R351). -/
def State.endDecision (s : State) (k : Nat) (d : Decision) : State :=
  let s1 := (s.setEngine k { s.engine k with run := none }).boundary k
  (s1.act k d).getD (s.evictions d)

/-! ## The verifier -/

/-- Operation of a Muovo word. -/
def muovoOp (w : Word) : Nat := w.toNat / 2 ^ 26
/-- Rule 1 of R358: the operation is assigned and every field that its form marks 0 is 0. -/
def muovoForm (w : Word) : Bool :=
  let x := w.toNat
  let d := x / 2 ^ 22 % 16
  let a := x / 2 ^ 18 % 16
  let i := x % 2 ^ 18
  match muovoOp w with
  | 0 => d == 0 && a == 0 && i == 0
  | 1 => a == 0
  | 2 => i == 0
  | 17 => true
  | 18 => a == 0
  | 19 => true
  | 20 => true
  | 21 => i / 2 ^ 8 == 0
  | 22 => d == 0
  | 23 => d == 0
  | 24 => d == 0
  | 25 => d == 0 && a == 0
  | 26 => d == 0 && a == 0 && i / 2 ^ 16 == 0
  | 27 => d == 0 && a == 0 && i == 0
  | n => decide (3 ≤ n ∧ n ≤ 16) && x % 2 ^ 14 == 0
/-- The loops of an image: word index, body length, count. -/
def imageLoops (ws : List Word) : List (Nat × Nat × Nat) :=
  ws.zipIdx.filterMap (fun x =>
    if muovoOp x.1 = 26 then some (x.2, x.1.toNat / 2 ^ 8 % 256 + 1, x.1.toNat % 256) else none)
/-- Word `i` lies in a loop's body. -/
def inBody (l : Nat × Nat × Nat) (i : Nat) : Bool := decide (l.1 < i ∧ i ≤ l.1 + l.2.1)
/-- Rules 2 to 6 for the word at `i`. -/
def flowOk (ws : List Word) (i : Nat) (w : Word) : Bool :=
  let n := ws.length
  let ls := imageLoops ws
  let op := muovoOp w
  if 23 ≤ op ∧ op ≤ 25 then
    let t := i + 1 + w.toNat % 2 ^ 18
    decide (t ≤ n) && ls.all (fun l => !inBody l t || inBody l i)
  else if op = 26 then
    let len := w.toNat / 2 ^ 8 % 256 + 1
    let outer := ls.filter (fun l => inBody l i)
    decide (i + len ≤ n - 1) && outer.all (fun l => decide (i + len ≤ l.1 + l.2.1)) &&
      (outer.isEmpty || !ls.any (fun l => decide (i < l.1 ∧ l.1 ≤ i + len)))
  else true
/-- A decision field, or a candidate field of the point (R348). -/
def fieldOk (p : Point) (f : Nat) : Bool := decide (f < 4 ∨ (0x10 ≤ f ∧ f < 0x10 + p.fields))
/-- Rules 7 to 10 for a word. -/
def accessOk (p : Point) (w : Word) : Bool :=
  let i := w.toNat % 2 ^ 18
  match muovoOp w with
  | 18 => counterOk p.hyp i
  | 19 => decide (i % 2 ^ 17 % 8 = 0 ∧ i % 2 ^ 17 < (if i < 2 ^ 17 then 256 else 1024))
  | 20 => decide (i % 2 ^ 17 % 8 = 0 ∧ i % 2 ^ 17 < (if i < 2 ^ 17 then 256 else 1024))
  | 21 => fieldOk p (i % 256)
  | 22 => p.mayWrite.contains i
  | _ => true
/-- The first word that R358 refuses. -/
def firstBad (p : Point) (ws : List Word) : Option Nat :=
  (ws.zipIdx.find? (fun x => !(muovoForm x.1 && flowOk ws x.2 x.1 && accessOk p x.1))).map (·.2)
/-- The largest cost of a word (R356). -/
def maxCost (w : Word) : Nat :=
  match muovoOp w with
  | 5 => 3
  | 18 => 6
  | 19 => if w.toNat % 2 ^ 18 < 2 ^ 17 then 2 else 40
  | 20 => if w.toNat % 2 ^ 18 < 2 ^ 17 then 2 else 40
  | 21 => if w.toNat % 256 < 0x10 then 2 else 6
  | 23 => 2
  | 24 => 2
  | 25 => 2
  | _ => 1
/-- Product of the counts of the loops around a word. -/
def weight (ws : List Word) (i : Nat) : Nat := ((imageLoops ws).filter (fun l => inBody l i)).foldl (fun m l => m * l.2.2) 1
/-- The static bound (R359); a loop of count 0 takes one return off. -/
def staticBound (ws : List Word) : Int :=
  ((ws.zipIdx.map (fun x => maxCost x.1 * weight ws x.2)).sum : Nat) +
    ((imageLoops ws).map (fun l => ((l.2.2 : Int) - 1) * (weight ws l.1 : Nat))).sum
/-- The lowest place of the compute dies' Atrium that no routine of another tenant slot holds (R353). -/
def State.freePlace (s : State) (slot : Nat) : Nat :=
  ((List.range 193).find? (fun p => !s.slots.any (fun r => r.1 != slot && !r.2.retired && r.2.place == some p))).getD 0
/-- The image of a routine in the Atrium of every compute die (R353): 1 KiB from its place. -/
def State.placeImage (s : State) (p : Option Nat) (ws : List Word) : State :=
  match p with
  | none => s
  | some p =>
    (List.range 4).foldl (fun s d =>
      ws.zipIdx.foldl (fun (s : State) w => s.atriumWrite (d * 0x40000 + p * 0x400 + 4 * w.2) 4 w.1.toNat) s) s
/-- Tenant slots that are filled (R345). -/
def State.filledSlots (s : State) : Nat := (s.slots.filter (fun r => decide (r.1 < 512) && !r.2.retired)).length

end Sys2Proof.Machine
end

