-- ==== Sys2Proof/Machine/Rings.lean ====
section
/-! DEFINITION. What the device writes to the host on its own: interrupts (R339), completion records on the event rings (R322, R334,
R336) and fault records on the fault queues (R337, R379). -/

namespace Sys2Proof.Machine

/-! ## Functions and their registers -/

/-- A function exists: PF0, or an enabled VF (R320); none but PF0 under mezzanine service (R43) and where the boot has failed (R402). -/
def State.fnExists (s : State) (fn : Nat) : Bool :=
  let v := (s.reg 0 0x2000).toNat
  fn == 0 || (s.mezz.isNone && s.boot.stage != 15 && v.testBit 6 && decide (fn ≤ v % 64))
/-- Offset of a register of an event ring (R321). -/
def ringReg (ring off : Nat) : Nat := 0x100 + 0x20 * ring + off
/-- A 32-bit counting register grows. -/
def State.bump (s : State) (fn off : Nat) : State := s.setReg fn off (BitVec.ofNat 64 (((s.reg fn off).toNat + 1) % 2 ^ 32))
/-- FDROP counts a dropped write, saturating (R321). -/
def State.dropped (s : State) (fn : Nat) : State :=
  let n := (s.reg fn 0x10).toNat
  s.setReg fn 0x10 (BitVec.ofNat 64 (if n < 0xFFFFFFFF then n + 1 else n))
/-- log2 of the entries of a ring whose SZ field is `sz`, for SZ 0 standing for 2^b (R321). -/
def sizeLog (sz b : Nat) : Nat := min sz 9 + b
/-- Entries between HEAD and TAIL (R322). -/
def fill (head tail : Nat) : Nat := (head + 2 ^ 32 - tail % 2 ^ 32) % 2 ^ 32
/-- log2 of the records of an event ring. -/
def State.ringLog (s : State) (fn ring : Nat) : Nat := sizeLog ((s.reg fn (ringReg ring 8)).toNat % 16) 7
/-- An event ring is full (R322). -/
def State.ringFull (s : State) (fn ring : Nat) : Bool :=
  fill (s.reg fn (ringReg ring 0x10)).toNat (s.reg fn (ringReg ring 0x14)).toNat == 2 ^ s.ringLog fn ring

/-! ## Interrupts -/

/-- The MSI-X entry of a vector; its mask bit is set until software clears it. -/
def State.msixEntry (s : State) (fn vec : Nat) : BitVec 128 := nget (1#128 <<< 96) s.msix (fn * 2048 + vec)
/-- A vector fires, or becomes pending while it is masked (R339). -/
def State.fire (s : State) (fn vec : Nat) : State :=
  if (s.msixEntry fn vec).getLsbD 96 then { s with pba := nput s.pba (fn * 2048 + vec) true }
  else { s with interrupts := s.interrupts ++ [(fn, vec)] }
/-- An interrupt of a function through a remapping entry; IRBLK counts a blocked one (R339). -/
def State.interrupt (s : State) (fn irte : Nat) : State :=
  let e := (nget 0 s.irTab irte).toNat
  if e % 2 = 1 ∧ e / 2 ^ 18 = 0 ∧ e / 2 % 64 = fn then s.fire fn (e / 2 ^ 7 % 2 ^ 11) else s.bump 0 0x2050
/-- MSIX_VECTOR_UNMASK (R320, R339): software has written part or all of a vector's table entry, which then holds `x`; a pending
interrupt of an unmasked vector fires. A failed boot has no BAR4 (R402). -/
def execMsixVectorUnmask (fn vec : Nat) (x : BitVec 128) (s : State) : Out :=
  if !s.fnExists fn || decide (2048 ≤ vec) || s.boot.stage == 15 then .next s
  else
    let k := fn * 2048 + vec
    let s := { s with msix := nput s.msix k x }
    if !x.getLsbD 96 && nget false s.pba k then .next ({ s with pba := ndel s.pba k }.fire fn vec) else .next s

/-- The 32-bit word that a read of BAR4 returns: the MSI-X table, its pending bits from 0x8000 on, and 0 elsewhere (R320). -/
def State.bar4Word (s : State) (fn off : Nat) : Nat :=
  if !s.fnExists fn || s.boot.stage == 15 then 0
  else if off < 0x8000 then (s.msixEntry fn (off / 16)).toNat / 2 ^ (8 * (off % 16)) % 2 ^ 32
  else if off < 0x8100 then
    ((List.range 32).map (fun i => (nget false s.pba (fn * 2048 + (off - 0x8000) * 8 + i)).toNat * 2 ^ i)).sum
  else 0

/-! ## Writes at function addresses -/

/-- A 32-byte record written at a function address (R335). -/
inductive RecordWrite where
  /-- Written. -/
  | done (s : State)
  /-- It faults: lost. -/
  | lost
  /-- The home cannot serve it now. -/
  | wait (s : State)
/-- PA of a function address that may be written (R335). -/
def State.fnTarget (s : State) (fn a : Nat) : Option Nat :=
  let ok := match s.stage2 fn with
    | none => true
    | some root => match s.leaf2 fn root a with
      | .ok (e, _) => e.testBit 2
      | .error _ => false
  match s.ia2pa fn a with
  | .error _ => none
  | .ok pa => if ok && (isHost pa || isHbm pa) && !s.poisoned pa then some pa else none
/-- The write at its home (R115, R127, R128, R319), for a sender. -/
def State.writeRecord (s : State) (k : Sender) (fn a x : Nat) : RecordWrite :=
  match s.fnTarget fn a with
  | none => .lost
  | some pa =>
    match s.writeAtHome (s.senderAgent k) (s.iaLines fn a) pa 32 with
    | .wait s => .wait s
    | .ok s => .done (s.pwrite pa 32 x false none)
/-- A lost write sets FQCTL.OVF of the function. -/
def State.overflow (s : State) (fn : Nat) : State := s.setReg fn 0x28 (s.reg fn 0x28 ||| 0x80000000)

/-! ## Event rings -/

/-- The 32 bytes of a completion record (R334). -/
def CompRec.bytes (r : CompRec) (ph : Nat) : Nat :=
  r.time % 2 ^ 64 + r.seq % 2 ^ 32 * 2 ^ 64 + r.aqi % 2 ^ 16 * 2 ^ 96 + r.type % 256 * 2 ^ 112 + r.status % 256 * 2 ^ 120 +
    r.evtag % 2 ^ 32 * 2 ^ 128 + r.cause % 2 ^ 16 * 2 ^ 160 + r.nflt % 2 ^ 16 * 2 ^ 176 + r.detail % 2 ^ 32 * 2 ^ 192 +
    ph * 2 ^ 248
/-- The ring raises its interrupt, and ERPEND counts afresh (R336). -/
def State.ringRaise (s : State) (fn ring : Nat) : State :=
  (s.setReg fn (ringReg ring 0x18) 0).interrupt fn ((s.reg fn (ringReg ring 0xC)).toNat % 2 ^ 11)
/-- After a record has been written: HEAD, ERPEND and the triggers (R334, R336). -/
def State.ringAdvance (s : State) (fn ring : Nat) (irq : Bool) : State :=
  let first := s.reg fn (ringReg ring 0x18) == 0
  let s := (s.bump fn (ringReg ring 0x10)).bump fn (ringReg ring 0x18)
  let s := if first then { s with ringSince := nput s.ringSince (fn * 16 + ring) s.time } else s
  let cnt := (s.reg fn (ringReg ring 8)).toNat / 2 ^ 8 % 256
  let due := irq || (cnt != 0 && decide (cnt ≤ (s.reg fn (ringReg ring 0x18)).toNat))
  if (s.reg fn (ringReg ring 0xC)).getLsbD 31 && due then s.ringRaise fn ring else s
/-- The oldest waiting record of a ring is written; while the function is reset, one that finds its ring full is discarded (R343). -/
def State.recordStep (s : State) (fn ring : Nat) : State :=
  let k := fn * 16 + ring
  match nget [] s.ringWait k with
  | [] => s
  | r :: rest =>
    if s.ringFull fn ring then (if s.resetting.contains fn then { s with ringWait := nput s.ringWait k rest } else s)
    else
      let head := (s.reg fn (ringReg ring 0x10)).toNat
      let m := s.ringLog fn ring
      let base := (s.reg fn (ringReg ring 0)).toNat / 4096 * 4096
      match s.writeRecord (.ring k) fn (base + 32 * (head % 2 ^ m)) (r.bytes (1 - head / 2 ^ m % 2)) with
      | .wait s => s
      | .lost => { s with ringWait := nput s.ringWait k rest }.overflow fn
      | .done s => { s with ringWait := nput s.ringWait k rest }.ringAdvance fn ring r.irq
/-- COMPLETION_RECORD_WRITE (R334, R336). -/
def execCompletionRecordWrite (fn ring : Nat) (s : State) : Out := .next (s.recordStep fn ring)
/-- EVENT_RING_TIME_TRIGGER (R336): CTIM µs have passed since the oldest record that ERPEND counts. -/
def execEventRingTimeTrigger (fn ring : Nat) (s : State) : Out :=
  let ctim := (s.reg fn (ringReg ring 8)).toNat / 2 ^ 16 % 2 ^ 12
  if (s.reg fn (ringReg ring 0xC)).getLsbD 31 && ctim != 0 && s.reg fn (ringReg ring 0x18) != 0 &&
      decide (nget 0 s.ringSince (fn * 16 + ring) + ctim * 1000 ≤ s.time) then .next (s.ringRaise fn ring)
  else .next s

/-! ## Fault queues -/

/-- The fault queue of a record (R338, R379): a class 1 fault found at stage 2 goes to PF0. -/
def FaultRec.queue (r : FaultRec) : Nat := if r.s2 && r.cause / 64 == 1 then 0 else r.fn
/-- One record reaches its fault queue: discarded while FQEN = 0, and those of a grid whose function was reset (R343); lost when the
queue is full (R321, R337, R379). False while the home cannot serve it. -/
def State.faultStep (s : State) (r : FaultRec) : State × Bool :=
  let fn := r.queue
  let ctl := (s.reg fn 0x28).toNat
  if !(s.reg fn 8).getLsbD 1 || (s.grid r.grid).mute then (s, true)
  else
    let head := (s.reg fn 0x30).toNat
    let m := sizeLog (ctl % 16) 6
    if fill head (s.reg fn 0x34).toNat = 2 ^ m then (s.overflow fn, true)
    else match s.writeRecord (.fault fn) fn ((s.reg fn 0x20).toNat / 4096 * 4096 + 32 * (head % 2 ^ m)) (recordWords r) with
      | .wait s => (s, false)
      | .lost => (s.overflow fn, true)
      | .done s =>
        let s := (s.bump fn 0x30).countRecord r
        (if ctl.testBit 15 then s.interrupt fn (ctl / 2 ^ 4 % 2 ^ 11) else s, true)
/-- The raised records are written in order, up to the first that must wait (R379). -/
def State.drainRecs (s : State) : List FaultRec → State
  | [] => { s with recs := [] }
  | r :: rest =>
    let x := s.faultStep r
    if x.2 then x.1.drainRecs rest else { x.1 with recs := r :: rest }
/-- Fault records raised by a step leave for their queues. -/
def State.drain (s : State) : State := s.drainRecs s.recs
/-- A record raised now is written: neither discarded nor lost (R334, R337, R379). One whose home makes it wait counts as written. -/
def State.written (s : State) (r : FaultRec) : Bool :=
  let z := s.drain
  let x := z.faultStep r
  !x.2 || x.1.reg r.queue 0x30 != z.reg r.queue 0x30
/-- Records raised one after the other; those of them that are written. -/
def State.raiseAll (s : State) : List FaultRec → State × List FaultRec
  | [] => (s, [])
  | r :: rest =>
    let x := (s.raise r).raiseAll rest
    (x.1, if s.written r then r :: x.2 else x.2)

/-! ## A grid retires -/

/-- The completion object of a retiring grid is updated (R29), or a record with 0x111 says that it cannot be; an error while its
home cannot serve it. -/
def State.doneUpdate (s : State) (id : BitVec 32) : Except State (State × List FaultRec) :=
  let g := s.grid id
  if g.doneva = 0 then .ok (s, [])
  else match s.ioObject (s.gridAgent id) g.doneva 5 with
    | .wait s1 => .error s1
    | .ok pa s1 => .ok (s1.objectUpdate pa 1 0 g.fault none, [])
    | .bad _ s2 =>
      .ok (s, [{ FaultRec.reset with
        va := g.doneva, kind := 5, s2 := s2, sz := 4, grid := id, group := 32, cause := 0x111, fn := g.fn, pasid := g.pasid
        tstamp := BitVec.ofNat 22 (s.time / 1024) }])
/-- GRID_RETIRE (R27, R29, R334, R381): it waits until the grid's records are written, discarded or lost. The record of a grid that a
reset has cancelled is discarded (R343). -/
def execGridRetire (grid : BitVec 32) (s : State) : Out :=
  let g := s.grid grid
  if !g.present || !s.teamsOver grid || !(s.childrenOf [grid]).isEmpty || s.recs.any (fun r => r.grid == grid) then .next s
  else match s.doneUpdate grid with
    | .error s1 => .next s1
    | .ok (s, rs) =>
      let x := s.raiseAll (if g.mute then [] else rs)
      let s := { x.1 with grids := ndel x.1.grids grid.toNat }
      let s := match g.job with
        | some n => s.completeJob n (if g.fault then 0x01 else 0x00) (g.firstCause.or (x.2.map FaultRec.cause).head?) g.evtag.toNat
            (g.nflt + x.2.length) 0
        | none => s
      .next (s.wakeParent g.parent)

end Sys2Proof.Machine
end

