-- ==== Sys2Proof/Machine/Packets.lean ====
section
/-! DEFINITION. Notify pages and request packets (R326-R334): their queues, the checks of R333, and the meaning of each type. -/

namespace Sys2Proof.Machine

/-! ## Queues -/

/-- An AQI. -/
def State.aqi (s : State) (q : Nat) : Aqi := nget Aqi.reset s.aqis q
/-- A LOAD-AQI of the AQI is in progress (R325). -/
def State.loading (s : State) (q : Nat) : Bool := s.cfg.any (fun c => c.op == 1 && c.arg == q)
/-- QSTAT: the free places of an AQI's packet queue (R326, R327). -/
def State.qstat (s : State) (q : Nat) : Nat := 64 - (s.aqi q).queue.length
/-- The 32-bit word that a read of BAR2 returns: QSTAT at 0xF00 of the page of an AQI of the function, and 0 elsewhere (R320, R326). -/
def State.notifyWord (s : State) (fn off : Nat) : Nat :=
  let e := (s.aqi (off / 4096)).entry
  if s.fnExists fn && e.v && e.fn == fn && off % 4096 == 0xF00 && s.boot.stage != 15 then s.qstat (off / 4096) else 0
/-- NOTIFY_WRITE (R326, R327): a 64-byte write to a slot joins the AQI's queue, or is dropped and counted; one that follows the latch
of a reset is dropped without a count (R343). -/
def execNotifyWrite (fn off size : Nat) (data : BitVec 512) (s : State) : Out :=
  if !s.fnExists fn || s.resetting.contains fn then .next s
  else
    let q := off / 4096
    let a := s.aqi q
    if size ≠ 64 ∨ off % 64 ≠ 0 ∨ 0xF00 ≤ off % 4096 ∨ 4096 ≤ q ∨ a.entry.v = false ∨ a.entry.fn ≠ fn ∨ s.loading q = true ∨
        (s.reg fn 8).getLsbD 0 = false ∨ s.boot.stage ≠ 7 ∨ 64 ≤ a.queue.length then .next (s.dropped fn)
    else .next { s with aqis := nput s.aqis q { a with queue := a.queue ++ [(s.nextJob, data)] }, nextJob := s.nextJob + 1 }

/-! ## Fields -/

/-- TYPE (R328). -/
def pkType (raw : BitVec 512) : Nat := rawField raw 0 1
/-- PASID. -/
def pkPasid (raw : BitVec 512) : BitVec 20 := BitVec.ofNat 20 (rawField raw 4 4)
/-- The 8-byte field at 0x10. -/
def pkAddr (raw : BitVec 512) : Dword := BitVec.ofNat 64 (rawField raw 0x10 8)
/-- The body's bytes from an offset on are 0. -/
def restZero (raw : BitVec 512) (o : Nat) : Bool := raw.toNat >>> (8 * o) == 0
/-- A canonical address that is a multiple of 64. -/
def lineAddr (a : Nat) : Bool := canonical (BitVec.ofNat 64 a) && a % 64 == 0
/-- LEN of COPY and PUBLISH-CODE. -/
def lenOk (n : Nat) : Bool := decide (n % 64 = 0 ∧ 64 ≤ n ∧ n ≤ 2 ^ 32)
/-- The body of a packet is within the limits of R329. -/
def bodyOk (raw : BitVec 512) : Bool :=
  let f := rawField raw
  match pkType raw with
  | 1 => lineAddr (f 0x10 8) && restZero raw 0x18
  | 2 => lineAddr (f 0x10 8) && lineAddr (f 0x18 8) && lenOk (f 0x20 8) && f 0x28 8 % 16 == 0 && restZero raw 0x30
  | 3 => f 0x10 8 != 0 && f 0x10 8 % 16 == 0 && restZero raw 0x1C
  | 4 => f 0x10 8 != 0 && f 0x10 8 % 16 == 0 && restZero raw 0x1A
  | 5 => f 0x10 8 % 4 == 0 && decide (1 ≤ f 0x18 2 ∧ f 0x18 2 ≤ 256 ∧ f 0x1A 1 ≤ 5 ∧ f 0x1B 1 ≤ 1 ∧ 64 ≤ f 0x1C 2 ∧ f 0x1C 2 ≤ 4096) &&
      restZero raw 0x1E
  | 6 => decide (f 0x18 1 ≤ 32) && f 0x19 3 == 0 && restZero raw 0x20
  | 7 => lineAddr (f 0x10 8) && lenOk (f 0x18 8) && restZero raw 0x20
  | _ => false
/-- Check 1 of R333. -/
def packetOk (raw : BitVec 512) : Bool :=
  pkFlags raw / 8 == 0 && rawField raw 2 2 == 0 && rawField raw 4 4 / 2 ^ 20 == 0 && rawField raw 0xC 4 == 0 && bodyOk raw

/-! ## Starting a packet -/

/-- Started packets of an AQI. -/
def State.jobsOf (s : State) (q : Nat) : List (Nat × Job) := s.jobs.filter (fun j => j.2.aqi == q)
/-- The packet at the head of a queue. -/
def State.headOf (s : State) (q : Nat) : Option (Nat × BitVec 512) := (s.aqi q).queue.head?
/-- The head of a queue may start (R329, R334). -/
def State.startable (s : State) (q : Nat) (raw : BitVec 512) : Bool :=
  let e := (s.aqi q).entry
  let js := s.jobsOf q
  !(js.any (fun j => pkType j.2.raw == 4) || ((pkFlags raw).testBit 2 && !js.isEmpty) || s.ringFull e.fn e.er)
/-- The head leaves its queue. -/
def State.popHead (s : State) (q : Nat) : State :=
  { s with aqis := nput s.aqis q { s.aqi q with queue := (s.aqi q).queue.drop 1, accepted := none } }
/-- The head has passed its checks: nothing refuses it any more (R333, R342). -/
def State.acceptHead (s : State) (q : Nat) (h : HeadState) : State :=
  { s with aqis := nput s.aqis q { s.aqi q with accepted := some h } }
/-- The head completes at once. -/
def State.finishHead (s : State) (q : Nat) (raw : BitVec 512) (status : Nat) (cause : Option Nat) (evtag nflt detail : Nat) : State :=
  (s.popHead q).complete q (s.aqi q).entry raw status cause evtag nflt detail
/-- The head completes with 0x01 on a fault of its object; the record counts if it is written (R334). -/
def State.faultHead (s : State) (q : Nat) (raw : BitVec 512) (r : FaultRec) : State :=
  (s.finishHead q raw 1 (if s.written r then some r.cause else none) 0 (if s.written r then 1 else 0) 0).raise r
/-- The head starts and goes on. -/
def State.startJob (s : State) (q n : Nat) (raw : BitVec 512) : State :=
  { s.popHead q with jobs := nput s.jobs n { Job.reset with aqi := q, entry := (s.aqi q).entry, raw := raw } }
/-- An INV-PASID of a context is in progress (R342). -/
def State.invalidating (s : State) (fn : Nat) (pasid : BitVec 20) : Bool :=
  let hit (c : Command) : Bool := c.op == 2 && c.fn == fn && c.arg == pasid.toNat
  s.cfg.any hit || s.finv.any (fun c => hit c.2)
/-- Check 2 of R333. -/
def State.pasidOk (s : State) (e : AqiEntry) (p : BitVec 20) : Bool :=
  (p == e.pasid || (e.anyp && e.fn == 0)) && !s.invalidating e.fn p &&
    (match s.pasidRoot e.fn p with | .ok _ => true | .error _ => false)
/-- Check 3 of R333. -/
def State.mayAsk (s : State) (e : AqiEntry) (raw : BitVec 512) : Bool :=
  match pkType raw with
  | 5 => rawField raw 0x1B 1 == 0 || (e.hyp && e.fn == 0)
  | 6 => let g := s.grid (BitVec.ofNat 32 (rawField raw 0x10 4)); !g.present || g.fn == e.fn
  | _ => true
/-- The status with which checks 1 to 3 of R333 refuse a packet. -/
def State.refusal (s : State) (e : AqiEntry) (raw : BitVec 512) : Option Nat :=
  if !packetOk raw then some 2
  else if !s.pasidOk e (pkPasid raw) then some 3
  else if !s.mayAsk e raw then some 7
  else none
/-- The head of a queue, of a type, that check 1 of R333 passes. -/
def State.head (s : State) (q type : Nat) : Option (Nat × BitVec 512) :=
  (s.headOf q).filter (fun p => pkType p.2 == type && packetOk p.2)
/-- What a packet's own checks give, with the machine after their reads: what it is refused or accepted with, or nothing while a read
waits. -/
abbrev Judged := Option (Except (Nat × Option Nat × Nat × Nat) HeadState) × State
/-- THE HEAD OF A QUEUE IS JUDGED (R333): once, when it reaches the head. What is left of its checks is `check`, which gives a status
with its CAUSE, EVTAG and DETAIL, what it is accepted with, or nothing while a read waits, with the places it has taken. An accepted
packet goes on with `start` as soon as it may (R329, R334). -/
def State.judge (s : State) (q type : Nat) (check : Nat → BitVec 512 → State → Judged)
    (start : Nat → BitVec 512 → HeadState → State → State) : Out :=
  match s.head q type with
  | none => .next s
  | some (n, raw) =>
    let go (h : HeadState) (s : State) : Out := .next (if s.startable q raw then start n raw h s else s)
    match (s.aqi q).accepted with
    | some h => go h s
    | none =>
      match s.refusal (s.aqi q).entry raw with
      | some st => .next (s.finishHead q raw st none 0 0 0)
      | none =>
        let x := check n raw s
        match x.1 with
        | none => .next x.2
        | some (.error (st, cause, evtag, detail)) => .next (x.2.finishHead q raw st cause evtag 0 detail)
        | some (.ok h) => go h (x.2.acceptHead q h)
/-- A packet whose checks are checks 1 to 3. -/
def plainCheck (_ : Nat) (_ : BitVec 512) (s : State) : Judged := (some (.ok .plain), s)
/-- BADPKT (R333): the head of a queue fails check 1. -/
def execBadpkt (q : Nat) (s : State) : Out :=
  match s.headOf q with
  | none => .next s
  | some (_, raw) => if packetOk raw then .next s else .next (s.finishHead q raw 2 none 0 0 0)

/-! ## LAUNCH -/

/-- The agent of an AQI's packet work: it acts for no team (R330). -/
def queueAgent (q : Nat) (e : AqiEntry) (raw : BitVec 512) (k : Sender) : Agent := ioAgent e.fn (pkPasid raw) e.tenant q k
/-- EVTAG of the LPB at an address; 0 when it cannot be read. -/
def State.evtagAt (s : State) (ag : Agent) (va : Dword) : Nat :=
  match (s.dispRead ag va 64 6).1 with
  | .ok x => byteField x 0x34 4
  | _ => 0
/-- Check 4 on a LAUNCH (R33-R36). -/
def State.launchCheck (q n : Nat) (raw : BitVec 512) (s : State) : Judged :=
  let ag := queueAgent q (s.aqi q).entry raw (.head n)
  let x := s.accept ag (pkAddr raw)
  (match x.1 with
    | .wait => none
    | .refused _ read => some (.error (4, read, s.evtagAt ag (pkAddr raw), 0))
    | .ok g => some (.ok (.grid g)), x.2)
/-- An accepted LAUNCH starts: its grid is live. -/
def State.startLaunch (q n : Nat) (raw : BitVec 512) (h : HeadState) (s : State) : State :=
  match h with
  | .grid g =>
    let e := (s.aqi q).entry
    let s := s.startJob q n raw
    let x := s.addGrid { g with queue := q, tenant := e.tenant, fn := e.fn, pasid := pkPasid raw, depth := 0, job := some n }
    { x.2 with jobs := nput x.2.jobs n { nget Job.reset x.2.jobs n with grid := some x.1 } }
  | _ => s
/-- LAUNCH_PACKET (R329, R333). -/
def execLaunchPacket (q : Nat) (s : State) : Out := s.judge q 1 (State.launchCheck q) (State.startLaunch q)

/-! ## SIGNAL and WAIT -/

/-- A record of queue packet work (R378). -/
def queueRec (s : State) (q : Nat) (e : AqiEntry) (pasid : BitVec 20) (cause : Nat) (va : Dword) (kind sz : Nat) (s2 : Bool) : FaultRec :=
  { FaultRec.reset with
    va := va, kind := kind, s2 := s2, sz := sz, grid := 0xFFFFFFFF, team := q, group := 32, cause := cause, fn := e.fn, pasid := pasid
    tstamp := BitVec.ofNat 22 (s.time / 1024) }
/-- A SIGNAL starts. -/
def State.startSignal (q n : Nat) (raw : BitVec 512) (s : State) : State :=
  let e := (s.aqi q).entry
  let ag := queueAgent q e raw (.head n)
  match s.ioObject ag (pkAddr raw) 5 with
  | .wait s1 => s1
  | .bad c s2 => s.faultHead q raw (queueRec s q e ag.pasid c (pkAddr raw) 5 4 s2)
  | .ok pa s1 => (s1.arriveAt pa (rawField raw 0x18 4) none).finishHead q raw 0 none 0 0 0
/-- SIGNAL_PACKET (R329). -/
def execSignalPacket (q : Nat) (s : State) : Out := s.judge q 3 plainCheck (fun n raw _ s => s.startSignal q n raw)
/-- A WAIT starts; its object is reachable. -/
def State.startWait (q n : Nat) (raw : BitVec 512) (s : State) : State :=
  let e := (s.aqi q).entry
  let ag := queueAgent q e raw (.head n)
  match s.ioObject ag (pkAddr raw) 4 with
  | .wait s1 => s1
  | .bad c s2 => s.faultHead q raw (queueRec s q e ag.pasid c (pkAddr raw) 4 4 s2)
  | .ok _ s1 => s1.startJob q n raw
/-- WAIT_PACKET (R329). -/
def execWaitPacket (q : Nat) (s : State) : Out := s.judge q 4 plainCheck (fun n raw _ s => s.startWait q n raw)
/-- A started packet completes with its fault records; those that are written count (R334). -/
def State.faultedJob (s : State) (n : Nat) (rs : List FaultRec) (status detail : Nat) : State :=
  let x := s.raiseAll rs
  x.1.completeJob n status (x.2.map FaultRec.cause).head? 0 x.2.length detail
/-- WAIT_CONDITION_MET (R329): the generation is reached, or the wait ends on a STATUS or on a fault of its object. -/
def execWaitConditionMet (n : Nat) (s : State) : Out :=
  let j := nget Job.reset s.jobs n
  if pkType j.raw ≠ 4 then .next s
  else
    let ag := queueAgent j.aqi j.entry j.raw (.job n)
    match s.ioObject ag (pkAddr j.raw) 4 with
    | .wait s1 => .next s1
    | .bad c s2 =>
      .next (s.faultedJob n [queueRec s j.aqi j.entry ag.pasid c (pkAddr j.raw) 4 4 s2] 1 0)
    | .ok pa s =>
      let w := s.pread (pa + 8) 4
      if awaitMet w (rawField j.raw 0x18 2) then .next (s.completeJob n (if w / 2 ^ 24 = 0 then 0 else 1) none 0 0 0) else .next s

/-! ## COPY -/

/-- A job changed. -/
def State.setJob (s : State) (n : Nat) (j : Job) : State := { s with jobs := nput s.jobs n j }
/-- A fault stops a job's work. -/
def State.faultJob (s : State) (n : Nat) (j : Job) (cause : Nat) (va : Dword) (kind : Nat) (s2 : Bool) : State :=
  s.setJob n { j with fault := some (queueRec s j.aqi j.entry (pkPasid j.raw) cause va kind 6 s2) }
/-- Lines of a COPY. -/
def copyLines (raw : BitVec 512) : Nat := rawField raw 0x20 8 / 64
/-- A COPY has more lines to deliver. -/
def Job.copying (j : Job) : Bool := pkType j.raw == 2 && j.fault.isNone && !j.killed && decide (j.pos < copyLines j.raw)
/-- A line written by the queue copy engine at its home (R119, R127); charged to no cluster (R330) and to no die (R114). -/
def State.queueWrite (s : State) (ag : Agent) (va : Dword) (x : Xlat) (v : Nat) : State :=
  (((s.fillTlb ag.fn ag.pasid va).useSnoop x.pa).clearPoison x.pa 64).pwrite x.pa 64 v false none
/-- The next line of a COPY. -/
def State.copyLine (s : State) (n : Nat) (j : Job) : State :=
  let ag := queueAgent j.aqi j.entry j.raw (.job n)
  let o := BitVec.ofNat 64 (64 * j.pos)
  let src := pkAddr j.raw + o
  let dst := BitVec.ofNat 64 (rawField j.raw 0x18 8) + o
  match s.engLine ag src 64 false false with
  | .wait s1 => s1
  | .fault c va kd s2 s1 => (s1.leave ag.who).faultJob n j c va kd s2
  | .ok x s1 =>
    match (s1.fillTlb ag.fn ag.pasid src).engLine ag dst 64 true false with
    | .wait s1 => s1
    | .fault c va kd s2 s1 => (s1.leave ag.who).faultJob n j c va kd s2
    | .ok y s2 => ((s2.leave ag.who).queueWrite ag dst y (s2.pread x.pa 64)).setJob n { j with pos := j.pos + 1 }
/-- COPY_PACKET (R330): packet `n` starts, or delivers its next line. -/
def execCopyPacket (q n : Nat) (s : State) : Out :=
  let j := nget Job.reset s.jobs n
  if j.copying then .next (s.copyLine n j)
  else s.judge q 2 plainCheck (fun m raw _ s => if m = n then s.startJob q n raw else s)
/-- QUEUE_COPY_COMPLETE (R288, R330): a COPY with no line left updates its object, and its packet completes. -/
def execQueueCopyComplete (n : Nat) (s : State) : Out :=
  let j := nget Job.reset s.jobs n
  if pkType j.raw ≠ 2 ∨ j.copying = true then .next s
  else
    let ag := queueAgent j.aqi j.entry j.raw (.job n)
    let va := BitVec.ofNat 64 (rawField j.raw 0x28 8)
    let d := 64 * j.pos
    let stopped := j.fault.isSome || j.killed
    let recs (extra : List FaultRec) : List FaultRec := j.fault.toList ++ extra
    let fin (s : State) (rs : List FaultRec) : State := (s.tally ag.tenant 3 d).faultedJob n rs (if stopped then 1 else 0) d
    if va = 0 then .next (fin s (recs []))
    else match s.ioObject ag va 5 with
      | .wait s1 => .next s1
      | .bad _ s2 => .next (fin s (recs [queueRec s j.aqi j.entry ag.pasid 0x111 va 5 4 s2]))
      | .ok pa s1 => .next (fin (s1.objectUpdate pa d 0 stopped none) (recs []))

/-! ## PUBLISH-CODE -/

/-- Lines of a PUBLISH-CODE. -/
def codeLines (raw : BitVec 512) : Nat := rawField raw 0x18 8 / 64
/-- It has more lines to translate. -/
def Job.publishing (j : Job) : Bool := pkType j.raw == 7 && j.fault.isNone && decide (j.pos < codeLines j.raw)
/-- Steps 1 and 2 of R331 on the next line. -/
def State.codeLine (s : State) (n : Nat) (j : Job) : State :=
  let ag := queueAgent j.aqi j.entry j.raw (.job n)
  let va := pkAddr j.raw + BitVec.ofNat 64 (64 * j.pos)
  match s.access ag.fn ag.pasid va 5 true false with
  | .error e => s.faultJob n j (class1 5 e.reason) va 5 e.s2
  | .ok x =>
    let ask : Ask := { kind := 5, n := 64, cached := false, write := true, tagged := false, noHost := false }
    if s.poisoned x.pa then s.faultJob n j (class1 5 7) va 5 false
    else if (s.escape ag x ask).isSome then s.faultJob n j 0x082 va 5 false
    else match s.atHome ag (s.withNodes ag [va] [x.pa]) with
    | .wait s => s
    | .ok s =>
      let found := !isHost x.pa && decide (tagCS (s.tagOf x.pa) ≠ 2)
      (((s.fillTlb ag.fn ag.pasid va).toTransit x.pa).tally ag.tenant 6 1).setJob n
        { j with pos := j.pos + 1, found := if found then j.found ++ [x.pa] else j.found }
/-- PUBLISH_CODE (R331): packet `n` starts, or handles its next line. -/
def execPublishCode (q n : Nat) (s : State) : Out :=
  let j := nget Job.reset s.jobs n
  if j.publishing then .next (s.codeLine n j)
  else s.judge q 7 plainCheck (fun m raw _ s => if m = n then s.startJob q n raw else s)
/-- PUBLISH_CODE_COMPLETE (R331): step 3, then step 4 line by line, then the completion. -/
def execPublishCodeComplete (n : Nat) (s : State) : Out :=
  let j := nget Job.reset s.jobs n
  if pkType j.raw ≠ 7 ∨ j.publishing = true then .next s
  else if j.pos ≤ codeLines j.raw then
    .next ((s.codeStep (List.range 160)).setJob n { j with pos := codeLines j.raw + 1 })
  else match j.found with
    | pa :: rest =>
      match s.atHome (queueAgent j.aqi j.entry j.raw (.job n)) [pa] with
      | .wait s => .next s
      | .ok s => .next ((s.toCode pa).setJob n { j with found := rest })
    | [] =>
      .next (s.faultedJob n j.fault.toList (if j.fault.isSome then 1 else 0) 0)

/-! ## POLICY-LOAD -/

/-- The point of a routine's slot; none for a hypervisor slot with DP other than 1 or 2 (R360). -/
def pointOf (dp : Nat) (hyp : Bool) : Option Point :=
  if hyp then (match dp with | 1 => some .hypPick | 2 => some .hypTick | _ => none)
  else match dp with
    | 0 => some .enq | 1 => some .pick | 2 => some .tick | 3 => some .block | 4 => some .wake | 5 => some .migrate
    | _ => none
/-- Words read at IMGVA, from the `i`-th on: all, the index of the first that faults with its cause, or a wait. -/
def State.readImage (ag : Agent) (va : Dword) : Nat → Nat → List Word → State → Option (Except (Nat × Nat) (List Word)) × State
  | 0, _, ws, s => (some (.ok ws), s)
  | k + 1, i, ws, s =>
    let r := s.dispRead ag (va + BitVec.ofNat 64 (4 * i)) 4 6
    match r.1 with
    | .wait => (none, r.2)
    | .bad c _ => (some (.error (i, c)), r.2)
    | .ok x => State.readImage ag va k (i + 1) (ws ++ [BitVec.ofNat 32 x]) r.2
/-- No slot is left for a routine of a tenant (R360). -/
def State.slotsFull (s : State) (slot : Nat) : Bool :=
  decide (slot < 512) && (nget Routine.reset s.slots slot).retired && decide (192 ≤ s.filledSlots)
/-- What the verifier refuses: DETAIL (R360). -/
def State.verify (s : State) (p : Point) (slot : Nat) (ws : List Word) : Option Nat :=
  match firstBad p ws with
  | some i => some i
  | none =>
    if 4096 < staticBound ws then some ws.length
    else if s.slotsFull slot then some 0xFFFFFFFF
    else none
/-- The routine is installed, and its packet waits for the engines that run the old one (R360). -/
def State.install (s : State) (q n : Nat) (raw : BitVec 512) (hyp : Bool) (slot : Nat) (ws : List Word) : State :=
  let e := (s.aqi q).entry
  let r : Routine :=
    { Routine.reset with
      num := s.nextRoutine, words := ws, allow := rawField raw 0x1C 2, aqi := q, seq := rawField raw 8 4
      tenant := if hyp then none else some e.tenant, retired := false, place := if hyp then none else some (s.freePlace slot) }
  let busy := (if hyp then [20] else List.range 20).filter (fun k => (s.engine k).run.isSome)
  let s := (s.startJob q n raw).placeImage r.place ws
  let s : State := { s with slots := nput s.slots slot r, nextRoutine := s.nextRoutine + 1 }
  s.setJob n { nget Job.reset s.jobs n with pos := slot + 1, engines := busy }
/-- The slot that a POLICY-LOAD names (R345). -/
def policySlot (e : AqiEntry) (raw : BitVec 512) : Nat :=
  let dp := rawField raw 0x1A 1
  if rawField raw 0x1B 1 = 1 then 512 + dp else e.tenant * 8 + dp
/-- Check 5 on a POLICY-LOAD (R360): the routine is read and verified. -/
def State.policyCheck (q n : Nat) (raw : BitVec 512) (s : State) : Judged :=
  let e := (s.aqi q).entry
  match pointOf (rawField raw 0x1A 1) (rawField raw 0x1B 1 == 1) with
  | none => (some (.error (5, none, 0, 0xFFFFFFFF)), s)
  | some p =>
    let ag := queueAgent q e raw (.head n)
    let x := State.readImage ag (pkAddr raw) (rawField raw 0x18 2) 0 [] s
    match x.1 with
    | none => (none, x.2)
    | some (.error (i, c)) => (some (.error (5, some c, 0, i)), x.2.leave ag.who)
    | some (.ok ws) =>
      (match s.verify p (policySlot e raw) ws with
        | some d => some (.error (5, none, 0, d))
        | none => some (.ok (.image ws)), x.2.leave ag.who)
/-- A verified POLICY-LOAD starts; the slots may have filled up since (R360). -/
def State.startPolicy (q n : Nat) (raw : BitVec 512) (h : HeadState) (s : State) : State :=
  match h with
  | .image ws =>
    let slot := policySlot (s.aqi q).entry raw
    if s.slotsFull slot then s.finishHead q raw 5 none 0 0 0xFFFFFFFF else s.install q n raw (rawField raw 0x1B 1 == 1) slot ws
  | _ => s
/-- POLICY_LOAD (R333, R360): the routine is read and verified, then installed or refused. -/
def execPolicyLoad (q : Nat) (s : State) : Out := s.judge q 5 (State.policyCheck q) (State.startPolicy q)
/-- POLICY_LOAD_INSTALLED (R360): every engine of the scope has switched. -/
def execPolicyLoadInstalled (n : Nat) (s : State) : Out :=
  let j := nget Job.reset s.jobs n
  if pkType j.raw = 5 ∧ j.engines = [] then .next (s.completeJob n 0 none 0 0 0) else .next s

/-! ## FAULT-REPLY -/

/-- A parked sub-group that no recorded reply names takes one: false cancels it (R332). -/
def Parked.answer (cancel : LaneMask) (p : Parked) : Parked :=
  if p.reply.isSome then p else { p with reply := some (p.mask &&& cancel == 0) }
/-- DETAIL of a reply to these sub-groups (R334). -/
def replyDetail (cancel : LaneMask) (ps : List Parked) : Nat :=
  let open_ := ps.filter (·.reply.isNone)
  let c := (open_.filter (fun p => p.mask &&& cancel != 0)).length
  (open_.length - c) % 2 ^ 16 + c % 2 ^ 16 * 2 ^ 16
/-- DETAIL of a reply to a stalled sequencer. -/
def seqDetail (cancel : LaneMask) : Nat := if cancel = 0 then 1 else 2 ^ 16
/-- The reply to a group of a resident team (R314, R332, R382, R383): none when nothing of it is parked. -/
def State.replyGroup (s : State) (tk gk : Nat) (cancel : LaneMask) : Option (State × Nat) :=
  let g := s.group gk
  if g.parked.all (·.reply.isSome) then none
  else
    let s1 := s.setGroup gk { g with parked := g.parked.map (Parked.answer cancel) }
    some (if (s.team tk).draining.isSome then s1 else s1.applyReplies gk, replyDetail cancel g.parked)
/-- The reply to the sequencer of a resident team. -/
def State.replySeq (s : State) (tk : Nat) (cancel : LaneMask) : Option (State × Nat) :=
  let core := tk / 64
  let t := s.tile core
  if !t.owned || t.tk != tk || t.run != .stalled || t.reply.isSome then none
  else
    let s1 := s.setTile core { t with reply := some (cancel == 0) }
    some (if (s.team tk).draining.isSome then s1 else s1.applySeqReply core, seqDetail cancel)
/-- The reply to a saved team: marks in its image; it ends when its cancels leave no lane live (R383). -/
def State.replySaved (s : State) (slot group : Nat) (cancel : LaneMask) : Option (State × Nat) :=
  let x := nget Saved.reset s.saved slot
  if group = 32 then
    match x.tile with
    | some t =>
      if t.run != .stalled || t.reply.isSome then none
      else some ({ s with saved := nput s.saved slot { x with tile := some { t with reply := some (cancel == 0) } } }, seqDetail cancel)
    | none => none
  else match x.groups[group]? with
    | none => none
    | some g =>
      if g.parked.all (·.reply.isSome) then none
      else
        let g' := { g with parked := g.parked.map (Parked.answer cancel) }
        let s1 : State := { s with saved := nput s.saved slot { x with groups := x.groups.set group g' } }
        some (s1.endIfDead slot, replyDetail cancel g.parked)
/-- What a reply finds and does. -/
def State.reply (s : State) (grid : BitVec 32) (team group : Nat) (cancel : LaneMask) : Option (State × Nat) :=
  match s.findTeam grid team with
  | none => none
  | some (.inr slot) => s.replySaved slot group cancel
  | some (.inl tk) =>
    if group = 32 then s.replySeq tk cancel
    else match (s.team tk).gks[group]? with
      | none => none
      | some gk => s.replyGroup tk gk cancel
/-- The reply that a FAULT-REPLY asks for. -/
def State.replyTo (s : State) (raw : BitVec 512) : Option (State × Nat) :=
  s.reply (BitVec.ofNat 32 (rawField raw 0x10 4)) (rawField raw 0x14 4) (rawField raw 0x18 1) (BitVec.ofNat 32 (rawField raw 0x1C 4))
/-- Check 6 on a FAULT-REPLY: something parked, or a stalled fetch, is named. -/
def replyCheck (_ : Nat) (raw : BitVec 512) (s : State) : Judged :=
  (if (s.replyTo raw).isNone then some (.error (8, none, 0, 0)) else some (.ok .plain), s)
/-- An accepted FAULT-REPLY takes effect; what it named may have ended since. -/
def State.startReply (q : Nat) (raw : BitVec 512) (s : State) : State :=
  match s.replyTo raw with
  | none => s.finishHead q raw 0 none 0 0 0
  | some (s, d) => s.finishHead q raw 0 none 0 0 d
/-- FAULT_REPLY (R332, R333, R382, R383). -/
def execFaultReply (q : Nat) (s : State) : Out := s.judge q 6 replyCheck (fun _ raw _ s => s.startReply q raw)

end Sys2Proof.Machine
end

