-- ==== Sys2Proof/Machine/Commands.lean ====
section
/-! DEFINITION. Configuration commands and tables (R321-R325), revocation (R342), function-level reset (R343), and the host port
with its memory and peer traffic (R318, R319, R340). -/

namespace Sys2Proof.Machine

/-! ## Configuration tables -/

/-- CFGSTS.RES set (R321). -/
def State.result (s : State) (res : Nat) : State := s.setReg 0 0x2048 (BitVec.ofNat 64 (res * 2 ^ 8))
/-- Bytes of a configuration table in device memory (R323). -/
def State.tableRead (s : State) (reg off n : Nat) : Nat :=
  let pa := (s.reg 0 reg).toNat % 2 ^ 52 / 65536 * 65536 + off
  if isHbm pa then s.pread pa n else 0
/-- An AQI entry from its 16 bytes; a non-zero reserved bit counts as V = 0 (R323). -/
def aqiOf (x : Nat) : AqiEntry :=
  { v := x % 2 = 1 && x / 2 ^ 39 == 0, fn := x / 2 % 64, anyp := x.testBit 7, hyp := x.testBit 8, tenant := x / 2 ^ 9 % 64
    er := x / 2 ^ 15 % 16, pasid := BitVec.ofNat 20 (x / 2 ^ 19) }
/-- A peer entry; a non-zero reserved bit counts as V = 0 and IV = 0. -/
def peerOf (x : Nat) : BitVec 128 := if x / 2 ^ 19 % 2 ^ 13 = 0 ∧ x / 2 ^ 59 = 0 then BitVec.ofNat 128 x else 0
/-- LOAD_AQI (R323, R325): the command is accepted, and notify writes to the page are dropped from now on. -/
def execLoadAqi (q : Nat) (s : State) : Out :=
  if s.cfg.isSome ∨ 4096 ≤ q then .next s else .next { s with cfg := some { op := 1, kill := false, fn := 0, arg := q } }
/-- LOAD_AQI_COMPLETE (R325): with no packet of the old entry left, the new entry takes effect, unless its tenant belongs to
another function. -/
def execLoadAqiComplete (s : State) : Out :=
  match s.cfg with
  | none => .next s
  | some c =>
    let q := c.arg
    if c.op ≠ 1 ∨ (s.aqi q).queue ≠ [] ∨ (s.jobsOf q).isEmpty = false then .next s
    else
      let e := aqiOf (s.tableRead 0x2008 (16 * q) 16)
      let taken := e.v && s.aqis.any (fun a => a.1 != q && a.2.entry.v && a.2.entry.tenant == e.tenant && a.2.entry.fn != e.fn)
      let s := { s with cfg := none }
      if taken then .next (s.result 2)
      else .next ({ s with aqis := nput s.aqis q { s.aqi q with entry := e } }.result 0)
/-- INV_S2 (R323): the command is accepted. -/
def execInvS2 (fn : Nat) (s : State) : Out :=
  if s.cfg.isSome ∨ 64 ≤ fn then .next s else .next { s with cfg := some { op := 3, kill := false, fn := fn, arg := 0 } }
/-- INV_S2_COMPLETE (R323): the VF entry is read again, and cached stage-2 translations of the function are dropped. -/
def execInvS2Complete (s : State) : Out :=
  match s.cfg with
  | none => .next s
  | some c =>
    if c.op ≠ 3 then .next s
    else
      let e := BitVec.ofNat 128 (s.tableRead 0x2010 (16 * c.fn) 16)
      .next ({ s with cfg := none, vfTab := nput s.vfTab c.fn e, tlb2 := s.tlb2.filter (fun t => t.fn != c.fn) }.result 0)
/-- INV_IRTE (R323). -/
def execInvIrte (i : Nat) (s : State) : Out :=
  if s.cfg.isSome ∨ 2048 ≤ i then .next s
  else .next ({ s with irTab := nput s.irTab i (BitVec.ofNat 64 (s.tableRead 0x2018 (8 * i) 8)) }.result 0)
/-- Two pools share an id. -/
def poolsMeet (a b : PoolEntry) : Bool := decide (a.first < b.first + b.count ∧ b.first < a.first + a.count)
/-- LOAD_POOL (R323): RES = 2 when the ids overlap those of another valid pool; new ids may let teams in (R131, R346). -/
def execLoadPool (i : Nat) (s : State) : Out :=
  if s.cfg.isSome ∨ 64 ≤ i then .next s
  else
    let raw := BitVec.ofNat 256 (s.tableRead 0x2020 (32 * i) 32)
    let overlap := match poolOf raw with
      | none => false
      | some p => (List.range 64).any (fun j => j != i && (s.pool j).any (fun x => poolsMeet p x))
    if overlap then .next (s.result 2) else .next ({ s with pools := nput s.pools i raw }.result 0).raisePicks
/-- LOAD_PEER (R323). -/
def execLoadPeer (i : Nat) (s : State) : Out :=
  if s.cfg.isSome ∨ 1024 ≤ i then .next s
  else .next ({ s with peerTab := nput s.peerTab i (peerOf (s.tableRead 0x2028 (16 * i) 16)) }.result 0)
/-- A command that is not assigned, or with an argument out of range (R323). -/
def cfgBad (x : Dword) : Bool :=
  let arg := x.toNat / 2 ^ 32 % 2 ^ 20
  match x.toNat % 16 with
  | 1 => decide (4096 ≤ arg)
  | 2 => false
  | 3 => false
  | 4 => decide (2048 ≤ arg)
  | 5 => decide (64 ≤ arg)
  | 6 => decide (1024 ≤ arg)
  | _ => true
/-- CFGCMD_BAD_OP (R323). -/
def execCfgcmdBadOp (x : BitVec 64) (s : State) : Out :=
  if s.cfg.isSome || !cfgBad x then .next s else .next (s.result 1)

/-! ## INV-PASID -/

/-- Live grids of a context. -/
def State.contextGrids (s : State) (fn : Nat) (pasid : BitVec 20) : List (BitVec 32) :=
  (s.grids.filter (fun g => g.2.present && g.2.fn == fn && g.2.pasid == pasid)).map (fun g => BitVec.ofNat 32 g.1)
/-- A COPY of a context. -/
def Job.copyOf (fn : Nat) (pasid : BitVec 20) (j : Job) : Bool := pkType j.raw == 2 && j.entry.fn == fn && pkPasid j.raw == pasid
/-- INV_PASID (R342): accepted; with KILL its grids are cancelled and its COPYs stop. -/
def execInvPasid (finv : Bool) (fn : Nat) (pasid : BitVec 20) (kill : Bool) (s : State) : Out :=
  let busy := if finv then s.finv.any (fun c => c.1 == fn) || !s.fnExists fn else s.cfg.isSome
  if busy then .next s
  else
    let c : Command := { op := 2, kill := kill, fn := fn, arg := pasid.toNat }
    let s : State := if finv then { s with finv := nput s.finv fn c } else { s with cfg := some c }
    if !kill then .next s
    else
      let s := s.cancelGrids 0x143 (s.contextGrids fn pasid)
      let stop (j : Nat × Job) : Nat × Job := (j.1, if j.2.copyOf fn pasid then { j.2 with killed := true } else j.2)
      let s : State := { s with jobs := s.jobs.map stop }
      .next s.raisePicks
/-- INV_PASID_COMPLETE (R342): nothing of the context is live; its cached translations are dropped. -/
def execInvPasidComplete (finv : Bool) (fn : Nat) (s : State) : Out :=
  match (if finv then (s.finv.find? (fun c => c.1 == fn)).map (·.2) else s.cfg) with
  | none => .next s
  | some c =>
    let p : BitVec 20 := BitVec.ofNat 20 c.arg
    if c.op ≠ 2 ∨ (s.contextGrids c.fn p).isEmpty = false ∨ s.jobs.any (fun j => j.2.copyOf c.fn p) = true ∨
        s.reqs.any (fun r => r.2.base.fn == c.fn && r.2.base.pasid == p) = true then .next s
    else
      let s : State := { s with tlb1 := s.tlb1.filter (fun t => !(t.fn == c.fn && t.pasid == p)) }
      if finv then .next { s with finv := ndel s.finv fn } else .next ({ s with cfg := none }.result 0)

/-! ## Ring and queue registers -/

/-- ERCTL_WRITE (R321): a write of ERBASE or ERCTL clears ERHEAD, ERTAIL and ERPEND. -/
def execErctlWrite (fn ring : Nat) (base : Bool) (x : BitVec 64) (s : State) : Out :=
  if !s.fnExists fn || decide (16 ≤ ring) then .next s
  else
    let s := if base then s.setReg fn (ringReg ring 0) x else s.setReg fn (ringReg ring 8) (x &&& 0x0FFFFF0F)
    .next (((s.setReg fn (ringReg ring 0x10) 0).setReg fn (ringReg ring 0x14) 0).setReg fn (ringReg ring 0x18) 0)
/-- FQCTL_WRITE (R321): a write of FQBASE or FQCTL clears FQHEAD and FQTAIL; OVF is cleared by writing 1. -/
def execFqctlWrite (fn : Nat) (base : Bool) (x : BitVec 64) (s : State) : Out :=
  if !s.fnExists fn then .next s
  else
    let keep := s.reg fn 0x28 &&& 0x80000000 &&& ~~~x
    let s := if base then s.setReg fn 0x20 x else s.setReg fn 0x28 ((x &&& 0xFFFF) ||| keep)
    .next ((s.setReg fn 0x30 0).setReg fn 0x34 0)
/-- FDROP_READ (R321): the read clears the count. -/
def execFdropRead (fn : Nat) (s : State) : Out := if s.fnExists fn then .next (s.setReg fn 0x10 0) else .next s
/-- IRBLK_READ (R321): the read clears the count. -/
def execIrblkRead (s : State) : Out := .next (s.setReg 0 0x2050 0)

/-! ## Function-level reset -/

/-- RESET records of an AQI's packets: those that have started, then those that wait (R343). A COPY has delivered what it has
delivered, the records of a grid stay counted, and a LAUNCH at the head that has been accepted has its EVTAG (R330, R334). -/
def State.resetAqi (s : State) (q : Nat) : State :=
  let a := s.aqi q
  let js := s.jobsOf q
  let s : State := { s with
    jobs := s.jobs.filter (fun j => j.2.aqi != q), aqis := nput s.aqis q { a with queue := [], accepted := none } }
  let end_ (s : State) (j : Nat × Job) : State :=
    let g := match j.2.grid with | some id => s.grid id | none => Grid.reset
    let d := if pkType j.2.raw = 2 then 64 * j.2.pos else 0
    (s.tally j.2.entry.tenant 3 d).complete q j.2.entry j.2.raw 6 g.firstCause g.evtag.toNat g.nflt d
  let tag (i : Nat) : Nat := match i, a.accepted with | 0, some (.grid g) => g.evtag.toNat | _, _ => 0
  a.queue.zipIdx.foldl (fun s p => s.complete q a.entry p.1.2 6 none (tag p.2) 0 0) (js.foldl end_ s)
/-- The reset of a function latches (R343): its packets complete, its grids are cancelled and their records discarded. -/
def State.latchReset (s : State) (fn : Nat) : State :=
  let qs := (s.aqis.filter (fun a => a.2.entry.v && a.2.entry.fn == fn)).map (·.1)
  let s := qs.foldl State.resetAqi s
  let ids := (s.grids.filter (fun g => g.2.present && g.2.fn == fn)).map (fun g => BitVec.ofNat 32 g.1)
  let s : State := { s with
    grids := s.grids.map (fun g => (g.1, if g.2.fn == fn then { g.2 with job := none, mute := true } else g.2))
    recs := s.recs.filter (fun r => r.fn != fn), resetting := s.resetting ++ [fn] }
  (s.cancelGrids 0x143 ids).raisePicks

/-! ## Host memory traffic -/

/-- PA of an offset of the HDM range (R319). -/
def hdmPa (h : Nat) : Nat := h / 0xF80000000 * 2 ^ 36 + h % 0xF80000000
/-- Bytes of a line written by the host; the words it touches lose their RT bits (R127). -/
def State.hostWrite (s : State) (pa : Nat) (bytes : BitVec 64) (data : BitVec 512) : State :=
  ((List.range 64).filter (fun i => bytes.getLsbD i)).foldl
    (fun s i => s.pwrite (pa + i) 1 (data.toNat / 2 ^ (8 * i) % 256) false none) s
/-- Bytes of a line of its own memory written by the host (R124), at an address as State.hostMem numbers it. -/
def State.hostStore (s : State) (a : Nat) (bytes : BitVec 64) (data : BitVec 512) : State :=
  let put (m : List Host.Cell) (i : Nat) : List Host.Cell := mwrite m (a + i) (BitVec.ofNat 8 (data.toNat / 2 ^ (8 * i)))
  { s with hostMem := ((List.range 64).filter (fun i => bytes.getLsbD i)).foldl put s.hostMem }
/-- Bytes of a line that the host writes: V = 1 keeps it waiting while an RT bit would change (R127, R128). -/
def State.hostBlocked (s : State) (pa : Nat) (bytes : BitVec 64) : Bool :=
  let t := s.tagOf pa
  tagV t && (List.range 8).any (fun w => (tagRT t).getLsbD w && (List.range 8).any (fun b => bytes.getLsbD (8 * w + b)))
/-- A line that the host reads for caching (R319): its frame's bit is set, and an answer that the host gave before counts no longer. -/
def State.hostCache (s : State) (pa : Nat) : State :=
  (s.useSnoop pa).setFrame (pa / 65536) { s.frame (pa / 65536) with hostCached := true }
/-- HOST_CXL_MEM_ACCESS (R319, R115, R117, R127, R128): a host access to a line of device memory is performed at its home, where it
queues; a failed boot opens no HDM range (R402), and an access to a poisoned line has no effect (R375, log 90). From 2^51 on, `h` is a
line of host memory that the host itself writes, with its PASID as State.hostMem has it (R124). -/
def execHostCxlMemAccess (h : Nat) (write caching : Bool) (bytes : BitVec 64) (data : BitVec 512) (s : State) : Out :=
  let pa := hdmPa (h / 64 * 64)
  let ag := s.senderAgent (.host pa)
  if 2 ^ 51 ≤ h then .next (if write then s.hostStore (h / 64 * 64 - 2 ^ 51) bytes data else s)
  else if 0x7C00000000 ≤ h ∨ s.modules = 0 ∨ s.boot.stage = 15 ∨ s.poisoned pa = true then .next s
  else match s.places ag [pa] with
  | .wait s => .next s
  | .ok s =>
    if write && s.hostBlocked pa bytes then .next (s.setAside ag.who true)
    else
      let s := s.leave ag.who
      if write then .next (s.hostWrite pa bytes data) else if caching then .next (s.hostCache pa) else .next s
/-- BISNP_RESPONSE (R319): the host has answered the snoop of a line. -/
def execBisnpResponse (line : Nat) (s : State) : Out :=
  .next { s with bisnp := s.bisnp.map (fun b => if b.1 = line then (line, true) else b) }
/-- HOST_PORT_TRAINED (R318): on one module or on two, from stage 6 on (R402). -/
def execHostPortTrained (modules : Nat) (s : State) : Out :=
  if 6 ≤ s.boot.stage ∧ (modules = 1 ∨ modules = 2) then .next { s with modules := modules } else .next s

/-! ## Scale-up ports -/

/-- SCALEUP_PORT_TRAINED (R340); the ports stay in reset under mezzanine service (R43). -/
def execScaleupPortTrained (port : Nat) (s : State) : Out :=
  if 18 ≤ port ∨ s.mezz.isSome = true then .next s else .next { s with ports := s.ports ||| (1#18 <<< port) }
/-- A request whose port has failed stops with peer unavailable at its first unacknowledged line: now when it has sent it, else
when it comes to it. -/
def State.failPort (port : Nat) (s : State) (x : Nat × Nat) : State :=
  let q := nget Req.reset s.reqs x.1
  if x.2 ≠ port ∨ q.closed = true then s
  else if q.sent then
    ({ s with peerOut := s.peerOut.filter (fun y => y.1 != x.1) }).stopReq x.1 { q with sent := false } 0x112
      (BitVec.ofNat 64 (dstAddr q.raw q.row + q.off)) 0 false
  else s.setReq x.1 { q with down := true }
/-- SCALEUP_PORT_FAILED (R340). -/
def execScaleupPortFailed (port : Nat) (s : State) : Out :=
  if 18 ≤ port then .next s
  else .next (s.portOf.foldl (State.failPort port) { s with ports := s.ports &&& ~~~(1#18 <<< port) })
/-- PEER_REFUSED (R290, R340): the peer device refuses the line sent to it. -/
def execPeerRefused (n : Nat) (s : State) : Out :=
  let q := nget Req.reset s.reqs n
  if !q.sent || q.closed then .next s
  else
    .next (({ s with peerOut := s.peerOut.filter (fun x => x.1 != n) }).stopReq n { q with sent := false } 0x113
      (BitVec.ofNat 64 (dstAddr q.raw q.row + q.off)) 0 false)
/-- PEER_LINE_INBOUND (R340): a line from a peer device is written in the context of its entry, or refused; none arrives while no
port is trained, as under mezzanine service (R43). -/
def execPeerLineInbound (d : Nat) (va : BitVec 64) (size : Nat) (data : BitVec 512) (s : State) : Out :=
  let e := (nget 0 s.peerTab d).toNat
  if s.mezz.isSome = true ∨ s.ports = 0 ∨ e / 2 ^ 32 % 2 = 0 ∨ size = 0 ∨ 64 < va.toNat % 64 + size then .next s
  else
    let ag := ioAgent (e / 2 ^ 33 % 64) (BitVec.ofNat 20 (e / 2 ^ 39)) 0 0 (.peer d va.toNat)
    match s.engLine ag va size true false with
    | .fault _ _ _ _ s1 => .next (s1.leave ag.who)
    | .wait s1 => .next s1
    | .ok x s1 =>
      let s := s1.leave ag.who
      .next ((((s.fillTlb ag.fn ag.pasid va).useSnoop x.pa).clearPoison x.pa size).pwrite x.pa size
        (data.toNat % 2 ^ (8 * size)) false none)

end Sys2Proof.Machine
end

