-- ==== Sys2Proof/Machine/Frames.lean ====
section
/-! DEFINITION. Moves and discards of frames (R115, R387, R388), and soft errors with their attribution (R375, R420, R421). -/

namespace Sys2Proof.Machine

/-! ## Moves and discards -/

/-- FRAME_MOVE_COMPLETE (R114, R115): the target die is the home; the write counters clear. The new home may let a team of a placement
map in (R40, R346). The slices of the old home hold its lines no longer (R101). -/
def execFrameMoveComplete (frame : Nat) (s : State) : Out :=
  let f := s.frame frame
  match f.moving with
  | none => .next s
  | some d =>
    let l2 := s.l2.map (fun x => (x.1, x.2.filter (fun line => line / 1024 != frame)))
    .next ({ s with l2 := l2 }.setFrame frame { f with home := some d, moving := none, wcnt := [] }).raisePicks
/-- FRAME field of DISCMD and HOMEQ (R387). -/
def frameField (x : Dword) : Nat := x.toNat / 2 ^ 16 % 2 ^ 36
/-- DISSTS.RES (R387). -/
def State.discardResult (s : State) (res : Nat) : State := s.setReg 0 0x2068 (BitVec.ofNat 64 (res * 2 ^ 8))
/-- DISCMD (R387, R388): a discard starts; a frame that is not usable HBM gives RES = 1. -/
def execDiscmd (x : BitVec 64) (s : State) : Out :=
  if s.discarding.isSome then .next s
  else if !isHbm (frameField x * 65536) then .next (s.discardResult 1)
  else .next { s with discarding := some (frameField x) }
/-- DISCARD_COMPLETE (R388): after any move, the frame is discarded in one step. -/
def execDiscardComplete (s : State) : Out :=
  match s.discarding with
  | none => .next s
  | some f =>
    if (s.frame f).moving.isSome then .next s
    else .next ({ s.discardFrame f with discarding := none }.discardResult 0)
/-- HOMEQ (R387): HOMERD holds the answer. The home of a frame that is not usable HBM is a free value. -/
def execHomeq (x : BitVec 64) (s : State) : Out :=
  let n := frameField x
  let f := s.frame n
  let home := if isHbm (n * 65536) then s.homeDie (n * 65536) else Config.freeNat s.free % 8
  let v := home + f.moving.isSome.toNat * 8 + f.disc.toNat * 16 + (!f.poison.isEmpty).toNat * 32
  .next ({ s with free := s.free + 1 }.setReg 0 0x2078 (BitVec.ofNat 64 v))

/-! ## Soft errors -/

/-- Structures that lie on a cluster rail (R374, R420). -/
def onRail (st : Nat) : Bool := decide (st ≤ 5) || st == 12 || st == 13 || st == 15
/-- A saturating 32-bit count. -/
def sat32 (n : Nat) : Nat := if n < 0xFFFFFFFF then n + 1 else n
/-- SOFT_ERROR_CORRECTABLE (R375, R417): corrected by a refetch where the copy can be read again, and counted on its rail. -/
def execSoftErrorCorrectable (st core line : Nat) (s : State) : Out :=
  if 160 ≤ core then .next s
  else
    let c := s.cache core
    let s := if st = 4 then s.setCache core { c with l1 := ndel c.l1 line }
             else if st = 5 then s.setCache core { c with ic := ndel c.ic line } else s
    let r := railOf (clusterOf core)
    if onRail st then .next (s.setRail r { s.rail r with ce := sat32 (s.rail r).ce, window := (s.rail r).window + 1 })
    else .next s

/-- The vote of a cluster for the point it is at or rises to, with the rail's trim (R410, R416). -/
def State.revote (s : State) (c : Nat) : State :=
  let x := s.cluster c
  if !x.votes then s
  else
    let p := match x.step with | some p => if x.run && decide (x.point < p) then x.point else p | none => x.point
    s.setCluster c { x with vote := s.voteFor c p (s.rail (railOf c)).trim }
/-- The trim of a rail set; the votes of its clusters and its target follow (R418, R420). -/
def State.setTrim (s : State) (r t : Nat) : State :=
  (((railClusters r).foldl State.revote (s.setRail r { s.rail r with trim := t }))).retarget r
/-- An event about a rail. -/
def State.railEvent (s : State) (r : Nat) (f : HwEvent → HwEvent) : State :=
  s.hwEvent (f { HwEvent.of 6 (r / 3) with rail := r, vmv := (s.rail r).vmv })

/-- The tenant of the pool that holds a cloister id. -/
def State.poolTenant (s : State) (cid : Nat) : Option Nat :=
  ((List.range 64).find? (fun i => (s.pool i).any (fun p => decide (p.first ≤ cid ∧ cid < p.first + p.count)))).bind
    (fun i => (s.pool i).map (·.tenant))
/-- The cloister id of the page that a PA belongs to, as its home keeps it (R421). -/
def State.cidAt (s : State) (pa : Nat) : Option Nat := (s.frame (pa / 65536)).cid.map (·.toNat)
/-- Cores of a cluster on which a tenant has a resident team. -/
def State.clusterCores (s : State) (c t : Nat) : Nat :=
  ((List.range 8).filter (fun j => (s.coreTeams (c * 8 + j)).any (fun tk => (s.grid (s.team tk).grid).tenant == t))).length
/-- The tenant with the most cores on a cluster, the lower number on a tie; none without resident teams. -/
def State.mainTenant (s : State) (c : Nat) : Option Nat :=
  (List.range 64).foldl (fun b t =>
    let n := s.clusterCores c t
    if n = 0 then b else match b with
      | none => some t
      | some x => if s.clusterCores c x < n then some t else b) none
/-- Structures in which an error strikes a line, or an access in flight, whose data belongs to no team's state (R374, R421). -/
def holdsLines (st : Nat) : Bool := st == 6 || st == 7 || st == 9 || st == 10 || st == 11
/-- The tenant that an uncorrectable error is charged to, 0xFF for none (R421). -/
def State.chargeTo (s : State) (poison : Bool) (st unit pa : Nat) (tks : List Nat) (finder : Nat) : Nat :=
  let owner : Option Nat :=
    if poison || holdsLines st then
      match (s.cidAt pa).bind s.poolTenant with
      | some t => some t
      | none => if finder < 64 then some finder else tks.head?.map (fun tk => (s.grid (s.team tk).grid).tenant)
    else if st = 14 then (s.saved.find? (fun x => x.1 == unit)).map (fun x => (s.grid x.2.team.grid).tenant)
    else tks.head?.map (fun tk => (s.grid (s.team tk).grid).tenant)
  (owner.or (if onRail st && !poison then s.mainTenant (clusterOf unit) else none)).getD 0xFF
/-- The Atrium words; the units after them stand for the entries at the heads of the hardware event rings. -/
def atriumWords : Nat := 0x28000
/-- The head entry of a hardware event ring holds an uncorrectable error (R398). -/
def State.strikeRing (s : State) (ring : Nat) : State :=
  match nget [] s.hwRings ring with
  | [] => s
  | e :: r => { s with hwRings := nput s.hwRings ring ((e.1, true) :: r) }
/-- What the error strikes: a line at its home, a context image, an Atrium word or ring entry, or the state of teams (R375, R393,
R398, R399). -/
def State.strike (s : State) (poison : Bool) (st unit pa : Nat) (tks : List Nat) : State :=
  if poison then
    let f := s.frame (pa / 65536)
    if isHbm pa then s.setFrame (pa / 65536) { f with poison := pa / 64 % 1024 :: f.poison.filter (· != pa / 64 % 1024) } else s
  else if st = 14 then
    if s.saved.any (fun x => x.1 == unit) then { s with saved := nput s.saved unit { nget Saved.reset s.saved unit with bad := true } }
    else s
  else
    let s : State :=
      if st ≠ 8 ∨ s.atriumBad.contains unit = true ∨ atriumWords + 4 ≤ unit then s
      else if unit < atriumWords then { s with atriumBad := s.atriumBad ++ [unit] }
      else s.strikeRing (unit - atriumWords)
    (tks.filter (fun tk => (s.team tk).present)).foldl (State.errorTeam (0x150 + st)) s
/-- The die of an error (R423): that of the line's home, of the core, Atrium word or context slot; 4 is the I/O die. -/
def State.errorDie (s : State) (poison : Bool) (st unit pa : Nat) : Nat :=
  if poison then s.homeDie pa
  else if st = 8 then min 4 (unit / 0x8000)
  else if st = 14 then s.homeDie (s.slotPA unit)
  else if unit < 160 ∧ st ≠ 10 ∧ st ≠ 11 then dieOf unit else 4
/-- SOFT_ERROR_UNCORRECTABLE (R375, R421): `poison` for a line at its home, else structure `st` of a unit: a core, a context slot
(14), or an Atrium word or ring entry (8); `pa` is the line at its home or in flight; `tks` are the teams whose state or access holds
the error, `finder` the tenant whose access found it. -/
def execSoftErrorUncorrectable (poison : Bool) (st unit pa : Nat) (tks : List Nat) (finder : Nat) (s : State) : Out :=
  if 16 ≤ st then .next s
  else
    let s0 := s
    let s := s.strike poison st unit pa tks
    let rail := onRail st && !poison && decide (unit < 160)
    let c := clusterOf unit
    let r := railOf c
    let who := s0.chargeTo poison st unit pa tks finder
    let deep := rail && decide (0 < (s.rail r).trim)
    let s := if deep then
        let s := s.setTrim r 0
        let s := s.setRail r { s.rail r with tdis := some (s.time + 86400000000000) }
        s.railEvent r (fun e => { e with
          type := 2, cluster := c, tenant := who, s := st, kid := (s.cluster c).state.key.1, phase := (s.cluster c).state.key.2 })
      else s
    let s := if rail then s.setRail r { s.rail r with ue := sat32 (s.rail r).ue } else s
    let g : Option Team := if st = 14 ∧ !poison then (s0.saved.find? (fun x => x.1 == unit)).map (·.2.team) else tks.head?.map s0.team
    let key := if rail then (s.cluster c).state.key else (0, 0)
    .next (s.hwEvent { HwEvent.of 1 (s.errorDie poison st unit pa) with
      kid := key.1, phase := key.2
      cluster := if rail then c else 0xFF, tenant := who, s := st, rail := if rail then r else 0xFF
      loc := if poison || holdsLines st then pa else 0
      grid := match g with | some t => t.grid.toNat | none => 0xFFFFFFFF
      team := match g with | some t => t.id | none => 0
      vmv := if rail then (s.rail r).vmv else 0 })

end Sys2Proof.Machine
end

