-- ==== Sys2Proof/Machine/Fleet.lean ====
section
/-! DEFINITION. Power control and accounting for fleet operators: pools and steps (R411-R416), rails (R418), trims (R420),
temperature (R422) and the counters' snapshot (R425). -/

namespace Sys2Proof.Machine

/-! ## Pools -/

/-- A cluster holds a resident team. -/
def State.clusterBusy (s : State) (c : Nat) : Bool := (List.range 8).any (fun j => !(s.coreTeams (c * 8 + j)).isEmpty)
/-- A POOL value takes effect (R412); under mezzanine service the class stays (R404). -/
def State.takePool (s : State) (c p : Nat) : State :=
  let x := s.cluster c
  let old := classPoint x.cls x.point
  let cls := if s.mezz.isSome then x.cls else p
  let s := s.setCluster c { x with pool := p, pend := none, cls := cls }
  (s.clusterEvent c 5 old (classPoint cls x.point)).raisePicks
/-- CLCTL_POOL_WRITE (R411, R412). -/
def execClctlPoolWrite (c : Nat) (x : BitVec 64) (s : State) : Out :=
  if 20 ≤ c then .next s
  else if s.clusterBusy c then .next (s.setCluster c { s.cluster c with pend := some (x.toNat % 4) })
  else .next (s.takePool c (x.toNat % 4))
/-- POOL_TAKES_EFFECT (R412): the last resident team has left. -/
def execPoolTakesEffect (c : Nat) (s : State) : Out :=
  match (s.cluster c).pend with
  | none => .next s
  | some p => if s.clusterBusy c then .next s else .next (s.takePool c p)

/-! ## Stall samples and the operating-point table -/

/-- A sample: the ratio × 256, from 0 to 256; a free value when no quadrant held a group. -/
def Cluster.sample (x : Cluster) (free : Nat) : Nat := if x.busy = 0 then free % 257 else min 256 (x.stalled * 256 / x.busy)
/-- LAST after a sample: a free value for 256, which its 8 bits cannot hold (log 95). -/
def lastOf (v free : Nat) : Nat := if v < 256 then v else free % 256
/-- One cluster's sample (R414). -/
def State.sampleCluster (s : State) (c : Nat) : State :=
  let x := s.cluster c
  let v := x.sample (Config.freeNat s.free)
  let w := lastOf v (Config.freeNat (s.free + 1))
  let y := if x.run then
      (match x.state with
       | .idle => { x with last := w }
       | _ => { x with last := w, sum := x.sum + v, nsmp := x.nsmp + 1 })
    else x
  { s with free := s.free + 2 }.setCluster c { y with busy := 0, stalled := 0 }
/-- STALL_SAMPLE (R414): at every TIME that is a multiple of 10 µs. -/
def execStallSample (s : State) : Out :=
  if s.time / 10000 ≤ s.power.sampleAt / 10000 then .next s
  else
    let s := (List.range 20).foldl State.sampleCluster s
    .next { s with power := { s.power with sampleAt := s.time } }
/-- OPTCTL_CLR (R415): OPTCTL written; CLR empties the table. -/
def execOptctlClr (x : BitVec 64) (s : State) : Out :=
  .next { s with power := { s.power with
    optEn := x.getLsbD 0, table := if x.getLsbD 1 then [] else s.power.table } }
/-- FREQUENCY_SWITCH (R416): a rise switches once its rail reaches the vote; a fall switches, then votes lower. -/
def execFrequencySwitch (c : Nat) (s : State) : Out :=
  let x := s.cluster c
  match x.step with
  | none => .next s
  | some p =>
    let falling := x.run && decide (x.point < p)
    let rail := s.rail (railOf c)
    if !falling && decide (rail.vmv < x.vote) then .next s
    else
      let s := s.putCluster c { x with point := p, run := true, step := none, vote := s.voteFor c p rail.trim }
      .next (s.clusterEvent c 3 (classPoint x.cls x.point) (classPoint x.cls p))

/-! ## Rails -/

/-- RAIL_HOLD_EXPIRY (R418). -/
def execRailHoldExpiry (r : Nat) (s : State) : Out :=
  let x := s.rail r
  match x.hold with
  | none => .next s
  | some t => if s.time < t then .next s else .next (s.setRail r { x with hold := none, rampAt := s.time })
/-- RAIL_REACHES_TARGET (R418): the last part of a ramp, at 10 mV per µs. -/
def execRailReachesTarget (r : Nat) (s : State) : Out :=
  let x := s.rail r
  let d := if x.vmv < x.tgt then x.tgt - x.vmv else x.vmv - x.tgt
  if x.vmv = x.tgt ∨ 10 < d ∨ (x.tgt < x.vmv ∧ x.hold.isSome = true) ∨ s.time < x.rampAt + 100 * d then .next s
  else .next (s.setRail r { x with vmv := x.tgt, rampAt := s.time })
/-- RAIL_ERROR_COUNT_READ (R417): the read clears the count. -/
def execRailErrorCountRead (r : Nat) (ue : Bool) (s : State) : Out :=
  let x := s.rail r
  if 12 ≤ r then .next s else .next (s.setRail r (if ue then { x with ue := 0 } else { x with ce := 0 }))

/-! ## Trims -/

/-- A rail's trim changed, with the event of the change (R420). -/
def State.changeTrim (s : State) (r t : Nat) : State :=
  let old := (s.rail r).trim
  if old = t then s else (s.setTrim r t).railEvent r (fun e => { e with src := old, dst := t })
/-- The first voting cluster of the rail that would be denied a trim (R419, R420). -/
def State.trimDenied (s : State) (r t : Nat) : Option Nat :=
  (railClusters r).find? (fun c =>
    let x := s.cluster c
    x.votes && s.denied c (x.step.getD x.point) t)
/-- The review of one rail. -/
def State.reviewRail (s : State) (r : Nat) : State :=
  let x := s.rail r
  let s1 :=
    if x.tdis.isSome then s
    else if s.power.high ≤ x.window then s.changeTrim r (x.trim - 10)
    else if x.window ≤ s.power.low ∧ x.trim + 5 ≤ s.power.tmax then
      match s.trimDenied r (x.trim + 5) with
      | some c => let y := s.cluster c; s.clusterEvent c 4 (classPoint y.cls y.point) (classPoint y.cls y.point)
      | none => s.changeTrim r (x.trim + 5)
    else s
  s1.setRail r { s1.rail r with window := 0 }
/-- TRIM_REVIEW (R420): every 100 ms; EN is ignored under mezzanine service (R43). -/
def execTrimReview (s : State) : Out :=
  if s.time / 100000000 ≤ s.power.trimAt / 100000000 then .next s
  else
    let s := { s with power := { s.power with trimAt := s.time } }
    if s.power.trimEn && s.mezz.isNone then .next (railIds.foldl State.reviewRail s)
    else .next (railIds.foldl (fun s r => s.setRail r { s.rail r with window := 0 }) s)
/-- TRIMCTL_WRITE (R420): clearing EN sets every TRIM to 0; a write that enables trims is ignored under mezzanine service
(R43). -/
def execTrimctlWrite (x : BitVec 64) (s : State) : Out :=
  let v := x.toNat
  let s : State := { s with power := { s.power with
    trimEn := x.getLsbD 0 && s.mezz.isNone, low := v / 2 ^ 8 % 256, high := v / 2 ^ 16 % 256, tmax := min 100 (v / 2 ^ 24 % 256) } }
  if s.power.trimEn then .next s else .next (railIds.foldl (fun s r => s.changeTrim r 0) s)
/-- TRIM_DISABLE_EXPIRY (R421): 24 h of TIME have passed. -/
def execTrimDisableExpiry (r : Nat) (s : State) : Out :=
  let x := s.rail r
  match x.tdis with
  | none => .next s
  | some t => if s.time < t then .next s else .next (s.setRail r { x with tdis := none })

/-! ## Temperature -/

/-- THR of a die after a change of temperature (R422). -/
def State.throttle (s : State) (die : Nat) : Bool :=
  let ts := (List.range 5).map (fun k => (s.cluster (die * 5 + k)).temp)
  if ts.any (fun t => decide (100 ≤ t)) then true
  else if ts.all (fun t => decide (t ≤ 95)) then false
  else s.power.thr.getLsbD die
/-- THERMAL_SENSOR_CHANGE (R422). -/
def execThermalSensorChange (c temp : Nat) (s : State) : Out :=
  if 20 ≤ c ∨ 256 ≤ temp then .next s
  else
    let x := s.cluster c
    let cool := x.shut && decide (temp ≤ 100)
    let s := s.setCluster c { x with
      temp := temp, hotSince := if 110 ≤ temp then some (x.hotSince.getD s.time) else none, shut := x.shut && !cool }
    let die := clusterDie c
    let old := s.power.thr.getLsbD die
    let new := s.throttle die
    let bit : BitVec 4 := 1#4 <<< die
    let s : State := { s with power := { s.power with thr := if new then s.power.thr ||| bit else s.power.thr &&& ~~~bit } }
    let y := s.cluster c
    let s := if old = new then s else s.clusterEvent c (if new then 7 else 8) (classPoint y.cls y.point) (classPoint y.cls y.point)
    .next (if cool then s.raisePicks else s)
/-- THERMAL_EMERGENCY (R422): 110 °C or more for 1 ms ends the cluster's teams with 0x147. -/
def execThermalEmergency (c : Nat) (s : State) : Out :=
  let x := s.cluster c
  match x.hotSince with
  | none => .next s
  | some t =>
    if s.time < t + 1000000 ∨ x.shut = true then .next s
    else
      let tks := (List.range 8).flatMap (fun j => s.coreTeams (c * 8 + j))
      let s := tks.foldl (fun s tk => s.killTeam tk 0x147 true) s
      let s := s.setCluster c { s.cluster c with emg := true, shut := true }
      .next (s.clusterEvent c 9 (classPoint x.cls x.point) (classPoint x.cls x.point))

/-! ## Accounting -/

/-- ACCOUNTING_SNAPSHOT (R425): ACCCTL written; SNAP copies all counters at one instant. -/
def execAccountingSnapshot (x : BitVec 64) (s : State) : Out :=
  .next { s with power := { s.power with accSel := x.getLsbD 1 }, acctSnap := if x.getLsbD 0 then s.acct else s.acctSnap }

end Sys2Proof.Machine
end

