-- ==== Sys2Proof/Machine/Registers.lean ====
section
/-! DEFINITION. The registers of BAR0 as software reads and writes them (R9, R10, R74, R321, R376, R387, R403, R407-R425). -/

namespace Sys2Proof.Machine

/-! ## Reads -/

/-- A 32-bit word of a 64-bit value: the low one at an offset that is a multiple of 8. -/
def half (off x : Nat) : Nat := x / 2 ^ (8 * (off % 8)) % 2 ^ 32
/-- FCAP (R321): MAXVF, MEZZ, SUP, HALF. -/
def State.fcap (s : State) (fn : Nat) : Nat :=
  (if fn = 0 ∧ s.mezz.isNone = true then 63 else 0) + s.mezz.isSome.toNat * 2 ^ 6 + (s.ports != 0).toNat * 2 ^ 7 +
    (s.modules == 1).toNat * 2 ^ 8
/-- BOOTSTS (R403). -/
def State.bootsts (s : State) : Nat := s.boot.stage % 16 + s.boot.fail % 16 * 2 ^ 4 + s.boot.fwver % 2 ^ 16 * 2 ^ 16
/-- MEZCAP (R403, R404), for a service choice and the dies that passed. -/
def mezcap (mezz : Option Nat) (dieOk : BitVec 4) : Nat :=
  match mezz with
  | some d => 1 + d % 4 * 2 + dieOk.toNat * 2 ^ 4 + 3 * 2 ^ 10
  | none => dieOk.toNat * 2 ^ 4 + 2 ^ 8 + 2 ^ 9
/-- Registers of an event ring (R321). -/
def State.ringWord (s : State) (fn off : Nat) : Option Nat :=
  match off % 0x20 with
  | 0x00 => some (half off (s.reg fn off).toNat)
  | 0x04 => some (half off (s.reg fn (off - 4)).toNat)
  | 0x08 => some (s.reg fn off).toNat
  | 0x0C => some (s.reg fn off).toNat
  | 0x10 => some (s.reg fn off).toNat
  | 0x14 => some (s.reg fn off).toNat
  | 0x18 => some (s.reg fn off).toNat
  | _ => none
/-- CLSTAT (R411). -/
def Cluster.stat (x : Cluster) : Nat :=
  x.cls % 4 + x.point % 8 * 2 ^ 2 + x.run.toNat * 2 ^ 5 + x.step.isSome.toNat * 2 ^ 6 + x.den.toNat * 2 ^ 7 +
    (if x.run then (4000 - 800 * x.cls - 100 * x.point) * 2 ^ 8 + x.vote % 2 ^ 12 * 2 ^ 20 else 0)
/-- Registers of a cluster (R411). -/
def Cluster.word (x : Cluster) (off : Nat) : Nat :=
  match off with
  | 0x0 => x.pend.getD x.pool % 4 + x.pend.isSome.toNat * 4
  | 0x4 => x.stat
  | 0x8 => x.last % 256 + (if x.nsmp = 0 then 0 else x.sum / x.nsmp % 256) * 2 ^ 8 + min x.nsmp 0xFFFF * 2 ^ 16
  | _ => x.temp % 256 + (decide (100 ≤ x.temp)).toNat * 2 ^ 8 + x.emg.toNat * 2 ^ 9
/-- Registers of a rail (R417). -/
def Rail.word (x : Rail) (off : Nat) : Nat :=
  match off with
  | 0x0 => x.vmv % 2 ^ 12 + x.tgt % 2 ^ 12 * 2 ^ 12 + x.hold.isSome.toNat * 2 ^ 24
  | 0x4 => x.trim % 256 + x.tdis.isSome.toNat * 2 ^ 8
  | 0x8 => x.ce
  | _ => x.ue
/-- A tenant counter as BAR0 shows it (R424, R425). -/
def State.acctRead (s : State) (t j : Nat) : Nat :=
  if j = 7 then 0 else (nget 0 (if s.power.accSel then s.acctSnap else s.acct) (t * 8 + j)).toNat
/-- The registers of chapter 20, by 32-bit word (R74, R407-R425). -/
def State.fleetWord (s : State) (off : Nat) : Option Nat :=
  if 0x3000 ≤ off ∧ off < 0x3040 then
    let a := s.arcade ((off - 0x3000) / 0x10)
    match off % 0x10 with
    | 0x0 => some (a.bud + a.clmp.toNat * 2 ^ 31)
    | 0x4 => some (s.calf ((off - 0x3000) / 0x10))
    | 0x8 => some a.inj
    | _ => none
  else if off = 0x3040 then some (s.power.pkov.toNat + s.power.thr.toNat * 2 ^ 4)
  else if off = 0x3044 then
    some (s.power.trimEn.toNat + s.power.low * 2 ^ 8 + s.power.high * 2 ^ 16 + s.power.tmax * 2 ^ 24)
  else if off = 0x3048 then some (s.power.optEn.toNat + s.power.table.length * 2 ^ 2)
  else if off = 0x304C then some (s.power.accSel.toNat * 2)
  else if 0x3100 ≤ off ∧ off < 0x3240 then some ((s.cluster ((off - 0x3100) / 0x10)).word (off % 0x10))
  else if 0x3300 ≤ off ∧ off < 0x33C0 then some ((s.rail ((off - 0x3300) / 0x10)).word (off % 0x10))
  else if 0x4000 ≤ off ∧ off < 0x5000 then some (half off (s.acctRead ((off - 0x4000) / 0x40) (off % 0x40 / 8)))
  else none
/-- Registers that PF0 alone has (R321, R387). -/
def State.pf0Word (s : State) (off : Nat) : Option Nat :=
  match off with
  | 0x2000 => some (s.reg 0 off).toNat
  | 0x2040 => some 0
  | 0x2044 => some 0
  | 0x2048 => some ((s.reg 0 off).toNat + s.cfg.isSome.toNat)
  | 0x2050 => some (s.reg 0 off).toNat
  | 0x2060 => some 0
  | 0x2064 => some 0
  | 0x2068 => some ((s.reg 0 off).toNat + s.discarding.isSome.toNat)
  | 0x2070 => some 0
  | 0x2074 => some 0
  | 0x2078 => some (s.reg 0 off).toNat
  | 0x2088 => some (s.reg 0 off).toNat
  | _ =>
    if (0x2008 ≤ off ∧ off < 0x2030) ∨ (0x2080 ≤ off ∧ off < 0x2088) then some (half off (s.reg 0 (off / 8 * 8)).toNat)
    else s.fleetWord off
/-- The 32-bit word of BAR0 at an offset that is a multiple of 4, as a read returns it; none where no register lies. -/
def State.regWord (s : State) (fn off : Nat) : Option Nat :=
  match off with
  | 0x00 => some (s.fcap fn)
  | 0x08 => some (s.reg fn off).toNat
  | 0x10 => some (s.reg fn off).toNat
  | 0x20 => some (half off (s.reg fn 0x20).toNat)
  | 0x24 => some (half off (s.reg fn 0x20).toNat)
  | 0x28 => some (s.reg fn off).toNat
  | 0x30 => some (s.reg fn off).toNat
  | 0x34 => some (s.reg fn off).toNat
  | 0x40 => some 0
  | 0x44 => some 0
  | 0x48 => some (s.finv.any (fun c => c.1 == fn)).toNat
  | 0x50 => some (half off (s.reg fn 0x50).toNat)
  | 0x54 => some (half off (s.reg fn 0x50).toNat)
  | 0x58 => some (s.reg fn off).toNat
  | 0x60 => some (s.reg fn off).toNat
  | 0x70 => some s.bootsts
  | 0x78 => some (if s.boot.capValid then mezcap s.mezz s.boot.dieOk else 0)
  | _ =>
    if 0x100 ≤ off ∧ off < 0x300 then s.ringWord fn off
    else if 0x2000 ≤ off then (if fn = 0 then s.pf0Word off else (s.pf0Word off).map (fun _ => 0))
    else none
/-- What a read leaves behind: RC fields of PF0's fleet registers are cleared (R9, R417). -/
def State.afterFleetRead (s : State) (off : Nat) : State :=
  if 0x3300 ≤ off ∧ off < 0x33C0 then
    let r := (off - 0x3300) / 0x10
    match off % 0x10 with
    | 0x8 => s.setRail r { s.rail r with ce := 0 }
    | 0xC => s.setRail r { s.rail r with ue := 0 }
    | _ => s
  else s

/-! ## Writes -/

/-- A write of a chapter 20 register (R407-R425); RO and RC fields ignore it. -/
def State.writeFleet (s : State) (off : Nat) (x : BitVec 64) : Out :=
  if 0x3000 ≤ off ∧ off < 0x3040 ∧ off % 0x10 = 0 then execGbudgetWrite ((off - 0x3000) / 0x10) x s
  else if off = 0x3044 then execTrimctlWrite x s
  else if off = 0x3048 then execOptctlClr x s
  else if off = 0x304C then execAccountingSnapshot x s
  else if 0x3100 ≤ off ∧ off < 0x3240 then
    let c := (off - 0x3100) / 0x10
    match off % 0x10 with
    | 0x0 => execClctlPoolWrite c x s
    | 0x4 => .next (s.setCluster c { s.cluster c with den := (s.cluster c).den && !x.getLsbD 7 })
    | 0xC => .next (s.setCluster c { s.cluster c with emg := (s.cluster c).emg && !x.getLsbD 9 })
    | _ => .next s
  else .next s
/-- A write of CFGCMD (R323). -/
def State.writeCfgcmd (s : State) (x : BitVec 64) : Out :=
  let v := x.toNat
  let fn := v / 2 ^ 5 % 64
  let arg := v / 2 ^ 32 % 2 ^ 20
  if cfgBad x then execCfgcmdBadOp x s
  else match v % 16 with
    | 1 => execLoadAqi arg s
    | 2 => execInvPasid false fn (BitVec.ofNat 20 arg) (v.testBit 4) s
    | 3 => execInvS2 fn s
    | 4 => execInvIrte arg s
    | 5 => execLoadPool arg s
    | _ => execLoadPeer arg s
/-- A write of a register that PF0 alone has (R321, R387); a write that enables VFs is ignored under mezzanine service (R43). -/
def State.writePf0 (s : State) (off : Nat) (x : BitVec 64) : Out :=
  match off with
  | 0x2000 => .next (s.setReg 0 off (x &&& (if s.mezz.isSome then 0x3F else 0x7F)))
  | 0x2040 => s.writeCfgcmd x
  | 0x2060 => execDiscmd x s
  | 0x2070 => execHomeq x s
  | 0x2080 => .next (s.setReg 0 off (x &&& 0x000FFFFFFFE00000))
  | 0x2088 => .next (s.setReg 0 off (x &&& 0xFFFF))
  | _ =>
    if 0x2008 ≤ off ∧ off < 0x2030 ∧ off % 8 = 0 then .next (s.setReg 0 off (x &&& 0x000FFFFFFFFFFFFF))
    else s.writeFleet off x
/-- REGISTER_WRITE (R9, R10, R321): software writes a register of BAR0 of a function; reserved and read-only fields ignore it,
and a register whose write does something does it. The upper word of a 64-bit register is written with its lower one only: a write at
its own offset is ignored (log 138). -/
def execRegisterWrite (fn off : Nat) (x : BitVec 64) (s : State) : Out :=
  if !s.fnExists fn then .next s
  else match off with
    | 0x08 => .next (s.setReg fn off (x &&& 3))
    | 0x20 => execFqctlWrite fn true x s
    | 0x28 => execFqctlWrite fn false x s
    | 0x34 => .next (s.setReg fn off (x &&& 0xFFFFFFFF))
    | 0x40 =>
      if x.toNat % 16 = 2 then execInvPasid true fn (BitVec.ofNat 20 (x.toNat / 2 ^ 32)) (x.getLsbD 4) s else .next s
    | 0x50 => .next (s.setReg fn off x)
    | 0x58 => .next (s.setReg fn off (x &&& 0xFFFFF))
    | 0x60 => .next (s.setReg fn off (x &&& 0xFFFF))
    | _ =>
      if 0x100 ≤ off ∧ off < 0x300 then
        match off % 0x20 with
        | 0x00 => execErctlWrite fn ((off - 0x100) / 0x20) true x s
        | 0x08 => execErctlWrite fn ((off - 0x100) / 0x20) false x s
        | 0x0C => .next (s.setReg fn off (x &&& 0x800007FF))
        | 0x14 => .next (s.setReg fn off (x &&& 0xFFFFFFFF))
        | _ => .next s
      else if 0x2000 ≤ off ∧ fn = 0 then s.writePf0 off x
      else .next s

/-! ## Reset values and function-level reset -/

/-- The machine after a register write. -/
def outState (s : State) (o : Out) : State := match o with | .next s' => s' | _ => s
/-- A chapter 20 register written, as a change of the machine. -/
def State.putFleet (x : BitVec 64) (s : State) (off : Nat) : State := outState s (s.writeFleet off x)
/-- The chapter 20 registers at their reset values (R74, R411, R415, R417, R420, R424, R425): the writable fields and counts; fields
that show what the hardware does go on showing it, and the operating-point table stays (R415). -/
def State.fleetReset (s : State) : State :=
  let s := [0x3000, 0x3010, 0x3020, 0x3030].foldl (State.putFleet 340000) s
  let s := ((s.putFleet 0x32100400 0x3044).putFleet 0 0x304C)
  let s : State := { s with power := { s.power with optEn := true }, acct := [], acctSnap := [] }
  let cl (s : State) (c : Nat) : State :=
    let s := s.setCluster c { s.cluster c with den := false, emg := false }
    s.putFleet 0 (0x3100 + 0x10 * c)
  railIds.foldl (fun s r => s.setRail r { s.rail r with ce := 0, ue := 0 }) ((List.range 20).foldl cl s)
/-- The registers of PF0 and its commands at their reset values. -/
def State.ownReset (s : State) : State := { s.fleetReset with cfg := none, discarding := none }
/-- The registers of a function return to their reset values: its reset ends (R343). -/
def State.endReset (s : State) (fn : Nat) : State :=
  let s : State := { s with
    bar0 := s.bar0.filter (fun r => r.1 / 65536 != fn)
    msix := s.msix.filter (fun r => r.1 / 2048 != fn)
    pba := s.pba.filter (fun r => r.1 / 2048 != fn)
    finv := ndel s.finv fn
    resetting := s.resetting.filter (· != fn) }
  if fn = 0 then s.ownReset else s
/-- No record waits for a ring of a function. -/
def State.ringsEmpty (s : State) (fn : Nat) : Bool := (List.range 16).all (fun r => (nget [] s.ringWait (fn * 16 + r)).isEmpty)
/-- Every waiting record of a function is tried once, ring by ring. -/
def State.flushRings (s : State) (fn : Nat) : State :=
  (List.range 16).foldl (fun s r => (nget [] s.ringWait (fn * 16 + r)).foldl (fun s _ => s.recordStep fn r) s) s
/-- A latched reset goes on: its records are written or discarded, then the registers are reset (R343). -/
def State.resumeFn (s : State) (fn : Nat) : State :=
  let s := s.flushRings fn
  if s.resetting.contains fn && s.ringsEmpty fn then s.endReset fn else s
/-- Latched resets go on; PF0's own latches when those of its VFs have ended (R343). -/
def State.resumeResets (s : State) : State :=
  if s.resetting.isEmpty then s
  else
    let s := (s.resetting.filter (· < 64)).foldl State.resumeFn s
    if s.resetting == [64] then (({ s with resetting := [] } : State).latchReset 0).resumeFn 0 else s
/-- FUNCTION_LEVEL_RESET (R343): the reset latches, and ends once its records are written. A reset of PF0 resets every VF first, and
discards the exchange of the DOE mailbox (R406). -/
def execFunctionLevelReset (fn : Nat) (s : State) : Out :=
  if !s.fnExists fn || s.resetting.contains fn || (fn == 0 && s.resetting.contains 64) then .next s
  else if fn = 0 then
    let vfs := (List.range 64).filter (fun f => f != 0 && s.fnExists f && !s.resetting.contains f)
    let s := vfs.foldl State.latchReset s
    .next ({ s with doe := none, resetting := s.resetting ++ [64] } : State).resumeResets
  else .next (s.latchReset fn).resumeResets

end Sys2Proof.Machine
end

