-- ==== Sys2Proof/Machine/Boot.lean ====
section
/-! DEFINITION. The root of trust: SHA-512 and RSASSA-PSS as R401 names them, measurement (R405), the firmware image and the boot
stages (R401-R404), and the reset of the device. The algorithms are those of FIPS 180-4 and PKCS #1, which the spec names. -/

namespace Sys2Proof.Machine

/-! ## SHA-512 -/

/-- Round constants 0-19. -/
def shaK0 : List Dword :=
  [0x428A2F98D728AE22, 0x7137449123EF65CD, 0xB5C0FBCFEC4D3B2F, 0xE9B5DBA58189DBBC,
   0x3956C25BF348B538, 0x59F111F1B605D019, 0x923F82A4AF194F9B, 0xAB1C5ED5DA6D8118,
   0xD807AA98A3030242, 0x12835B0145706FBE, 0x243185BE4EE4B28C, 0x550C7DC3D5FFB4E2,
   0x72BE5D74F27B896F, 0x80DEB1FE3B1696B1, 0x9BDC06A725C71235, 0xC19BF174CF692694,
   0xE49B69C19EF14AD2, 0xEFBE4786384F25E3, 0x0FC19DC68B8CD5B5, 0x240CA1CC77AC9C65]
/-- Round constants 20-39. -/
def shaK1 : List Dword :=
  [0x2DE92C6F592B0275, 0x4A7484AA6EA6E483, 0x5CB0A9DCBD41FBD4, 0x76F988DA831153B5,
   0x983E5152EE66DFAB, 0xA831C66D2DB43210, 0xB00327C898FB213F, 0xBF597FC7BEEF0EE4,
   0xC6E00BF33DA88FC2, 0xD5A79147930AA725, 0x06CA6351E003826F, 0x142929670A0E6E70,
   0x27B70A8546D22FFC, 0x2E1B21385C26C926, 0x4D2C6DFC5AC42AED, 0x53380D139D95B3DF,
   0x650A73548BAF63DE, 0x766A0ABB3C77B2A8, 0x81C2C92E47EDAEE6, 0x92722C851482353B]
/-- Round constants 40-59. -/
def shaK2 : List Dword :=
  [0xA2BFE8A14CF10364, 0xA81A664BBC423001, 0xC24B8B70D0F89791, 0xC76C51A30654BE30,
   0xD192E819D6EF5218, 0xD69906245565A910, 0xF40E35855771202A, 0x106AA07032BBD1B8,
   0x19A4C116B8D2D0C8, 0x1E376C085141AB53, 0x2748774CDF8EEB99, 0x34B0BCB5E19B48A8,
   0x391C0CB3C5C95A63, 0x4ED8AA4AE3418ACB, 0x5B9CCA4F7763E373, 0x682E6FF3D6B2B8A3,
   0x748F82EE5DEFB2FC, 0x78A5636F43172F60, 0x84C87814A1F0AB72, 0x8CC702081A6439EC]
/-- Round constants 60-79. -/
def shaK3 : List Dword :=
  [0x90BEFFFA23631E28, 0xA4506CEBDE82BDE9, 0xBEF9A3F7B2C67915, 0xC67178F2E372532B,
   0xCA273ECEEA26619C, 0xD186B8C721C0C207, 0xEADA7DD6CDE0EB1E, 0xF57D4F7FEE6ED178,
   0x06F067AA72176FBA, 0x0A637DC5A2C898A6, 0x113F9804BEF90DAE, 0x1B710B35131C471B,
   0x28DB77F523047D84, 0x32CAAB7B40C72493, 0x3C9EBE0A15C9BEBC, 0x431D67C49C100D4C,
   0x4CC5D4BECB3E42B6, 0x597F299CFC657E2A, 0x5FCB6FAB3AD6FAEC, 0x6C44198C4A475817]
/-- The 80 round constants. -/
def shaK : List Dword := shaK0 ++ shaK1 ++ shaK2 ++ shaK3
/-- Initial hash value. -/
def shaInit : List Dword :=
  [0x6A09E667F3BCC908, 0xBB67AE8584CAA73B, 0x3C6EF372FE94F82B, 0xA54FF53A5F1D36F1,
   0x510E527FADE682D1, 0x9B05688C2B3E6C1F, 0x1F83D9ABFB41BD6B, 0x5BE0CD19137E2179]
/-- One round on the eight working values. -/
def shaRound (h : List Dword) (kw : Dword × Dword) : List Dword :=
  let v (i : Nat) : Dword := h.getD i 0
  let e := v 4
  let a := v 0
  let t1 := v 7 + (e.rotateRight 14 ^^^ e.rotateRight 18 ^^^ e.rotateRight 41) + ((e &&& v 5) ^^^ (~~~e &&& v 6)) + kw.1 + kw.2
  let t2 := (a.rotateRight 28 ^^^ a.rotateRight 34 ^^^ a.rotateRight 39) + ((a &&& v 1) ^^^ (a &&& v 2) ^^^ (v 1 &&& v 2))
  [t1 + t2, a, v 1, v 2, v 3 + t1, e, v 5, v 6]
/-- The message schedule, newest word first, extended by n words. -/
def shaExtend : Nat → List Dword → List Dword
  | 0, w => w
  | n + 1, w =>
    let x := w.getD 1 0
    let y := w.getD 14 0
    shaExtend n (((x.rotateRight 19 ^^^ x.rotateRight 61 ^^^ (x >>> 6)) + w.getD 6 0 +
      (y.rotateRight 1 ^^^ y.rotateRight 8 ^^^ (y >>> 7)) + w.getD 15 0) :: w)
/-- The compression of one block of 16 words. -/
def shaBlock (h w : List Dword) : List Dword :=
  List.zipWith (· + ·) h ((shaK.zip (shaExtend 64 w.reverse).reverse).foldl shaRound h)
/-- A big-endian number from bytes. -/
def beNat (bs : List Byte) : Nat := bs.foldl (fun n b => n * 256 + b.toNat) 0
/-- The n bytes of a number, big-endian. -/
def beBytes (n x : Nat) : List Byte := ((List.range n).map (fun i => BitVec.ofNat 8 (x / 256 ^ i))).reverse
/-- The blocks of a padded message, n of them. -/
def shaBlocks : Nat → List Byte → List Dword → List Dword
  | 0, _, h => h
  | n + 1, bs, h =>
    shaBlocks n (bs.drop 128) (shaBlock h ((List.range 16).map (fun i => BitVec.ofNat 64 (beNat ((bs.drop (8 * i)).take 8)))))
/-- SHA-512 of a message, as the 512-bit number that its digest is in big-endian order. -/
def sha512 (m : List Byte) : BitVec 512 :=
  let p := m ++ 0x80#8 :: List.replicate ((239 - m.length % 128) % 128) 0 ++ beBytes 16 (8 * m.length)
  BitVec.ofNat 512 ((shaBlocks (p.length / 128) p shaInit).foldl (fun n x => n * 2 ^ 64 + x.toNat) 0)
/-- The 64 bytes of a digest. -/
def digestBytes (d : BitVec 512) : List Byte := beBytes 64 d.toNat

/-! ## RSASSA-PSS over SHA-512 -/

/-- b ^ e mod n, by the bits of e. -/
def powMod (n : Nat) : Nat → Nat → Nat → Nat
  | 0, _, _ => 1 % n
  | k + 1, b, e => (if e.testBit 0 then b % n else 1) * powMod n k (b * b % n) (e / 2) % n
/-- MGF1 with SHA-512: the first 447 bytes, as a big-endian number. -/
def mgf447 (seed : BitVec 512) : Nat :=
  ((List.range 7).foldl (fun n i => n * 2 ^ 512 + (sha512 (digestBytes seed ++ beBytes 4 i)).toNat) 0) / 256
/-- Verification with a 4096-bit key and a 64-byte salt. -/
def pssVerify (n e sig : Nat) (m : List Byte) : Bool :=
  let em := powMod n 32 sig e
  let h := BitVec.ofNat 512 (em / 256)
  let masked := em / 2 ^ 520
  let db := (masked ^^^ mgf447 h) % 2 ^ 3575
  decide (sig < n ∧ em % 256 = 0xBC ∧ masked < 2 ^ 3575 ∧ db / 2 ^ 512 = 1) &&
    sha512 (List.replicate 8 0 ++ digestBytes (sha512 m) ++ beBytes 64 (db % 2 ^ 512)) == h

/-! ## Firmware images -/

/-- Bytes of a slot of the flash. -/
def slotBytes (f : List Host.Cell) (o n : Nat) : List Byte := (List.range n).map (fun i => mread f (o + i))
/-- LENGTH. -/
def imageLen (f : List Host.Cell) : Nat := mreadN f 8 8
/-- VERSION. -/
def imageVersion (f : List Host.Cell) : Nat := mreadN f 4 4
/-- All that R401 asks of an image but its version. -/
def imageSound (fuses : Fuses) (f : List Host.Cell) : Bool :=
  decide (mreadN f 0 4 = 0x46584831 ∧ imageLen f % 64 = 0 ∧ imageLen f ≤ 0x180000 ∧ mreadN f 0x10 4 < 2 ∧
    mreadN f 0x14 44 = 0 ∧ mreadN f 0x444 12 = 0) &&
  sha512 (slotBytes f 0x40 516) == fuses.keyDigest &&
  pssVerify (beNat (slotBytes f 0x40 512)) (mreadN f 0x240 4) (beNat (slotBytes f 0x244 512))
    (slotBytes f 0 0x244 ++ slotBytes f 0x450 (imageLen f))
/-- VERSION is at least the fused minimum. -/
def imageNew (fuses : Fuses) (f : List Host.Cell) : Bool := decide (fuses.minVersion ≤ imageVersion f)
/-- An accepted image (R401). -/
def imageOk (fuses : Fuses) (f : List Host.Cell) : Bool := imageSound fuses f && imageNew fuses f

/-! ## Measurement -/

/-- A measurement register extended by a digest (R405). -/
def extendMreg (old d : BitVec 512) : BitVec 512 := sha512 (digestBytes old ++ digestBytes d)
/-- MREG(i) extended by the digest of some bytes. -/
def State.measure (s : State) (i : Nat) (m : List Byte) : State :=
  { s with boot := { s.boot with mreg := nput s.boot.mreg i (extendMreg (nget 0 s.boot.mreg i) (sha512 m)) } }

/-! ## Boot stages -/

/-- A firmware core. -/
def State.hart (s : State) (f : Nat) : Hart := nget Hart.reset s.harts f
/-- A firmware core replaced. -/
def State.setHart (s : State) (f : Nat) (h : Hart) : State := { s with harts := nput s.harts f h }
/-- A firmware core released from reset at an address. -/
def State.release (s : State) (f : Nat) (pc : Dword) : State := s.setHart f { Hart.reset with pc := pc, held := false }
/-- BOOTSTS set. -/
def State.enter (s : State) (stage fail : Nat) : State := { s with boot := { s.boot with stage := stage, fail := fail } }
/-- Stage 1: the boot ROM is measured and runs on FW0. -/
def State.stage1 (s : State) : State :=
  ((s.enter 1 0).measure 0 ((List.range 0x80000).map (mread s.rom))).release 0 0
/-- Stage 2: fuses are loaded and measured: injections (R74) and rails (R417). -/
def State.stage2Boot (s : State) : State :=
  let s := (s.enter 2 s.boot.fail).measure 1 s.fuses.image
  let s := (List.range 4).foldl (fun s d => s.setArcade d { s.arcade d with inj := (s.arcade d).bud * s.calf d / 64 }) s
  railIds.foldl (fun s r => s.setRail r { s.rail r with vmv := s.vfloor (r / 3), tgt := s.vfloor (r / 3) }) s
/-- Stage 3: HBM is trained and the tag store zeroed; a failure is shown and the boot stays. -/
def State.stage3 (s : State) : State :=
  if s.fuses.hbmOk then { s.enter 3 s.boot.fail with tags := [] } else s.enter 3 4
/-- Stage 4 with an accepted slot. -/
def State.acceptImage (s : State) (f : List Host.Cell) (fail : Nat) : State :=
  let body := slotBytes f 0x450 (imageLen f)
  let s := (s.enter 4 fail).measure 2 (slotBytes f 0 (0x450 + imageLen f))
  let s : State := { s with
    sram := (body.zipIdx).foldl (fun m b => mwrite m b.2 b.1) s.sram
    boot := { s.boot with fwver := imageVersion f % 2 ^ 16, mzreq := mreadN f 0x10 4 == 1 } }
  s.release 0 0x08000000
/-- Stage 4: slot A is checked, then slot B (R401-R403). -/
def State.stage4 (s : State) : State :=
  if imageOk s.fuses s.flashA then s.acceptImage s.flashA s.boot.fail
  else if imageOk s.fuses s.flashB then
    s.acceptImage s.flashB (if imageSound s.fuses s.flashA then 2 else s.boot.fail)
  else s.enter 15 1
/-- The lowest-numbered die that passed. -/
def lowDie (ok : BitVec 4) : Nat := ((List.range 4).find? (fun d => ok.getLsbD d)).getD 0
/-- Mezzanine service holds the scale-up ports in reset and the trims off, whatever came before (R43). -/
def State.mezzHold (s : State) : State :=
  { railIds.foldl (fun s r => s.changeTrim r 0) s with ports := 0, power := { s.power with trimEn := false } }
/-- Stage 5: self tests, service mode (R404), and the last measurements. -/
def State.stage5 (s : State) : State :=
  let ok := s.fuses.dieOk
  if ok = 0 then s.enter 15 3
  else
    let on := s.boot.mzreq || s.fuses.mez || ok != 0xF
    let mezz := if on then some (lowDie ok) else none
    let s := ((s.enter 5 s.boot.fail).measure 3 s.fuses.config).measure 4
      ((List.range 4).map (fun i => BitVec.ofNat 8 (mezcap mezz ok / 256 ^ i)))
    let s : State := { s with mezz := mezz, boot := { s.boot with dieOk := ok, capValid := true } }
    match mezz with
    | none => s
    | some d => ((List.range 5).foldl (fun s k => s.setCluster (5 * d + k) { s.cluster (5 * d + k) with cls := 3 }) s).mezzHold
/-- Stage 6: the host port trains, and FW1-FW3 are released. -/
def State.stage6 (s : State) : State :=
  [1, 2, 3].foldl (fun s f => s.release f 0x08000000) (s.enter 6 s.boot.fail)
/-- Stage 7: every register with a reset value holds it (R402). -/
def State.stage7 (s : State) : State :=
  ({ s with bar0 := [], msix := [], pba := [], finv := [] } : State).ownReset.enter 7 s.boot.fail
/-- BOOT_STAGE_COMPLETE (R402): the stage reached finishes and the next one begins. A boot whose HBM did not train stays, and the
host port must have trained before stage 7. -/
def execBootStageComplete (s : State) : Out :=
  match s.boot.stage with
  | 0 => .next s.stage1
  | 1 => .next s.stage2Boot
  | 2 => .next s.stage3
  | 3 => if s.boot.fail = 4 then .next s else .next s.stage4
  | 4 => .next s.stage5
  | 5 => .next s.stage6
  | 6 => if s.modules = 0 then .next s else .next s.stage7
  | _ => .next s
/-- DEVICE_RESET (R402): the machine as it is after reset, and stage 1 begins. Fuses, ROM, flash and HBM keep their contents; the
host's memory and the sensors lie outside the device. -/
def execDeviceReset (s : State) : Out :=
  let base : State := { State.reset with
    fuses := s.fuses, rom := s.rom, flashA := s.flashA, flashB := s.flashB, mem := s.mem, hostMem := s.hostMem
    iommuRefused := s.iommuRefused, free := s.free, epoch := s.epoch, schedule := s.schedule
    clusters := s.clusters.map (fun c => (c.1, { Cluster.reset with temp := c.2.temp })) }
  .next base.stage1

end Sys2Proof.Machine
end

