-- ==== Sys2Proof/Machine/Spdm.lean ====
section
/-! DEFINITION. The DOE mailbox of PF0 and the SPDM 1.3 responder of the root of trust (R398 ring 0, R406). Replies are given by
their content. The numbers of versions, requests, algorithms and error codes, and the order in which a connection opens, are those
of SPDM 1.3, which the spec names. -/

namespace Sys2Proof.Machine

/-- ERROR codes. -/
def spdmInvalid : Nat := 0x01
/-- UnexpectedRequest: a request out of the order in which a connection opens. -/
def spdmUnexpected : Nat := 0x04
/-- UnsupportedRequest. -/
def spdmUnsupported : Nat := 0x07
/-- An SPDM request reaches the mailbox: its fragments of 64 bytes join ring 0 (R398). The first begins with the version and the
request code; how the rest is packed, and how many fragments a long request has, are free values (log 140). -/
def State.doeArrives (s : State) (version code : Nat) (long : Bool) : State :=
  let first := BitVec.ofNat 512 (version % 256 + code % 256 * 256 + Config.freeNat s.free * 65536)
  let more := if long then Config.freeNat (s.free + 1) % 64 else 0
  let push (s : State) (_ : Nat) : State := { s with free := s.free + 1 }.hwPush 0 (BitVec.ofNat 512 (Config.freeNat s.free))
  (List.range more).foldl push ({ s with free := s.free + 2 }.hwPush 0 first)
/-- ONE REQUEST AT A TIME (R406): a request that finds a reply which the host has not read is not taken; whether the host has read
it is a free value. -/
def State.takes (s : State) : Bool := s.doe.isNone || Config.freeNat s.free % 2 == 1
/-- A request that is taken is answered, and the connection is where the answer leaves it. -/
def State.mail (s : State) (r : SpdmReply) (stage : SpdmStage) : State := { s with doe := some r, spdm := stage }
/-- An exchange of SPDM version 1.3 with a request of some code: another version is an invalid request, and one out of order an
unexpected one; else the answer and where it leaves the connection. -/
def State.exchange (s : State) (version code : Nat) (long : Bool) (at_ : SpdmStage → Bool) (answer : State → SpdmReply × SpdmStage) :
    State :=
  if !s.takes then { s with free := s.free + 1 }
  else
    let s := ({ s with free := s.free + 1 } : State).doeArrives version code long
    if version ≠ 0x13 then s.mail (.error spdmInvalid) s.spdm
    else if !at_ s.spdm then s.mail (.error spdmUnexpected) s.spdm
    else s.mail (answer s).1 (answer s).2
/-- DOE_DISCOVERY (R406): the mailbox supports DOE Discovery (0) and CMA/SPDM (1). -/
def execDoeDiscovery (index : Nat) (s : State) : Out :=
  if !s.takes then .next { s with free := s.free + 1 }
  else .next (({ s with free := s.free + 1 } : State).mail (if index < 2 then .discovery [index] else .discovery []) s.spdm)
/-- GET_VERSION (R406): 1.3 only; the request itself carries version 1.0. It opens the connection afresh. -/
def execGetVersion (version : Nat) (s : State) : Out :=
  if !s.takes then .next { s with free := s.free + 1 }
  else
    let s := ({ s with free := s.free + 1 } : State).doeArrives version 0x84 false
    .next (if version = 0x10 then s.mail (.version [0x13]) .version else s.mail (.error spdmInvalid) s.spdm)
/-- GET_CAPABILITIES (R406). -/
def execGetCapabilities (version : Nat) (s : State) : Out :=
  .next (s.exchange version 0xE1 false (· == .version) (fun _ => (.capabilities true true true false, .capabilities)))
/-- NEGOTIATE_ALGORITHMS (R406): RSAPSS 4096, SHA-512 and SHA-512 for measurements are chosen when they are offered; the connection
is open when all three are. -/
def execNegotiateAlgorithms (version : Nat) (asym hash meas : Bool) (s : State) : Out :=
  .next (s.exchange version 0xE3 true (· == .capabilities) (fun _ =>
    (.algorithms (if asym then 0x40 else 0) (if hash then 0x4 else 0) (if meas then 0x8 else 0),
      if asym && hash && meas then .ready else .capabilities)))
/-- A request of an open connection. -/
def State.openExchange (s : State) (version code : Nat) (answer : State → SpdmReply) : State :=
  s.exchange version code false (· == .ready) (fun s => (answer s, .ready))
/-- GET_DIGESTS (R406): slot 0 alone is provisioned. -/
def execGetDigests (version : Nat) (s : State) : Out :=
  .next (s.openExchange version 0x81 (fun s => .digests (sha512 s.fuses.chain)))
/-- The part of slot 0's chain that a request asks for. -/
def certPart (chain : List Byte) (off len : Nat) : SpdmReply :=
  let part := (chain.drop off).take len
  .certificate part (chain.length - off - part.length)
/-- GET_CERTIFICATE (R406). -/
def execGetCertificate (version slot off len : Nat) (s : State) : Out :=
  .next (s.openExchange version 0x82 (fun s =>
    if slot ≠ 0 ∨ s.fuses.chain.length ≤ off then .error spdmInvalid else certPart s.fuses.chain off len))
/-- Free values used up. -/
def State.useFree (s : State) (n : Nat) : State := { s with free := s.free + n }
/-- CHALLENGE (R406): the responder's nonce and the signature by the identity key are free values; so are whether the request asks
for a measurement summary hash, and that hash, whose input the spec does not lay out (log 140). -/
def execChallenge (version slot : Nat) (_nonce : BitVec 256) (s : State) : Out :=
  let s1 := s.openExchange version 0x83 (fun s =>
    if slot ≠ 0 then .error spdmInvalid
    else .challenge (BitVec.ofNat 256 (Config.freeNat s.free)) (sha512 s.fuses.chain)
      (if Config.freeNat (s.free + 1) % 2 = 0 then none else some (BitVec.ofNat 512 (Config.freeNat (s.free + 2))))
      (Config.freeNat (s.free + 3)))
  .next (s1.useFree 4)
/-- GET_MEASUREMENTS (R405, R406): block n holds MREG(n − 1), n = 1–5. -/
def execGetMeasurements (version index : Nat) (signed : Bool) (slot : Nat) (_nonce : BitVec 256) (s : State) : Out :=
  let s1 := s.openExchange version 0xE0 (fun s =>
    if index = 0 ∨ 5 < index ∨ (signed = true ∧ slot ≠ 0) then .error spdmInvalid
    else .measurements [(index, nget 0 s.boot.mreg (index - 1))] (if signed then some (Config.freeNat s.free) else none))
  .next (s1.useFree 1)
/-- SPDM_UNSUPPORTED_REQUEST (R406). -/
def execSpdmUnsupportedRequest (version code : Nat) (s : State) : Out :=
  .next (s.exchange version code true (fun _ => true) (fun s => (.error spdmUnsupported, s.spdm)))
/-- DOE_ABORT (R406): the exchange in progress is discarded. -/
def execDoeAbort (s : State) : Out := .next { s with doe := none }

end Sys2Proof.Machine
end

