-- ==== Sys2Proof/Machine/Firmware.lean ====
section
/-! DEFINITION. The firmware cores (R394): their registers, traps and address space, and the Xhall words (R395-R400). Traps, control
registers and PMP are those of the RISC-V privileged specification, which R394 names, with machine and user modes. -/

namespace Sys2Proof.Machine

/-! ## Registers and control registers -/

/-- x0-x31; x0 reads 0. -/
def Hart.reg (h : Hart) (i : Nat) : Dword := if i = 0 then 0 else nget 0 h.x i
/-- A write of x0 is discarded. -/
def Hart.setReg (h : Hart) (i : Nat) (v : Dword) : Hart := if i = 0 then h else { h with x := nput h.x i v }
/-- A control and status register as stored. -/
def Hart.getCsr (h : Hart) (c : Nat) : Dword := nget 0 h.csr c
/-- A control and status register stored. -/
def Hart.setCsr (h : Hart) (c : Nat) (v : Dword) : Hart := { h with csr := nput h.csr c v }
/-- A field of mstatus. -/
def Hart.status (h : Hart) (lo n : Nat) : Nat := (h.getCsr 0x300).toNat / 2 ^ lo % 2 ^ n
/-- A word with one field replaced. -/
def putField (x : Dword) (lo n v : Nat) : Dword :=
  (x &&& ~~~(BitVec.ofNat 64 ((2 ^ n - 1) * 2 ^ lo))) ||| BitVec.ofNat 64 (v % 2 ^ n * 2 ^ lo)
/-- A field of mstatus replaced. -/
def Hart.setStatus (h : Hart) (lo n v : Nat) : Hart := h.setCsr 0x300 (putField (h.getCsr 0x300) lo n v)

/-! ## Traps -/

/-- A trap into machine mode: mepc, mcause, mtval, the mode stack of mstatus, and the pc from mtvec. -/
def Hart.trap (h : Hart) (irq : Bool) (cause : Nat) (tval : Dword) : Hart :=
  let st := putField (putField (putField (h.getCsr 0x300) 7 1 (h.status 3 1)) 3 1 0) 11 2 (if h.user then 0 else 3)
  let base := (h.getCsr 0x305).toNat / 4 * 4
  let vectored := irq && (h.getCsr 0x305).getLsbD 0
  let csr := nput (nput (nput (nput h.csr 0x341 (putField h.pc 0 1 0)) 0x342
    (BitVec.ofNat 64 (cause + irq.toNat * 2 ^ 63))) 0x343 tval) 0x300 st
  { h with csr := csr, user := false, pc := BitVec.ofNat 64 (base + if vectored then 4 * cause else 0) }
/-- The return from a trap: the mode and the interrupt enable come back from mstatus. -/
def Hart.mret (h : Hart) : Hart :=
  let mpp := h.status 11 2
  let st := putField (putField (putField (h.getCsr 0x300) 3 1 (h.status 7 1)) 7 1 1) 11 2 0
  let st := if mpp = 3 then st else putField st 17 1 0
  { h with csr := nput h.csr 0x300 st, user := mpp != 3, pc := putField (h.getCsr 0x341) 0 1 0 }
/-- A trap of a core. -/
def State.hartTrap (s : State) (f cause : Nat) (tval : Dword) : State := s.setHart f ((s.hart f).trap false cause tval)
/-- An instruction retires: the pc goes on, minstret counts it, and mcycle moves by a number of cycles that is free. -/
def State.retire (s : State) (f : Nat) (h : Hart) (pc : Dword) : State :=
  let inh := (h.getCsr 0x320).toNat
  let h := if inh.testBit 2 then h else h.setCsr 0xB02 (h.getCsr 0xB02 + 1)
  let h := if inh.testBit 0 then h else h.setCsr 0xB00 (h.getCsr 0xB00 + 1 + BitVec.ofNat 64 (Config.freeNat s.free))
  { s with free := s.free + 1 }.setHart f { h with pc := pc }

/-! ## Physical memory protection -/

/-- The bytes of PMP entry `i`, as first byte and bound; none when the entry is off. -/
def Hart.pmpRange (h : Hart) (i : Nat) : Option (Nat × Nat) :=
  let cfg := (h.getCsr (0x3A0 + i / 8 * 2)).toNat / 2 ^ (8 * (i % 8)) % 256
  let a := (h.getCsr (0x3B0 + i)).toNat
  match cfg / 8 % 4 with
  | 0 => none
  | 1 => some ((if i = 0 then 0 else (h.getCsr (0x3B0 + i - 1)).toNat * 4), a * 4)
  | 2 => some (a * 4, a * 4 + 4)
  | _ =>
    let k := ((List.range 54).find? (fun j => !a.testBit j)).getD 54
    some (a / 2 ^ (k + 1) * 2 ^ (k + 3), (a / 2 ^ (k + 1) + 1) * 2 ^ (k + 3))
/-- An access of `n` bytes passes the PMP, an empty entry of which matches nothing; `bit` is 0 for a read, 1 for a write, 2 for a fetch. -/
def Hart.pmpOk (h : Hart) (user : Bool) (a n bit : Nat) : Bool :=
  let hit := (List.range 16).find? (fun i => (h.pmpRange i).any (fun r => decide (r.1 < r.2 ∧ a < r.2 ∧ r.1 < a + n)))
  match hit with
  | none => !user
  | some i =>
    let cfg := (h.getCsr (0x3A0 + i / 8 * 2)).toNat / 2 ^ (8 * (i % 8)) % 256
    let all := (h.pmpRange i).any (fun r => decide (r.1 ≤ a ∧ a + n ≤ r.2))
    all && (cfg.testBit bit || (!user && !cfg.testBit 7))
/-- The mode that loads and stores act in (MPRV). -/
def Hart.dataUser (h : Hart) : Bool := if h.user then true else h.status 17 1 == 1 && h.status 11 2 != 3

/-! ## The address space (R394) -/

/-- Where a firmware PA leads, with the offset there. -/
inductive FwTarget where
  | rom (o : Nat)
  | sram (o : Nat)
  | atrium (o : Nat)
  | regs (o : Nat)
  | mem (pa : Nat)
  | tag (pa : Nat)
deriving DecidableEq, Repr
/-- The target of an address; none for an address outside the map. -/
def fwTarget (a : Nat) : Option FwTarget :=
  if a < 0x80000 then some (.rom a)
  else if 0x08000000 ≤ a ∧ a < 0x08200000 then some (.sram (a - 0x08000000))
  else if 0x10000000 ≤ a ∧ a < 0x10140000 then some (.atrium (a - 0x10000000))
  else if 0x20000000 ≤ a ∧ a < 0x30000000 then some (.regs (a - 0x20000000))
  else if 2 ^ 40 ≤ a ∧ isHbm (a - 2 ^ 40) = true then some (.mem (a - 2 ^ 40))
  else if 2 ^ 40 ≤ a ∧ a < 2 ^ 40 + 2 ^ 39 then some (.tag (a - 2 ^ 40))
  else none
/-- What a firmware access gives. -/
inductive FwAns where
  /-- The bytes, and the machine after the access. -/
  | ok (x : Nat) (s : State)
  /-- The access-fault exception of its kind. -/
  | denied
  /-- The home cannot serve it now. -/
  | wait (s : State)
  /-- A device register that the spec does not describe. -/
  | stop
/-- A 32-bit register of chapter 20 at an offset of the register window (chapter 20: 0x2100_0000 plus the BAR0 offset). -/
def State.fwReg (s : State) (o : Nat) : Option Nat := if o < 0x1000000 then none else s.fleetWord (o - 0x1000000)
/-- One word of the register window read; a register that the spec does not describe gives a free value (log 113). -/
def State.fwWordRead (s : State) (o : Nat) : Nat × State :=
  match s.fwReg o with
  | none => (Config.freeNat s.free % 2 ^ 32, { s with free := s.free + 1 })
  | some x => (x, s.afterFleetRead (o - 0x1000000))
/-- A read of registers: 8 bytes are two words, fewer than 4 a part of one. -/
def State.fwRegRead (s : State) (o n : Nat) : FwAns :=
  let lo := s.fwWordRead (o / 4 * 4)
  if n < 8 then .ok (lo.1 / 2 ^ (8 * (o % 4)) % 2 ^ (8 * n)) lo.2
  else
    let hi := lo.2.fwWordRead (o + 4)
    .ok (lo.1 + hi.1 * 2 ^ 32) hi.2
/-- Fields of a chapter 20 register that a write of other bytes of it leaves alone by being written with 0: DEN and EMG (W1C). -/
def fleetW1c (o : Nat) : Nat :=
  if 0x3100 ≤ o ∧ o < 0x3240 then (if o % 0x10 = 4 then 2 ^ 7 else if o % 0x10 = 0xC then 2 ^ 9 else 0) else 0
/-- One word of the register window written, or `n` bytes of it: its other bytes keep their fields (log 113). None at a register that
the spec does not describe. -/
def State.fwWordWrite (s : State) (o n x : Nat) : Option State :=
  let w := o / 4 * 4
  (s.fwReg w).map (fun old =>
    let sh := 8 * (o % 4)
    let m := (2 ^ (8 * n) - 1) * 2 ^ sh
    let keep := old &&& (0xFFFFFFFF - fleetW1c (w - 0x1000000)) &&& (0xFFFFFFFF - m)
    s.putFleet (BitVec.ofNat 64 (keep + x % 2 ^ (8 * n) * 2 ^ sh)) (w - 0x1000000))
/-- A write of registers. What a register that the spec does not describe does with a write is not stated: the machine stops. -/
def State.fwRegWrite (s : State) (o n x : Nat) : FwAns :=
  match (if n < 8 then s.fwWordWrite o n x else (s.fwWordWrite o 4 x).bind (fun s1 => s1.fwWordWrite (o + 4) 4 (x / 2 ^ 32))) with
  | some s1 => .ok 0 s1
  | none => .stop
/-- The line whose tag halfword holds a byte of the tag store (R126); none in the unused rest of the region. -/
def tagLine (pa : Nat) : Option Nat :=
  let r := pa % 2 ^ 36 - 0xF80000000
  if r < 0x7C000000 then some (pa / 2 ^ 36 * 2 ^ 36 + r / 2 * 64) else none
/-- Bytes of the tag store (R126); the unused rest reads as a free value (log 139). -/
def State.fwTagRead (s : State) (ag : Agent) (pa n : Nat) : FwAns :=
  match tagLine pa with
  | none => .ok (Config.freeNat s.free % 2 ^ (8 * n)) { s with free := s.free + 1 }
  | some line =>
    match s.places ag [line] with
    | .wait s => .wait s
    | .ok s => .ok (((List.range n).map (fun i =>
      (s.tagOf (line + (pa % 2 + i) / 2 * 64)).toNat / 2 ^ (8 * ((pa + i) % 2)) % 256 * 2 ^ (8 * i))).sum) s
/-- The agent of the instruction that a firmware core runs: it keeps its places in the queues of homes until the pc moves on (R115). -/
def State.fwAgent (s : State) (f : Nat) (h : Hart) : Agent := s.senderAgent (.hart f h.pc.toNat)
/-- A naturally aligned read of `n` bytes. -/
def State.fwRead (s : State) (ag : Agent) (a n : Nat) : FwAns :=
  match fwTarget a with
  | none => .denied
  | some (.rom o) => .ok (mreadN s.rom o n) s
  | some (.sram o) => .ok (mreadN s.sram o n) s
  | some (.atrium o) => if s.atriumBad.contains (o / 8) then .denied else .ok (mreadN s.atrium o n) s
  | some (.regs o) => s.fwRegRead o n
  | some (.mem pa) =>
    if s.poisoned pa then .denied
    else match s.places ag [pa] with
    | .wait s => .wait s
    | .ok s => .ok (s.pread pa n) s
  | some (.tag pa) => s.fwTagRead ag pa n
/-- A naturally aligned write of `n` bytes; device memory is written at its home with RT = 0 (R127), and the tag store, whose fields
are RO, ignores it (R9, R125). -/
def State.fwWrite (s : State) (ag : Agent) (a n x : Nat) : FwAns :=
  match fwTarget a with
  | none => .denied
  | some (.rom _) => .denied
  | some (.sram o) => .ok 0 ({ s with sram := mwriteN s.sram o n x }.dropHarts a n)
  | some (.atrium o) => .ok 0 (s.atriumWrite o n x)
  | some (.regs o) => s.fwRegWrite o n x
  | some (.mem pa) =>
    if s.poisoned pa then .denied
    else match s.writePlaces ag [pa] pa n with
    | .wait s => .wait s
    | .ok s => .ok 0 (s.pwrite pa n x false none)
  | some (.tag _) => .ok 0 s
/-- The firmware address of an Atrium byte, as an offset of State.atrium. -/
def atriumOff (a : Nat) : Option Nat := match fwTarget a with | some (.atrium o) => some o | _ => none

/-! ## Xhall (R395-R400) -/

/-- The core that executes. -/
def State.ch (s : State) : Hart := s.hart s.cur.unit
/-- An Xhall word of funct3 `i` fails with reason `r` (R396). -/
def State.xhallFail (s : State) (i r : Nat) : Out := .next (s.hartTrap s.cur.unit (24 + i) (BitVec.ofNat 64 (0x160 + 8 * i + r)))
/-- An Xhall word is done: rd, and the next word. -/
def State.xhallDone (s : State) (d : BitVec 5) (v : Dword) : Out :=
  .next (s.retire s.cur.unit (s.ch.setReg d.toNat v) (s.ch.pc + 4))
/-- `bfx` (R397). -/
def execXhallBfx (b a d : BitVec 5) (s : State) : Out :=
  let x := (s.ch.reg b.toNat).toNat
  let pos := x % 64
  let len := x / 64 % 128
  if x / 2 ^ 13 ≠ 0 then s.xhallFail 1 2
  else if 64 < len then s.xhallFail 1 0
  else if 64 < pos + len then s.xhallFail 1 1
  else s.xhallDone d (BitVec.ofNat 64 ((s.ch.reg a.toNat).toNat / 2 ^ pos % 2 ^ len))
/-- A 64-byte destination that `rfetch` may not write (R353, R398). -/
def rfetchBarred (a : Nat) : Bool :=
  match atriumOff a with
  | none => true
  | some o => decide (o < 0x100000 ∧ o % 0x40000 < 0x30000)
/-- `rfetch` (R398). -/
def execRfetch (b a d : BitVec 5) (s : State) : Out :=
  let ring := (s.ch.reg a.toNat).toNat
  let dst := (s.ch.reg b.toNat).toNat
  let l := nget [] s.hwRings ring
  if 3 < ring then s.xhallFail 0 0
  else if dst % 64 ≠ 0 then s.xhallFail 0 1
  else if rfetchBarred dst then s.xhallFail 0 2
  else match l with
    | [] => s.xhallDone d 0
    | e :: rest =>
      let s1 : State := { s with hwRings := nput s.hwRings ring rest }
      if e.2 then s1.xhallFail 0 3
      else if !s.ch.pmpOk s.ch.dataUser dst 64 1 then .next (s.hartTrap s.cur.unit 7 (BitVec.ofNat 64 dst))
      else (s1.atriumWrite (dst - 0x10000000) 64 e.1.toNat).xhallDone d (BitVec.ofNat 64 l.length)
/-- An interrupt enabled in mie is pending. -/
def Hart.irqDue (h : Hart) : Bool := h.getCsr 0x344 &&& h.getCsr 0x304 != 0
/-- `swait` (R399): while the word holds the value, the core reads it again in its next turn. -/
def execSwait (b a d : BitVec 5) (s : State) : Out :=
  let va := (s.ch.reg a.toNat).toNat
  let want := s.ch.reg b.toNat
  if va % 8 ≠ 0 then s.xhallFail 2 0
  else match atriumOff va with
    | none => s.xhallFail 2 1
    | some o =>
      if !s.ch.pmpOk s.ch.dataUser va 8 0 then .next (s.hartTrap s.cur.unit 5 (BitVec.ofNat 64 va))
      else if s.atriumBad.contains (o / 8) then s.xhallFail 2 2
      else
        let v : Dword := BitVec.ofNat 64 (mreadN s.atrium o 8)
        if v ≠ want then s.xhallDone d v
        else if s.ch.irqDue then s.xhallDone d want
        else .next s
/-- The 64 bytes of a `disp` command; none outside firmware SRAM and the Atrium. -/
def State.dispCommand (s : State) (a : Nat) : Option Nat :=
  match fwTarget a with
  | some (.sram o) => some (mreadN s.sram o 64)
  | some (.atrium o) => some (mreadN s.atrium o 64)
  | _ => none
/-- `disp` (R400): rd is 0 when the command acted, 1 when nothing live matched. -/
def execDisp (a d : BitVec 5) (s : State) : Out :=
  let va := (s.ch.reg a.toNat).toNat
  match (if va % 64 = 0 then s.dispCommand va else none) with
  | none => s.xhallFail 3 0
  | some c =>
    let op := c % 2 ^ 32
    let grid := BitVec.ofNat 32 (c / 2 ^ 32)
    let team := c / 2 ^ 64 % 2 ^ 32
    if !s.ch.pmpOk s.ch.dataUser va 64 0 then .next (s.hartTrap s.cur.unit 5 (BitVec.ofNat 64 va))
    else if (op ≠ 1 ∧ op ≠ 2) ∨ c / 2 ^ 96 ≠ 0 then s.xhallFail 3 1
    else match (if op = 1 then s.abortTeam grid team else s.abortGrid grid) with
      | some s1 => s1.xhallDone d 0
      | none => s.xhallDone d 1

end Sys2Proof.Machine
end

