-- ==== Sys2Proof/Machine/PolicyWords.lean ====
section
/-! DEFINITION. A word of a Muovo routine with its effect: what decodeMuovo and exec give, read off the word. -/

namespace Sys2Proof.Machine

/-- An effect, where the fixed bits of a word hold their values. -/
def whenFixed (ok : Bool) (o : Out) : Option Out := if ok then some o else none

/-- A word of a Muovo routine (R356) with its effect on the engine `s.cur.unit`; none when it is no such word. -/
def runMuovo (w : Word) (s : State) : Option Out :=
  let v := w
  match (fld w 26 6).toNat with
  | 0 => whenFixed (decide (0x00000000#32 = v)) (execMuovoNop s)
  | 1 => whenFixed (decide (wordMuovoLi 0x04000000 (fld w 22 4) (fld w 0 18) = v)) (execMuovoLi (fld w 22 4) (fld w 0 18) s)
  | 2 => whenFixed (decide (wordMuovoMov 0x08000000 (fld w 22 4) (fld w 18 4) = v)) (execMuovoMov (fld w 22 4) (fld w 18 4) s)
  | 3 => whenFixed (decide (wordMuovo3 0x0C000000 (fld w 22 4) (fld w 18 4) (fld w 14 4) = v)) (execMuovoAdd (fld w 22 4) (fld w 18 4) (fld w 14 4) s)
  | 4 => whenFixed (decide (wordMuovo3 0x10000000 (fld w 22 4) (fld w 18 4) (fld w 14 4) = v)) (execMuovoSub (fld w 22 4) (fld w 18 4) (fld w 14 4) s)
  | 5 => whenFixed (decide (wordMuovo3 0x14000000 (fld w 22 4) (fld w 18 4) (fld w 14 4) = v)) (execMuovoMul (fld w 22 4) (fld w 18 4) (fld w 14 4) s)
  | 6 => whenFixed (decide (wordMuovo3 0x18000000 (fld w 22 4) (fld w 18 4) (fld w 14 4) = v)) (execMuovoAnd (fld w 22 4) (fld w 18 4) (fld w 14 4) s)
  | 7 => whenFixed (decide (wordMuovo3 0x1C000000 (fld w 22 4) (fld w 18 4) (fld w 14 4) = v)) (execMuovoOr (fld w 22 4) (fld w 18 4) (fld w 14 4) s)
  | 8 => whenFixed (decide (wordMuovo3 0x20000000 (fld w 22 4) (fld w 18 4) (fld w 14 4) = v)) (execMuovoXor (fld w 22 4) (fld w 18 4) (fld w 14 4) s)
  | 9 => whenFixed (decide (wordMuovo3 0x24000000 (fld w 22 4) (fld w 18 4) (fld w 14 4) = v)) (execMuovoShl (fld w 22 4) (fld w 18 4) (fld w 14 4) s)
  | 10 => whenFixed (decide (wordMuovo3 0x28000000 (fld w 22 4) (fld w 18 4) (fld w 14 4) = v)) (execMuovoShr (fld w 22 4) (fld w 18 4) (fld w 14 4) s)
  | 11 => whenFixed (decide (wordMuovo3 0x2C000000 (fld w 22 4) (fld w 18 4) (fld w 14 4) = v)) (execMuovoMin (fld w 22 4) (fld w 18 4) (fld w 14 4) s)
  | 12 => whenFixed (decide (wordMuovo3 0x30000000 (fld w 22 4) (fld w 18 4) (fld w 14 4) = v)) (execMuovoMax (fld w 22 4) (fld w 18 4) (fld w 14 4) s)
  | 13 => whenFixed (decide (wordMuovo3 0x34000000 (fld w 22 4) (fld w 18 4) (fld w 14 4) = v)) (execMuovoSlt (fld w 22 4) (fld w 18 4) (fld w 14 4) s)
  | 14 => whenFixed (decide (wordMuovo3 0x38000000 (fld w 22 4) (fld w 18 4) (fld w 14 4) = v)) (execMuovoSle (fld w 22 4) (fld w 18 4) (fld w 14 4) s)
  | 15 => whenFixed (decide (wordMuovo3 0x3C000000 (fld w 22 4) (fld w 18 4) (fld w 14 4) = v)) (execMuovoSeq (fld w 22 4) (fld w 18 4) (fld w 14 4) s)
  | 16 => whenFixed (decide (wordMuovo3 0x40000000 (fld w 22 4) (fld w 18 4) (fld w 14 4) = v)) (execMuovoSel (fld w 22 4) (fld w 18 4) (fld w 14 4) s)
  | 17 => whenFixed (decide (wordMuovoAddi 0x44000000 (fld w 22 4) (fld w 18 4) (fld w 0 18) = v)) (execMuovoAddi (fld w 22 4) (fld w 18 4) (fld w 0 18) s)
  | 18 => whenFixed (decide (wordMuovoLi 0x48000000 (fld w 22 4) (fld w 0 18) = v)) (execMuovoLdc (fld w 22 4) (fld w 0 18) s)
  | 19 => whenFixed (decide (wordMuovoLda 0x4C000000 (fld w 22 4) (fld w 18 4) (fld w 17 1) (fld w 0 17) = v)) (execMuovoLda (fld w 22 4) (fld w 18 4) (fld w 17 1) (fld w 0 17) s)
  | 20 => whenFixed (decide (wordMuovoLda 0x50000000 (fld w 22 4) (fld w 18 4) (fld w 17 1) (fld w 0 17) = v)) (execMuovoSta (fld w 22 4) (fld w 18 4) (fld w 17 1) (fld w 0 17) s)
  | 21 => whenFixed (decide (wordMuovoLdp 0x54000000 (fld w 22 4) (fld w 18 4) (fld w 0 8) = v)) (execMuovoLdp (fld w 22 4) (fld w 18 4) (fld w 0 8) s)
  | 22 => whenFixed (decide (wordMuovoStdec 0x58000000 (fld w 18 4) (fld w 0 18) = v)) (execMuovoStdec (fld w 18 4) (fld w 0 18) s)
  | 23 => whenFixed (decide (wordMuovoBf 0x5C000000 (fld w 18 4) (fld w 0 18) = v)) (execMuovoBf (fld w 18 4) (fld w 0 18) s)
  | 24 => whenFixed (decide (wordMuovoBf 0x60000000 (fld w 18 4) (fld w 0 18) = v)) (execMuovoBt (fld w 18 4) (fld w 0 18) s)
  | 25 => whenFixed (decide (wordMuovoJf 0x64000000 (fld w 0 18) = v)) (execMuovoJf (fld w 0 18) s)
  | 26 => whenFixed (decide (wordMuovoLoop 0x68000000 (fld w 8 8) (fld w 0 8) = v)) (execMuovoLoop (fld w 8 8) (fld w 0 8) s)
  | 27 => whenFixed (decide (0x6C000000#32 = v)) (execMuovoRet s)
  | _ => none

end Sys2Proof.Machine
end

