-- ==== Sys2Proof/Machine/FirmwareWords.lean ====
section
/-! DEFINITION. A word of the Xhall extension with its effect: what decodeXhall and exec give, read off the word. -/

namespace Sys2Proof.Machine

/-- An Xhall word (R395) with its effect on the core `s.cur.unit`; none for any other word. -/
def runXhall (w : Word) (s : State) : Option Out :=
  let v := w
  match (fld w 12 3).toNat with
  | 0 => whenFixed (decide (wordRfetch 0x0000000B (fld w 20 5) (fld w 15 5) (fld w 7 5) = v)) (execRfetch (fld w 20 5) (fld w 15 5) (fld w 7 5) s)
  | 1 => whenFixed (decide (wordRfetch 0x0000100B (fld w 20 5) (fld w 15 5) (fld w 7 5) = v)) (execXhallBfx (fld w 20 5) (fld w 15 5) (fld w 7 5) s)
  | 2 => whenFixed (decide (wordRfetch 0x0000200B (fld w 20 5) (fld w 15 5) (fld w 7 5) = v)) (execSwait (fld w 20 5) (fld w 15 5) (fld w 7 5) s)
  | 3 => whenFixed (decide (wordDisp 0x0000300B (fld w 15 5) (fld w 7 5) = v)) (execDisp (fld w 15 5) (fld w 7 5) s)
  | _ => none

end Sys2Proof.Machine
end

