-- ==== Sys2Proof/Machine/RvCompressed.lean ====
section
/-! DEFINITION. The C extension of the firmware cores (R394): every 16-bit instruction stands for one 32-bit instruction, as the
RISC-V unprivileged specification gives it for RV64. -/

namespace Sys2Proof.Machine

/-- Bits of a halfword. -/
def hb (h lo n : Nat) : Nat := h / 2 ^ lo % 2 ^ n
/-- A number of `n` bits taken as signed, modulo 2^32. -/
def hsext (n x : Nat) : Nat := if x / 2 ^ (n - 1) % 2 = 1 then x + 2 ^ 32 - 2 ^ n else x
/-- I-type word. -/
def rvI (op f3 rd rs1 imm : Nat) : Word :=
  BitVec.ofNat 32 (op + rd * 2 ^ 7 + f3 * 2 ^ 12 + rs1 * 2 ^ 15 + imm % 2 ^ 12 * 2 ^ 20)
/-- S-type word. -/
def rvS (op f3 rs1 rs2 imm : Nat) : Word :=
  BitVec.ofNat 32 (op + imm % 2 ^ 5 * 2 ^ 7 + f3 * 2 ^ 12 + rs1 * 2 ^ 15 + rs2 * 2 ^ 20 + imm / 2 ^ 5 % 2 ^ 7 * 2 ^ 25)
/-- R-type word. -/
def rvR (op f3 f7 rd rs1 rs2 : Nat) : Word :=
  BitVec.ofNat 32 (op + rd * 2 ^ 7 + f3 * 2 ^ 12 + rs1 * 2 ^ 15 + rs2 * 2 ^ 20 + f7 * 2 ^ 25)
/-- U-type word with the immediate's bits [31:12]. -/
def rvU (op rd imm : Nat) : Word := BitVec.ofNat 32 (op + rd * 2 ^ 7 + imm % 2 ^ 20 * 2 ^ 12)
/-- B-type word. -/
def rvB (f3 rs1 rs2 imm : Nat) : Word :=
  BitVec.ofNat 32 (0x63 + hb imm 11 1 * 2 ^ 7 + hb imm 1 4 * 2 ^ 8 + f3 * 2 ^ 12 + rs1 * 2 ^ 15 + rs2 * 2 ^ 20 +
    hb imm 5 6 * 2 ^ 25 + hb imm 12 1 * 2 ^ 31)
/-- J-type word. -/
def rvJ (rd imm : Nat) : Word :=
  BitVec.ofNat 32 (0x6F + rd * 2 ^ 7 + hb imm 12 8 * 2 ^ 12 + hb imm 11 1 * 2 ^ 20 + hb imm 1 10 * 2 ^ 21 + hb imm 20 1 * 2 ^ 31)
/-- Register of a 3-bit field. -/
def rc (h lo : Nat) : Nat := 8 + hb h lo 3
/-- Immediate of the CI form. -/
def immCI (h : Nat) : Nat := hsext 6 (hb h 2 5 + hb h 12 1 * 2 ^ 5)
/-- Offset of word and doubleword accesses by a 3-bit register. -/
def offW (h : Nat) : Nat := hb h 6 1 * 4 + hb h 10 3 * 8 + hb h 5 1 * 64
/-- Offset of doubleword accesses. -/
def offD (h : Nat) : Nat := hb h 10 3 * 8 + hb h 5 2 * 64
/-- Quadrant 0. -/
def expand0 (h : Nat) : Option Word :=
  match hb h 13 3 with
  | 0 =>
    let imm := hb h 6 1 * 4 + hb h 5 1 * 8 + hb h 11 2 * 16 + hb h 7 4 * 64
    if imm = 0 then none else some (rvI 0x13 0 (rc h 2) 2 imm)
  | 1 => some (rvI 0x07 3 (rc h 2) (rc h 7) (offD h))
  | 2 => some (rvI 0x03 2 (rc h 2) (rc h 7) (offW h))
  | 3 => some (rvI 0x03 3 (rc h 2) (rc h 7) (offD h))
  | 5 => some (rvS 0x27 3 (rc h 7) (rc h 2) (offD h))
  | 6 => some (rvS 0x23 2 (rc h 7) (rc h 2) (offW h))
  | 7 => some (rvS 0x23 3 (rc h 7) (rc h 2) (offD h))
  | _ => none
/-- The register-register forms of quadrant 1. -/
def expandAlu (h : Nat) : Option Word :=
  let d := rc h 7
  let sh := hb h 2 5 + hb h 12 1 * 32
  match hb h 10 2 with
  | 0 => some (rvI 0x13 5 d d sh)
  | 1 => some (rvI 0x13 5 d d (0x400 + sh))
  | 2 => some (rvI 0x13 7 d d (immCI h))
  | _ =>
    match hb h 12 1, hb h 5 2 with
    | 0, 0 => some (rvR 0x33 0 0x20 d d (rc h 2))
    | 0, 1 => some (rvR 0x33 4 0 d d (rc h 2))
    | 0, 2 => some (rvR 0x33 6 0 d d (rc h 2))
    | 0, _ => some (rvR 0x33 7 0 d d (rc h 2))
    | _, 0 => some (rvR 0x3B 0 0x20 d d (rc h 2))
    | _, 1 => some (rvR 0x3B 0 0 d d (rc h 2))
    | _, _ => none
/-- Quadrant 1. -/
def expand1 (h : Nat) : Option Word :=
  let d := hb h 7 5
  let j := hb h 3 3 * 2 + hb h 11 1 * 16 + hb h 2 1 * 32 + hb h 7 1 * 64 + hb h 6 1 * 128 + hb h 9 2 * 256 + hb h 8 1 * 1024 +
    hb h 12 1 * 2048
  let b := hb h 3 2 * 2 + hb h 10 2 * 8 + hb h 2 1 * 32 + hb h 5 2 * 64 + hb h 12 1 * 256
  match hb h 13 3 with
  | 0 => some (rvI 0x13 0 d d (immCI h))
  | 1 => if d = 0 then none else some (rvI 0x1B 0 d d (immCI h))
  | 2 => some (rvI 0x13 0 d 0 (immCI h))
  | 3 =>
    if d = 2 then
      let imm := hb h 6 1 * 16 + hb h 2 1 * 32 + hb h 5 1 * 64 + hb h 3 2 * 128 + hb h 12 1 * 512
      if imm = 0 then none else some (rvI 0x13 0 2 2 (hsext 10 imm))
    else if immCI h = 0 then none else some (rvU 0x37 d (immCI h))
  | 4 => expandAlu h
  | 5 => some (rvJ 0 (hsext 12 j))
  | 6 => some (rvB 0 (rc h 7) 0 (hsext 9 b))
  | _ => some (rvB 1 (rc h 7) 0 (hsext 9 b))
/-- Quadrant 2. -/
def expand2 (h : Nat) : Option Word :=
  let d := hb h 7 5
  let r := hb h 2 5
  let ld := hb h 5 2 * 8 + hb h 12 1 * 32 + hb h 2 3 * 64
  let lw := hb h 4 3 * 4 + hb h 12 1 * 32 + hb h 2 2 * 64
  let sd := hb h 10 3 * 8 + hb h 7 3 * 64
  let sw := hb h 9 4 * 4 + hb h 7 2 * 64
  match hb h 13 3 with
  | 0 => some (rvI 0x13 1 d d (r + hb h 12 1 * 32))
  | 1 => some (rvI 0x07 3 d 2 ld)
  | 2 => if d = 0 then none else some (rvI 0x03 2 d 2 lw)
  | 3 => if d = 0 then none else some (rvI 0x03 3 d 2 ld)
  | 4 =>
    if hb h 12 1 = 0 then
      if r = 0 then (if d = 0 then none else some (rvI 0x67 0 0 d 0)) else some (rvR 0x33 0 0 d 0 r)
    else if r = 0 then (if d = 0 then some 0x00100073#32 else some (rvI 0x67 0 1 d 0))
    else some (rvR 0x33 0 0 d d r)
  | 5 => some (rvS 0x27 3 2 r sd)
  | 6 => some (rvS 0x23 2 2 r sw)
  | _ => some (rvS 0x23 3 2 r sd)
/-- The 32-bit instruction that a 16-bit one stands for; none for an illegal one. -/
def expandC (h : Nat) : Option Word :=
  match h % 4 with
  | 0 => expand0 h
  | 1 => expand1 h
  | 2 => expand2 h
  | _ => none

end Sys2Proof.Machine
end

