-- ==== Sys2Proof/Machine/RvFloat.lean ====
section
/-! DEFINITION. The F and D arithmetic of the firmware cores (R394): values, one rounding and flags as the RISC-V unprivileged
specification gives them, on patterns of binary32 and binary64. Flags are fflags: NX 1, UF 2, OF 4, DZ 8, NV 16. -/

namespace Sys2Proof.Machine

/-- A rounding mode of RISC-V as the model numbers it: RDN is 3 and RUP is 2. -/
def rvMode (rm : Nat) : Nat := if rm = 2 then 3 else if rm = 3 then 2 else rm
/-- fflags from the machine's flags. -/
def rvFlags (fl : BitVec 8) : Nat :=
  (fl.getLsbD 4).toNat + (fl.getLsbD 3).toNat * 2 + (fl.getLsbD 2).toNat * 4 + (fl.getLsbD 1).toNat * 8 + (fl.getLsbD 0).toNat * 16
/-- A rounded value with its flags. -/
def rvRound (f : FFmt) (rm : Nat) (v : FVal) : Nat × Nat :=
  let r := roundVal f { rm := rvMode rm, fzi := false, fzo := false, seed := 0 } 0 v
  (r.1, rvFlags r.2)
/-- NV for a signalling NaN among the operands. -/
def rvSig (vs : List FVal) : Nat := if vs.any (fun v => v == .nan true) then 16 else 0
/-- A result that may be invalid. -/
def rvRes (f : FFmt) (rm : Nat) (vs : List FVal) (v : Option FVal) : Nat × Nat :=
  match v with
  | none => (f.nan, 16)
  | some v =>
    let r := rvRound f rm v
    (r.1, r.2 ||| rvSig vs)
/-- fadd. -/
def rvAdd (f : FFmt) (rm : Nat) (x y : FVal) : Nat × Nat := rvRes f rm [x, y] (addVal (rm == 2) x y)
/-- fsub. -/
def rvSub (f : FFmt) (rm : Nat) (x y : FVal) : Nat × Nat := rvRes f rm [x, y] (addVal (rm == 2) x y.negate)
/-- fmul. -/
def rvMul (f : FFmt) (rm : Nat) (x y : FVal) : Nat × Nat := rvRes f rm [x, y] (mulVal x y)
/-- fdiv. -/
def rvDiv (f : FFmt) (rm : Nat) (x y : FVal) : Nat × Nat :=
  match x, y with
  | .nan _, _ => (f.nan, rvSig [x, y])
  | _, .nan _ => (f.nan, rvSig [x, y])
  | .inf _, .inf _ => (f.nan, 16)
  | .inf s, .num t _ _ => (f.infPat (s != t), 0)
  | .num s _ _, .inf t => (f.zeroPat (s != t), 0)
  | .num s m e, .num t n g =>
    if n = 0 then (if m = 0 then (f.nan, 16) else (f.infPat (s != t), 8))
    else if m = 0 then (f.zeroPat (s != t), 0)
    else rvRound f rm (divNum (s != t) m n (e - g))
/-- fsqrt. -/
def rvSqrt (f : FFmt) (rm : Nat) (x : FVal) : Nat × Nat :=
  match x with
  | .nan _ => (f.nan, rvSig [x])
  | .inf s => if s then (f.nan, 16) else (f.infPat false, 0)
  | .num s m e => if m = 0 then (f.zeroPat s, 0) else if s then (f.nan, 16) else rvRound f rm (sqrtNum m e)
/-- fmadd and its kin: the product, its sign inverted for `np`, plus the addend, its sign inverted for `na`. -/
def rvFma (f : FFmt) (rm : Nat) (np na : Bool) (x y z : FVal) : Nat × Nat :=
  match mulVal x y with
  | none => (f.nan, 16)
  | some p => rvRes f rm [x, y, z] (addVal (rm == 2) (if np then p.negate else p) (if na then z.negate else z))
/-- fmin, or fmax: a number wins over a NaN, and −0 lies below +0. -/
def rvMinMax (f : FFmt) (mx : Bool) (a b : Nat) : Nat × Nat :=
  let x := valueOf f a
  let y := valueOf f b
  let fl := rvSig [x, y]
  if anyNaN [x] && anyNaN [y] then (f.nan, fl)
  else if anyNaN [x] then (b, fl)
  else if anyNaN [y] then (a, fl)
  else (if ltVal true x y == mx then b else a, fl)
/-- feq (2), flt (1) and fle (0). -/
def rvCmp (op : Nat) (x y : FVal) : Nat × Nat :=
  if anyNaN [x, y] then (0, if op = 2 then rvSig [x, y] else 16)
  else
    let lt := ltVal false x y
    let gt := ltVal false y x
    ((if op = 2 then !lt && !gt else if op = 1 then lt else !gt).toNat, 0)
/-- fclass. -/
def rvClass (f : FFmt) (a : Nat) : Nat :=
  let ex := (f.split a).2.1
  match valueOf f a with
  | .nan s => if s then 2 ^ 8 else 2 ^ 9
  | .inf s => if s then 2 ^ 0 else 2 ^ 7
  | .num s m _ =>
    if m = 0 then (if s then 2 ^ 3 else 2 ^ 4)
    else if ex = 0 then (if s then 2 ^ 2 else 2 ^ 5)
    else if s then 2 ^ 1 else 2 ^ 6
/-- A float to an integer type of `w` bits: out of range saturates with NV, and a NaN gives the greatest value. -/
def rvToInt (rm w : Nat) (signed : Bool) (x : FVal) : Int × Nat :=
  let lo : Int := if signed then -(2 ^ (w - 1)) else 0
  let hi : Int := if signed then 2 ^ (w - 1) - 1 else 2 ^ w - 1
  match x with
  | .nan _ => (hi, 16)
  | .inf s => (if s then lo else hi, 16)
  | .num s m e =>
    let r := roundInt (rvMode rm) 0 s m e
    if hi < r.1 then (hi, 16) else if r.1 < lo then (lo, 16) else (r.1, r.2.toNat)
/-- The pattern that a float register holds for a format; a binary32 that is not NaN-boxed reads as the canonical NaN. -/
def rvUnbox (f : FFmt) (x : Dword) : Nat :=
  if f = .f64 then x.toNat else if x.toNat / 2 ^ 32 = 2 ^ 32 - 1 then x.toNat % 2 ^ 32 else f.nan
/-- A pattern as a float register holds it. -/
def rvBox (f : FFmt) (x : Nat) : Dword :=
  if f = .f64 then BitVec.ofNat 64 x else BitVec.ofNat 64 (x % 2 ^ 32 + (2 ^ 32 - 1) * 2 ^ 32)

end Sys2Proof.Machine
end

