-- ==== Sys2Proof/Machine/Rv64.lean ====
section
/-! DEFINITION. The RV64GC instructions of the firmware cores (R394), as the RISC-V unprivileged and privileged specifications give
them: I, M, A, F, D, C, Zicsr and Zifencei, with machine and user modes. -/

namespace Sys2Proof.Machine

/-! ## Fields -/

/-- Bits of a word. -/
def rvf (w : Word) (lo n : Nat) : Nat := w.toNat / 2 ^ lo % 2 ^ n
/-- A number of `n` bits, sign-extended to 64. -/
def rvSext (n x : Nat) : Dword := (BitVec.ofNat n x).signExtend 64
/-- I immediate. -/
def rvImmI (w : Word) : Dword := rvSext 12 (rvf w 20 12)
/-- S immediate. -/
def rvImmS (w : Word) : Dword := rvSext 12 (rvf w 7 5 + rvf w 25 7 * 2 ^ 5)
/-- B immediate. -/
def rvImmB (w : Word) : Dword :=
  rvSext 13 (rvf w 8 4 * 2 + rvf w 25 6 * 2 ^ 5 + rvf w 7 1 * 2 ^ 11 + rvf w 31 1 * 2 ^ 12)
/-- U immediate. -/
def rvImmU (w : Word) : Dword := rvSext 32 (rvf w 12 20 * 2 ^ 12)
/-- J immediate. -/
def rvImmJ (w : Word) : Dword :=
  rvSext 21 (rvf w 21 10 * 2 + rvf w 20 1 * 2 ^ 11 + rvf w 12 8 * 2 ^ 12 + rvf w 31 1 * 2 ^ 20)

/-! ## What an instruction does -/

/-- The outcome of one instruction. -/
inductive Rv where
  /-- It retires: the core after it, and the next pc. -/
  | done (s : State) (h : Hart) (pc : Dword)
  /-- An exception: cause and mtval. -/
  | trap (cause : Nat) (tval : Dword)
  /-- A home cannot serve it now; it is tried again. -/
  | wait (s : State)
  /-- A device register that the spec does not describe. -/
  | stop

/-- An instruction in the hands of a core: the core number, the core, the word, the bits as fetched, and the pc after it. -/
structure RvCtx where
  /-- Core number. -/
  f : Nat
  /-- The core. -/
  h : Hart
  /-- The 32-bit instruction. -/
  w : Word
  /-- The bits as fetched. -/
  raw : Nat
  /-- pc of the next instruction in order. -/
  npc : Dword
/-- rd. -/
def RvCtx.rd (c : RvCtx) : Nat := rvf c.w 7 5
/-- The value of rs1. -/
def RvCtx.a (c : RvCtx) : Dword := c.h.reg (rvf c.w 15 5)
/-- The value of rs2. -/
def RvCtx.b (c : RvCtx) : Dword := c.h.reg (rvf c.w 20 5)
/-- funct3. -/
def RvCtx.f3 (c : RvCtx) : Nat := rvf c.w 12 3
/-- funct7. -/
def RvCtx.f7 (c : RvCtx) : Nat := rvf c.w 25 7
/-- rd written, and on to the next instruction. -/
def RvCtx.put (c : RvCtx) (s : State) (v : Dword) : Rv := .done s (c.h.setReg c.rd v) c.npc
/-- The illegal-instruction exception. -/
def RvCtx.illegal (c : RvCtx) : Rv := .trap 2 (BitVec.ofNat 64 c.raw)

/-! ## Integer arithmetic -/

/-- The 64-bit operations of OP and OP-IMM; `alt` is bit 30. -/
def rvAlu (f3 : Nat) (alt : Bool) (a b : Dword) : Dword :=
  match f3 with
  | 0 => if alt then a - b else a + b
  | 1 => a <<< (b.toNat % 64)
  | 2 => if a.slt b then 1 else 0
  | 3 => if a.ult b then 1 else 0
  | 4 => a ^^^ b
  | 5 => if alt then a.sshiftRight (b.toNat % 64) else a >>> (b.toNat % 64)
  | 6 => a ||| b
  | _ => a &&& b
/-- The 32-bit operations of OP-32 and OP-IMM-32, sign-extended. -/
def rvAluW (f3 : Nat) (alt : Bool) (a b : Dword) : Dword :=
  let x : BitVec 32 := a.setWidth 32
  let y : BitVec 32 := b.setWidth 32
  let r : BitVec 32 := match f3 with
    | 0 => if alt then x - y else x + y
    | 1 => x <<< (y.toNat % 32)
    | _ => if alt then x.sshiftRight (y.toNat % 32) else x >>> (y.toNat % 32)
  r.signExtend 64
/-- A quotient: by zero all ones, and the one overflow gives the dividend. -/
def rvQuot {n : Nat} (signed : Bool) (x y : BitVec n) : BitVec n :=
  if y = 0 then BitVec.allOnes n
  else if signed then BitVec.ofInt n (x.toInt.tdiv y.toInt) else BitVec.ofNat n (x.toNat / y.toNat)
/-- A remainder: by zero the dividend. -/
def rvRem {n : Nat} (signed : Bool) (x y : BitVec n) : BitVec n :=
  if y = 0 then x
  else if signed then BitVec.ofInt n (x.toInt.tmod y.toInt) else BitVec.ofNat n (x.toNat % y.toNat)
/-- The M extension on 64 bits. -/
def rvMulDiv (f3 : Nat) (a b : Dword) : Dword :=
  match f3 with
  | 0 => a * b
  | 1 => BitVec.ofInt 64 (a.toInt * b.toInt / 2 ^ 64)
  | 2 => BitVec.ofInt 64 (a.toInt * (b.toNat : Int) / 2 ^ 64)
  | 3 => BitVec.ofNat 64 (a.toNat * b.toNat / 2 ^ 64)
  | 4 => rvQuot true a b
  | 5 => rvQuot false a b
  | 6 => rvRem true a b
  | _ => rvRem false a b
/-- The M extension on 32 bits. -/
def rvMulDivW (f3 : Nat) (a b : Dword) : Dword :=
  let x : BitVec 32 := a.setWidth 32
  let y : BitVec 32 := b.setWidth 32
  let r : BitVec 32 := match f3 with
    | 0 => x * y
    | 4 => rvQuot true x y
    | 5 => rvQuot false x y
    | 6 => rvRem true x y
    | _ => rvRem false x y
  r.signExtend 64
/-- OP-IMM. -/
def RvCtx.opImm (c : RvCtx) (s : State) : Rv :=
  let hi := rvf c.w 26 6
  match c.f3 with
  | 1 => if hi = 0 then c.put s (rvAlu 1 false c.a (rvImmI c.w)) else c.illegal
  | 5 => if hi = 0 ∨ hi = 0x10 then c.put s (rvAlu 5 (hi == 0x10) c.a (rvImmI c.w)) else c.illegal
  | f3 => c.put s (rvAlu f3 false c.a (rvImmI c.w))
/-- OP-IMM-32. -/
def RvCtx.opImmW (c : RvCtx) (s : State) : Rv :=
  match c.f3 with
  | 0 => c.put s (rvAluW 0 false c.a (rvImmI c.w))
  | 1 => if c.f7 = 0 then c.put s (rvAluW 1 false c.a (rvImmI c.w)) else c.illegal
  | 5 => if c.f7 = 0 ∨ c.f7 = 0x20 then c.put s (rvAluW 5 (c.f7 == 0x20) c.a (rvImmI c.w)) else c.illegal
  | _ => c.illegal
/-- OP. -/
def RvCtx.op (c : RvCtx) (s : State) : Rv :=
  if c.f7 = 0 then c.put s (rvAlu c.f3 false c.a c.b)
  else if c.f7 = 0x20 ∧ (c.f3 = 0 ∨ c.f3 = 5) then c.put s (rvAlu c.f3 true c.a c.b)
  else if c.f7 = 1 then c.put s (rvMulDiv c.f3 c.a c.b)
  else c.illegal
/-- OP-32. -/
def RvCtx.opW (c : RvCtx) (s : State) : Rv :=
  if c.f7 = 0 ∧ (c.f3 = 0 ∨ c.f3 = 1 ∨ c.f3 = 5) then c.put s (rvAluW c.f3 false c.a c.b)
  else if c.f7 = 0x20 ∧ (c.f3 = 0 ∨ c.f3 = 5) then c.put s (rvAluW c.f3 true c.a c.b)
  else if c.f7 = 1 ∧ (c.f3 = 0 ∨ 4 ≤ c.f3) then c.put s (rvMulDivW c.f3 c.a c.b)
  else c.illegal

/-! ## Control transfer -/

/-- BRANCH. -/
def RvCtx.branch (c : RvCtx) (s : State) : Rv :=
  let go (t : Bool) : Rv := .done s c.h (if t then c.h.pc + rvImmB c.w else c.npc)
  match c.f3 with
  | 0 => go (c.a == c.b)
  | 1 => go (c.a != c.b)
  | 4 => go (c.a.slt c.b)
  | 5 => go (!c.a.slt c.b)
  | 6 => go (c.a.ult c.b)
  | 7 => go (!c.a.ult c.b)
  | _ => c.illegal
/-- JAL. -/
def RvCtx.jal (c : RvCtx) (s : State) : Rv := .done s (c.h.setReg c.rd c.npc) (c.h.pc + rvImmJ c.w)
/-- JALR. -/
def RvCtx.jalr (c : RvCtx) (s : State) : Rv :=
  if c.f3 = 0 then .done s (c.h.setReg c.rd c.npc) (putField (c.a + rvImmI c.w) 0 1 0) else c.illegal

/-! ## Loads, stores and atomics -/

/-- A checked read: alignment, PMP, then the target; exception causes `mis` and `acc`. -/
def RvCtx.read (c : RvCtx) (s : State) (va : Dword) (n mis acc bit : Nat) (k : Nat → State → Rv) : Rv :=
  let a := va.toNat
  if a % n ≠ 0 then .trap mis va
  else if !c.h.pmpOk c.h.dataUser a n bit then .trap acc va
  else match s.fwRead (s.fwAgent c.f c.h) a n with
    | .ok x s' => k x s'
    | .denied => .trap acc va
    | .wait s' => .wait s'
    | .stop => .stop
/-- A checked write. -/
def RvCtx.write (c : RvCtx) (s : State) (va : Dword) (n x : Nat) (k : State → Rv) : Rv :=
  let a := va.toNat
  if a % n ≠ 0 then .trap 6 va
  else if !c.h.pmpOk c.h.dataUser a n 1 then .trap 7 va
  else match s.fwWrite (s.fwAgent c.f c.h) a n x with
    | .ok _ s' => k s'
    | .denied => .trap 7 va
    | .wait s' => .wait s'
    | .stop => .stop
/-- LOAD. -/
def RvCtx.load (c : RvCtx) (s : State) : Rv :=
  let n := 2 ^ (c.f3 % 4)
  if c.f3 = 7 then c.illegal
  else c.read s (c.a + rvImmI c.w) n 4 5 0 (fun x s' =>
    c.put s' (if c.f3 < 4 then rvSext (8 * n) x else BitVec.ofNat 64 x))
/-- STORE. -/
def RvCtx.store (c : RvCtx) (s : State) : Rv :=
  let n := 2 ^ c.f3
  if 3 < c.f3 then c.illegal
  else c.write s (c.a + rvImmS c.w) n (c.b.toNat % 2 ^ (8 * n)) (fun s' => .done s' (s'.hart c.f) c.npc)
/-- The new value of an AMO. -/
def rvAmo (op n old x : Nat) : Option Nat :=
  let so := (rvSext (8 * n) old).toInt
  let sx := (rvSext (8 * n) x).toInt
  match op with
  | 0 => some ((old + x) % 2 ^ (8 * n))
  | 1 => some x
  | 4 => some (old ^^^ x)
  | 8 => some (old ||| x)
  | 12 => some (old &&& x)
  | 16 => some (if so ≤ sx then old else x)
  | 20 => some (if sx ≤ so then old else x)
  | 24 => some (min old x)
  | 28 => some (max old x)
  | _ => none
/-- The register window has no atomics. -/
def isRegs (a : Nat) : Bool := match fwTarget a with | some (.regs _) => true | _ => false
/-- AMO: load-reserved, store-conditional and the read-modify-writes. -/
def RvCtx.amo (c : RvCtx) (s : State) : Rv :=
  let n := 2 ^ c.f3
  let op := rvf c.w 27 5
  let x := c.b.toNat % 2 ^ (8 * n)
  if c.f3 ≠ 2 ∧ c.f3 ≠ 3 then c.illegal
  else if op = 2 then
    if rvf c.w 20 5 ≠ 0 then c.illegal
    else if c.a.toNat % n = 0 ∧ isRegs c.a.toNat = true then .trap 5 c.a
    else c.read s c.a n 4 5 0 (fun v s' =>
      .done s' { (c.h.setReg c.rd (rvSext (8 * n) v)) with resv := some (c.a.toNat, n) } c.npc)
  else if c.a.toNat % n = 0 ∧ isRegs c.a.toNat = true then .trap 7 c.a
  else if op = 3 then
    if c.a.toNat % n ≠ 0 then .trap 6 c.a
    else if c.h.resv = some (c.a.toNat, n) then
      c.write s c.a n x (fun s' => .done s' { ((s'.hart c.f).setReg c.rd 0) with resv := none } c.npc)
    else if c.h.pmpOk c.h.dataUser c.a.toNat n 1 then .done s { (c.h.setReg c.rd 1) with resv := none } c.npc
    else .trap 7 c.a
  else if (rvAmo op n 0 0).isNone then c.illegal
  else if c.a.toNat % n ≠ 0 then .trap 6 c.a
  else if !c.h.pmpOk c.h.dataUser c.a.toNat n 0 then .trap 7 c.a
  else c.read s c.a n 6 7 0 (fun v s' =>
    c.write s' c.a n ((rvAmo op n v x).getD 0) (fun s2 => .done s2 ((s2.hart c.f).setReg c.rd (rvSext (8 * n) v)) c.npc))

/-! ## Floating point -/

/-- mstatus.FS is not off. -/
def Hart.fpOn (h : Hart) : Bool := h.status 13 2 != 0
/-- FS turns dirty. -/
def Hart.fpDirty (h : Hart) : Hart := h.setStatus 13 2 3
/-- A float register written. -/
def Hart.setF (h : Hart) (i : Nat) (v : Dword) : Hart := { h with f := nput h.f i v }.fpDirty
/-- fflags gather. -/
def Hart.addFlags (h : Hart) (fl : Nat) : Hart :=
  if fl = 0 then h else (h.setCsr 3 (h.getCsr 3 ||| BitVec.ofNat 64 fl)).fpDirty
/-- The rounding mode of an instruction: its rm field, or frm; none when it is reserved. -/
def RvCtx.rm (c : RvCtx) : Option Nat :=
  let r := if c.f3 = 7 then (c.h.getCsr 3).toNat / 2 ^ 5 % 8 else c.f3
  if r < 5 then some r else none
/-- The format of an instruction; none for H and Q. -/
def RvCtx.fmt (c : RvCtx) : Option FFmt := match rvf c.w 25 2 with | 0 => some .f32 | 1 => some .f64 | _ => none
/-- The pattern of a float source. -/
def RvCtx.pat (c : RvCtx) (f : FFmt) (lo : Nat) : Nat := rvUnbox f (nget 0 c.h.f (rvf c.w lo 5))
/-- The value of a float source. -/
def RvCtx.val (c : RvCtx) (f : FFmt) (lo : Nat) : FVal := valueOf f (c.pat f lo)
/-- A float result. -/
def RvCtx.putF (c : RvCtx) (s : State) (f : FFmt) (r : Nat × Nat) : Rv :=
  .done s ((c.h.setF c.rd (rvBox f r.1)).addFlags r.2) c.npc
/-- An integer result of a float instruction. -/
def RvCtx.putX (c : RvCtx) (s : State) (v : Dword) (fl : Nat) : Rv := .done s ((c.h.setReg c.rd v).addFlags fl) c.npc
/-- With a legal rounding mode. -/
def RvCtx.rounded (c : RvCtx) (k : Nat → Rv) : Rv := match c.rm with | some r => k r | none => c.illegal
/-- The integer type of a conversion, by its rs2 field: width and signedness. -/
def rvIntType (i : Nat) : Nat × Bool := (if i < 2 then 32 else 64, i % 2 == 0)
/-- An integer conversion's result in rd: 32-bit ones are sign-extended. -/
def rvIntReg (w : Nat) (x : Int) : Dword := (BitVec.ofInt w x).signExtend 64
/-- OP-FP by its funct5. -/
def RvCtx.opFp (c : RvCtx) (s : State) : Rv :=
  match c.fmt with
  | none => c.illegal
  | some f =>
    let x := c.val f 15
    let y := c.val f 20
    let r2 := rvf c.w 20 5
    let pa := c.pat f 15
    let pb := c.pat f 20
    let bit := f.bits - 1
    let body := pa % 2 ^ bit
    match rvf c.w 27 5 with
    | 0x00 => c.rounded (fun r => c.putF s f (rvAdd f r x y))
    | 0x01 => c.rounded (fun r => c.putF s f (rvSub f r x y))
    | 0x02 => c.rounded (fun r => c.putF s f (rvMul f r x y))
    | 0x03 => c.rounded (fun r => c.putF s f (rvDiv f r x y))
    | 0x0B => if r2 = 0 then c.rounded (fun r => c.putF s f (rvSqrt f r x)) else c.illegal
    | 0x04 =>
      let sg := pb.testBit bit
      let sa := pa.testBit bit
      if 2 < c.f3 then c.illegal
      else c.putF s f (body + (if c.f3 = 0 then sg else if c.f3 = 1 then !sg else sa != sg).toNat * 2 ^ bit, 0)
    | 0x05 => if c.f3 < 2 then c.putF s f (rvMinMax f (c.f3 == 1) pa pb) else c.illegal
    | 0x08 =>
      match f, r2 with
      | .f32, 1 => c.rounded (fun r => c.putF s .f32 (rvRes .f32 r [c.val .f64 15] (some (c.val .f64 15))))
      | .f64, 0 => c.rounded (fun r => c.putF s .f64 (rvRes .f64 r [c.val .f32 15] (some (c.val .f32 15))))
      | _, _ => c.illegal
    | 0x14 => if c.f3 < 3 then let r := rvCmp c.f3 x y; c.putX s (BitVec.ofNat 64 r.1) r.2 else c.illegal
    | 0x18 =>
      if 3 < r2 then c.illegal
      else c.rounded (fun r =>
        let t := rvIntType r2
        let v := rvToInt r t.1 t.2 x
        c.putX s (rvIntReg t.1 v.1) v.2)
    | 0x1A =>
      if 3 < r2 then c.illegal
      else c.rounded (fun r =>
        let t := rvIntType r2
        let v : BitVec t.1 := c.a.setWidth t.1
        c.putF s f (rvRound f r (intVal (if t.2 then v.toInt else (v.toNat : Int)))))
    | 0x1C =>
      if r2 ≠ 0 then c.illegal
      else match c.f3 with
        | 0 =>
          let v := nget 0 c.h.f (rvf c.w 15 5)
          c.putX s (if f = .f32 then rvSext 32 v.toNat else v) 0
        | 1 => c.putX s (BitVec.ofNat 64 (rvClass f pa)) 0
        | _ => c.illegal
    | 0x1E => if r2 = 0 ∧ c.f3 = 0 then c.putF s f (c.a.toNat, 0) else c.illegal
    | _ => c.illegal
/-- The fused multiply-adds. -/
def RvCtx.fused (c : RvCtx) (s : State) (np na : Bool) : Rv :=
  match c.fmt with
  | none => c.illegal
  | some f => c.rounded (fun r => c.putF s f (rvFma f r np na (c.val f 15) (c.val f 20) (c.val f 27)))
/-- LOAD-FP. -/
def RvCtx.loadFp (c : RvCtx) (s : State) : Rv :=
  match c.f3 with
  | 2 => c.read s (c.a + rvImmI c.w) 4 4 5 0 (fun x s' => .done s' (c.h.setF c.rd (rvBox .f32 x)) c.npc)
  | 3 => c.read s (c.a + rvImmI c.w) 8 4 5 0 (fun x s' => .done s' (c.h.setF c.rd (BitVec.ofNat 64 x)) c.npc)
  | _ => c.illegal
/-- STORE-FP. -/
def RvCtx.storeFp (c : RvCtx) (s : State) : Rv :=
  let v := nget 0 c.h.f (rvf c.w 20 5)
  match c.f3 with
  | 2 => c.write s (c.a + rvImmS c.w) 4 (v.toNat % 2 ^ 32) (fun s' => .done s' (s'.hart c.f) c.npc)
  | 3 => c.write s (c.a + rvImmS c.w) 8 v.toNat (fun s' => .done s' (s'.hart c.f) c.npc)
  | _ => c.illegal

/-! ## Control and status registers -/

/-- misa: RV64 with A, C, D, F, I, M, U and a non-standard extension. -/
def rvMisa : Dword := 0x800000000090112D#64
/-- Bits of mie that hold: machine software, timer and external interrupts, and the platform's from 16 on. -/
def mieMask : Dword := 0xFFFFFFFFFFFF0888#64
/-- mstatus as read: UXL is 64-bit, and SD tells of a dirty FS. -/
def Hart.mstatus (h : Hart) : Dword :=
  h.getCsr 0x300 ||| 0x200000000#64 ||| (if h.status 13 2 = 3 then 0x8000000000000000#64 else 0)
/-- A user-mode read of a counter is allowed. -/
def Hart.countOk (h : Hart) (c : Nat) : Bool := !h.user || (h.getCsr 0x306).getLsbD (c % 32)
/-- The value of a control register; none for one that does not exist or may not be read. -/
def State.csrRead (s : State) (f : Nat) (h : Hart) (c : Nat) : Option Dword :=
  if h.user ∧ c / 2 ^ 8 % 4 ≠ 0 then none
  else match c with
    | 0x001 => if h.fpOn then some (h.getCsr 3 &&& 0x1F) else none
    | 0x002 => if h.fpOn then some ((h.getCsr 3 >>> 5) &&& 7) else none
    | 0x003 => if h.fpOn then some (h.getCsr 3) else none
    | 0x300 => some h.mstatus
    | 0x301 => some rvMisa
    | 0x304 => some (h.getCsr c)
    | 0x305 => some (h.getCsr c)
    | 0x306 => some (h.getCsr c)
    | 0x30A => some (h.getCsr c)
    | 0x320 => some (h.getCsr c)
    | 0x340 => some (h.getCsr c)
    | 0x341 => some (h.getCsr c)
    | 0x342 => some (h.getCsr c)
    | 0x343 => some (h.getCsr c)
    | 0x344 => some (h.getCsr c)
    | 0x3A0 => some (h.getCsr c)
    | 0x3A2 => some (h.getCsr c)
    | 0xB00 => some (h.getCsr c)
    | 0xB02 => some (h.getCsr c)
    | 0xC00 => if h.countOk c then some (h.getCsr 0xB00) else none
    | 0xC01 => if h.countOk c then some (BitVec.ofNat 64 s.time) else none
    | 0xC02 => if h.countOk c then some (h.getCsr 0xB02) else none
    | 0xF11 => some 0
    | 0xF12 => some 0
    | 0xF13 => some 0
    | 0xF14 => some (BitVec.ofNat 64 f)
    | 0xF15 => some 0
    | _ =>
      if 0x3B0 ≤ c ∧ c < 0x3C0 then some (h.getCsr c)
      else if (0xB03 ≤ c ∧ c < 0xB20) ∨ (0x323 ≤ c ∧ c < 0x340) then some 0
      else if 0xC03 ≤ c ∧ c < 0xC20 then (if h.countOk c then some 0 else none)
      else none
/-- A byte of pmpcfg as written: a locked entry keeps its byte, and W without R is not kept. -/
def pmpByte (old new : Nat) : Nat :=
  if old.testBit 7 then old else
    let v := new % 256 - new / 32 % 4 * 32
    if v % 4 = 2 then v - 2 else v
/-- pmpcfg after a write. -/
def pmpCfg (old new : Dword) : Dword :=
  BitVec.ofNat 64 (((List.range 8).map (fun i => pmpByte (old.toNat / 256 ^ i % 256) (new.toNat / 256 ^ i % 256) * 256 ^ i)).sum)
/-- Entry `i` of the PMP is locked, or the range of a locked entry begins with its address. -/
def Hart.pmpLocked (h : Hart) (i : Nat) : Bool :=
  let cfg (j : Nat) := (h.getCsr (0x3A0 + j / 8 * 2)).toNat / 2 ^ (8 * (j % 8)) % 256
  (cfg i).testBit 7 || (decide (i < 15) && (cfg (i + 1)).testBit 7 && cfg (i + 1) / 8 % 4 == 1)
/-- mstatus as written: MPP holds only user and machine. -/
def mstatusWrite (old x : Dword) : Dword :=
  let m : Dword := 0x226888#64 ||| 0x1800#64
  let x := if x.toNat / 2 ^ 11 % 4 = 3 then x else putField x 11 2 0
  (old &&& ~~~m) ||| (x &&& m)
/-- A control register written; bits that do not hold stay as they are. A write of minstret stands in place of the count of the
instruction that writes it. -/
def Hart.csrWrite (h : Hart) (c : Nat) (x : Dword) : Hart :=
  match c with
  | 0x001 => (h.setCsr 3 (putField (h.getCsr 3) 0 5 x.toNat)).fpDirty
  | 0x002 => (h.setCsr 3 (putField (h.getCsr 3) 5 3 x.toNat)).fpDirty
  | 0x003 => (h.setCsr 3 (x &&& 0xFF)).fpDirty
  | 0x300 => h.setCsr c (mstatusWrite (h.getCsr c) x)
  | 0x304 => h.setCsr c (x &&& mieMask)
  | 0x305 => h.setCsr c (putField x 1 1 0)
  | 0x306 => h.setCsr c (x &&& 0xFFFFFFFF)
  | 0x30A => h.setCsr c (x &&& 1)
  | 0x320 => h.setCsr c (x &&& 5)
  | 0x340 => h.setCsr c x
  | 0x341 => h.setCsr c (putField x 0 1 0)
  | 0x342 => h.setCsr c x
  | 0x343 => h.setCsr c x
  | 0x3A0 => h.setCsr c (pmpCfg (h.getCsr c) x)
  | 0x3A2 => h.setCsr c (pmpCfg (h.getCsr c) x)
  | 0xB00 => h.setCsr c x
  | 0xB02 => h.setCsr c (if (h.getCsr 0x320).getLsbD 2 then x else x - 1)
  | _ => if 0x3B0 ≤ c ∧ c < 0x3C0 ∧ h.pmpLocked (c - 0x3B0) = false then h.setCsr c (x &&& 0x003FFFFFFFFFFFFF) else h
/-- The Zicsr instructions. -/
def RvCtx.csrOp (c : RvCtx) (s : State) : Rv :=
  let n := rvf c.w 20 12
  let src := rvf c.w 15 5
  let x : Dword := if 4 ≤ c.f3 then BitVec.ofNat 64 src else c.a
  let writes := c.f3 % 4 == 1 || src != 0
  match s.csrRead c.f c.h n with
  | none => c.illegal
  | some old =>
    if writes && n / 2 ^ 10 == 3 then c.illegal
    else
      let v := match c.f3 % 4 with | 1 => x | 2 => old ||| x | _ => old &&& ~~~x
      .done s ((if writes then c.h.csrWrite n v else c.h).setReg c.rd old) c.npc
/-- SYSTEM. -/
def RvCtx.system (c : RvCtx) (s : State) : Rv :=
  if c.f3 = 4 then c.illegal
  else if c.f3 ≠ 0 then c.csrOp s
  else if c.w = 0x00000073#32 then .trap (if c.h.user then 8 else 11) 0
  else if c.w = 0x00100073#32 then .trap 3 c.h.pc
  else if c.w = 0x30200073#32 then (if c.h.user then c.illegal else .done s c.h.mret c.h.mret.pc)
  else if c.w = 0x10500073#32 then (if c.h.user && c.h.status 21 1 == 1 then c.illegal else .done s c.h c.npc)
  else c.illegal

/-! ## One instruction -/

/-- A 32-bit instruction by its major opcode. -/
def RvCtx.run (c : RvCtx) (s : State) : Rv :=
  let fp (r : Rv) : Rv := if c.h.fpOn then r else c.illegal
  match rvf c.w 0 7 with
  | 0x03 => c.load s
  | 0x07 => fp (c.loadFp s)
  | 0x0F => if c.f3 < 2 then .done s c.h c.npc else c.illegal
  | 0x13 => c.opImm s
  | 0x17 => c.put s (c.h.pc + rvImmU c.w)
  | 0x1B => c.opImmW s
  | 0x23 => c.store s
  | 0x27 => fp (c.storeFp s)
  | 0x2F => c.amo s
  | 0x33 => c.op s
  | 0x37 => c.put s (rvImmU c.w)
  | 0x3B => c.opW s
  | 0x43 => fp (c.fused s false false)
  | 0x47 => fp (c.fused s false true)
  | 0x4B => fp (c.fused s true false)
  | 0x4F => fp (c.fused s true true)
  | 0x53 => fp (c.opFp s)
  | 0x63 => c.branch s
  | 0x67 => c.jalr s
  | 0x6F => c.jal s
  | 0x73 => c.system s
  | _ => c.illegal
/-- What a fetch gives: the instruction's bits, the exception with its address, or a wait. -/
inductive RvFetch where
  | ok (bits len : Nat)
  | trap (cause : Nat) (tval : Dword)
  | wait (s : State)
/-- One 16-bit parcel of the instruction stream. -/
def State.parcel (s : State) (f : Nat) (h : Hart) (pc : Dword) : RvFetch :=
  let a := pc.toNat
  if !h.pmpOk h.user a 2 2 || isRegs a then .trap 1 pc
  else match s.fwRead (s.fwAgent f h) a 2 with
    | .ok x _ => .ok x 2
    | .wait s1 => .wait s1
    | _ => .trap 1 pc
/-- The instruction at the pc. -/
def State.rvFetch (s : State) (f : Nat) (h : Hart) : RvFetch :=
  match s.parcel f h h.pc with
  | .ok lo _ =>
    if lo % 4 ≠ 3 then .ok lo 2
    else match s.parcel f h (h.pc + 2) with
      | .ok hi _ => .ok (lo + hi * 2 ^ 16) 4
      | r => r
  | r => r
/-- The interrupt that a core takes next, by number; external, software and timer first, then the platform's. -/
def Hart.nextIrq (h : Hart) : Option Nat :=
  let due := h.getCsr 0x344 &&& h.getCsr 0x304
  if h.user || h.status 3 1 == 1 then
    ([11, 3, 7] ++ (List.range 48).map (· + 16)).find? (fun i => due.getLsbD i)
  else none
/-- The word at the pc when it is an Xhall word. -/
def State.xhallAt (s : State) (f : Nat) : Option Word :=
  match s.rvFetch f (s.hart f) with
  | .ok bits 4 => if bits % 2 ^ 7 = 0x0B then some (BitVec.ofNat 32 bits) else none
  | _ => none
/-- An ordinary instruction of a core, fetched. -/
def State.rvInstr (s : State) (f bits len : Nat) : Out :=
  let h := s.hart f
  let w? := if len = 4 then some (BitVec.ofNat 32 bits) else expandC bits
  match w? with
  | none => .next (s.hartTrap f 2 (BitVec.ofNat 64 bits))
  | some w =>
    let c : RvCtx := { f := f, h := h, w := w, raw := bits, npc := h.pc + BitVec.ofNat 64 len }
    match c.run s with
    | .done s' h' pc => .next (s'.retire f h' pc)
    | .trap cause tval => .next (s.hartTrap f cause tval)
    | .wait s' => .next s'
    | .stop => .fault .deviceWindow
/-- An interrupt is taken; no rule describes how its source withdraws it, so taking it clears its pending bit. -/
def State.takeIrq (s : State) (f i : Nat) : State :=
  let h := (s.hart f).trap true i 0
  s.setHart f (h.setCsr 0x344 (putField (h.getCsr 0x344) i 1 0))
/-- RV64GC_INSTRUCTION (R394): a core that is not held takes a pending interrupt, or executes the instruction at its pc, or takes
its exception. An Xhall word is no ordinary instruction: it has rows of its own. -/
def execRv64gcInstruction (f : Nat) (s : State) : Out :=
  let h := s.hart f
  if 4 ≤ f ∨ h.held = true then .next s
  else match h.nextIrq with
    | some i => .next (s.takeIrq f i)
    | none =>
      match s.rvFetch f h with
      | .trap cause tval => .next (s.hartTrap f cause tval)
      | .wait s1 => .next s1
      | .ok bits len =>
        match (if len = 4 then runXhall (BitVec.ofNat 32 bits) { s with cur := { s.cur with unit := f } } else none) with
        | some _ => .next s
        | none => s.rvInstr f bits len
/-- An Xhall word runs on a core. -/
def State.xhallRun (s : State) (f : Nat) (w : Word) : Out :=
  (runXhall w { s with cur := { s.cur with unit := f } }).getD (execRv64gcInstruction f s)
/-- One instruction of a core, an Xhall word included. A `swait` ends for an interrupt before the trap is taken (R399). -/
def State.hartCycle (f : Nat) (s : State) : Out :=
  let h := s.hart f
  match s.xhallAt f with
  | none => execRv64gcInstruction f s
  | some w =>
    if 4 ≤ f ∨ h.held = true ∨ (h.nextIrq.isSome = true ∧ rvf w 12 3 ≠ 2) then execRv64gcInstruction f s
    else s.xhallRun f w
/-- SWAIT_END (R399): an interrupt becomes pending where one is named, and a core that stands at a `swait` reads its word
again. -/
def execSwaitEnd (f : Nat) (irq : Option Nat) (s : State) : Out :=
  if 4 ≤ f ∨ (s.hart f).held = true then .next s
  else
    let s := match irq with
      | some i => s.setHart f ((s.hart f).setCsr 0x344 ((s.hart f).getCsr 0x344 ||| (BitVec.ofNat 64 (2 ^ i) &&& mieMask)))
      | none => s
    match s.xhallAt f with
    | some w => if rvf w 12 3 = 2 then s.xhallRun f w else .next s
    | none => .next s

end Sys2Proof.Machine
end

