-- ==== Sys2Proof/Machine/TileWords.lean ====
section
/-! DEFINITION. Checks 1 and 2 of R185 on a word of a tile stream, with its effect: what decodeTile and exec give, read off the word. -/

namespace Sys2Proof.Machine

/-- An effect, or a reserved field value. -/
def orReserved (ok : Bool) (o : Out) : Except DecodeError Out := if ok then .ok o else .error (.reservedField 14)

/-- A word of a tile stream, checked, with its effect on the sequencer `s.cur.core`. C is judged by check 4. -/
def runTile (w : Word) (s : State) : Except DecodeError Out :=
  let v := w &&& 0x7FFFFFFF#32
  if majorOf w = 15 ∧ fld w 21 5 = 31 then .error (.unassigned 15)
  else if majorOf w ≠ 14 then .error .wrongStream
  else match (fld w 21 5).toNat with
  | 0 => orReserved (decide (wordTslot 0x38000000 (fld w 16 5) (fld w 0 14) = v)) (execTslot (fld w 16 5) (fld w 0 14) s)
  | 1 => orReserved (decide (wordTmma 0x38200000 (fld w 16 5) (fld w 11 5) (fld w 9 2) (fld w 7 2) (fld w 6 1) (fld w 0 6) = v) && (fld w 7 2) != 3) (execTmma (fld w 16 5) (fld w 11 5) (fld w 9 2) (fld w 7 2) (fld w 6 1) (fld w 0 6) s)
  | 2 => orReserved (decide (wordTmmas 0x38400000 (fld w 16 5) (fld w 11 5) (fld w 9 2) (fld w 7 2) (fld w 6 1) (fld w 4 2) (fld w 0 4) = v) && (fld w 7 2) != 3) (execTmmas (fld w 16 5) (fld w 11 5) (fld w 9 2) (fld w 7 2) (fld w 6 1) (fld w 4 2) (fld w 0 4) s)
  | 3 => orReserved (decide (wordTzero 0x38600000 (fld w 9 2) (fld w 7 2) = v) && (fld w 7 2) != 3) (execTzero (fld w 9 2) (fld w 7 2) s)
  | 4 => orReserved (decide (wordTscale 0x38800000 (fld w 16 5) (fld w 9 2) (fld w 7 2) = v) && (fld w 7 2) != 3) (execTscale (fld w 16 5) (fld w 9 2) (fld w 7 2) s)
  | 5 => orReserved (decide (wordTscale 0x38A00000 (fld w 16 5) (fld w 9 2) (fld w 7 2) = v) && (fld w 7 2) != 3) (execTcvt (fld w 16 5) (fld w 9 2) (fld w 7 2) s)
  | 6 => orReserved (decide (wordTscale 0x38C00000 (fld w 16 5) (fld w 9 2) (fld w 7 2) = v) && (fld w 7 2) != 3) (execTacc (fld w 16 5) (fld w 9 2) (fld w 7 2) s)
  | 7 => orReserved (decide (wordTwait 0x38E00000 (fld w 17 4) (fld w 0 16) = v)) (execTwait (fld w 17 4) (fld w 0 16) s)
  | 8 => if fld w 20 1 = 0 then orReserved (decide (wordTarriveBarrier 0x39000000 (fld w 16 4) (fld w 11 5) = v)) (execTarriveBarrier (fld w 16 4) (fld w 11 5) s)
    else orReserved (decide (wordTarriveObject 0x39100000 (fld w 15 5) = v)) (execTarriveObject (fld w 15 5) s)
  | 9 => orReserved (decide (wordTloop 0x39200000 (fld w 12 9) (fld w 4 8) = v)) (execTloop (fld w 12 9) (fld w 4 8) s)
  | 10 => orReserved (decide (0x39400000#32 = v)) (execTend s)
  | 11 => orReserved (decide (wordTcbk 0x39600000 (fld w 18 3) (fld w 0 14) = v)) (execTcbk (fld w 18 3) (fld w 0 14) s)
  | _ => .error (.unassigned 14)

end Sys2Proof.Machine
end

