-- ==== Sys2Proof/Machine/Sequencer.lean ====
section
/-! DEFINITION. One cycle of a tile sequencer (R84-R87, R300, R301, R310, R311): readiness tests, issue, starvation and saving, and
the fetch of one word. -/

namespace Sys2Proof.Machine

/-! ## Issue -/

/-- Readiness of the unissued tasks brought up to date, or the first task whose slot source faulted, with the VA and the stage of the
fault (R301). -/
def State.testTasks (core : Nat) : List Task → State → (List Task ⊕ (Task × Dword × Bool)) × State
  | [], s => (.inl [], s)
  | k :: r, s =>
    match (if k.issued then (.inl k, s) else s.testSlots core k) with
    | (.inr f, s) => (.inr (k, f), s)
    | (.inl k', s) =>
      match State.testTasks core r s with
      | (.inr x, s) => (.inr x, s)
      | (.inl l, s) => (.inl (k' :: l), s)
/-- SEQUENCER_SAVING_ENTRY (R84, R85): a sequencer whose starvation count has reached 256. -/
def execSequencerSavingEntry (core : Nat) (s : State) : Out :=
  let t := s.tile core
  .next (s.setSeqBank core (savingSeq (t.table.find? t.candidate) (s.seqBank core)))

/-! ## Fetch -/

/-- A fetch or encoding fault of the stream (R311): a parkable cause stalls fetch, another stops the sequencer. -/
def State.seqFetchFault (s : State) (core cause : Nat) (s2 : Bool) : State :=
  let t := s.tile core
  let r := s.seqRec core cause t.pc t.pc 3 4 (parkable cause) s2
  if parkable cause then (s.raise r).setTile core { t with run := .stalled, stall := some r }
  else (s.raise r).seqHalt core
/-- A word that fails a check stops the sequencer (R185, R187). -/
def State.seqBadWord (s : State) (core cause reason : Nat) : State :=
  (s.raise (s.seqRec core cause (s.tile core).pc 0 0 reason false false)).seqHalt core
/-- The word at the PC of a sequencer, checked and performed (R185, R300). -/
def seqWord (core : Nat) (w : Word) (s : State) : Out :=
  match runTile w (s.mapCur (fun c => { c with core := core })) with
  | .error e => .next (s.seqBadWord core e.code 0)
  | .ok o => if chained w then .next (s.seqBadWord core 0x03E 4) else o
/-- The fetch stage of a cycle (R145, R300, R311): a line in state T is waited for, and so is a home (R115). -/
def seqFetch (core : Nat) (s : State) : Out :=
  let t := s.tile core
  if t.run != .fetching || decide (32 ≤ t.table.length) then .next s
  else
    let ag := { s.seqAgent core with who := .sender (.tile core t.pc.toNat) }
    let s1 := s.icFill ag t.pc
    match s.fetchAt ag t.pc with
    | .wait => .next s1
    | .fault 0x090 _ => .next s1
    | .fault c s2 => .next (s1.seqFetchFault core c s2)
    | .words ws => seqWord core (ws.getD (t.pc.toNat % 16 / 4) 0) s1

/-! ## The cycle -/

/-- ONE CYCLE OF A TILE SEQUENCER. Without a live group it stops and drops its unissued tasks (R310); while its team's save
drains it neither issues nor fetches (R392). Each cycle has its turn to issue, even one in which nothing can issue (R85, R92). -/
def seqCycle (core : Nat) (s : State) : Out :=
  let t := s.tile core
  if !t.owned then .next (s.seqIssue core)
  else if (s.liveGroups t.tk).isEmpty then
    .next ((s.setTile core { t with
      run := if t.run == .fetching || t.run == .stalled then .ended else t.run, table := t.table.filter (·.issued) }).seqIssue core)
  else if (s.team t.tk).draining.isSome then .next (s.seqIssue core)
  else match State.testTasks core t.table s with
    | (.inr (k, va, s2), s) => .next ((s.seqStop core 0x0E3 k.pc va 4 s2).seqIssue core)
    | (.inl l, s) => seqFetch core ((s.setTile core { t with table := l }).seqIssue core)

end Sys2Proof.Machine
end

