-- ==== Sys2Proof/Machine/Dispatch.lean ====
section
/-! DEFINITION. Which meaning each instruction has: one arm per constructor, each one direct call. -/

namespace Sys2Proof.Machine

def exec (i : Instr) (s : State) : Host.Outcome State Fault Refusal :=
  match i with
  | .nop c => Sys2Proof.Machine.execNop c s
  | .add c k t d a b => Sys2Proof.Machine.execAdd c k t d a b s
  | .addScalar c k t d a x_s => Sys2Proof.Machine.execAddScalar c k t d a x_s s
  | .sub c k t d a b => Sys2Proof.Machine.execSub c k t d a b s
  | .subScalar c k t d a x_s => Sys2Proof.Machine.execSubScalar c k t d a x_s s
  | .adds c k t d a b => Sys2Proof.Machine.execAdds c k t d a b s
  | .addsScalar c k t d a x_s => Sys2Proof.Machine.execAddsScalar c k t d a x_s s
  | .subs c k t d a b => Sys2Proof.Machine.execSubs c k t d a b s
  | .subsScalar c k t d a x_s => Sys2Proof.Machine.execSubsScalar c k t d a x_s s
  | .mul c k t d a b => Sys2Proof.Machine.execMul c k t d a b s
  | .mulScalar c k t d a x_s => Sys2Proof.Machine.execMulScalar c k t d a x_s s
  | .mulh c k t d a b => Sys2Proof.Machine.execMulh c k t d a b s
  | .mulhScalar c k t d a x_s => Sys2Proof.Machine.execMulhScalar c k t d a x_s s
  | .mad c k t d a b => Sys2Proof.Machine.execMad c k t d a b s
  | .madScalar c k t d a x_s => Sys2Proof.Machine.execMadScalar c k t d a x_s s
  | .dot2 c k t d a b => Sys2Proof.Machine.execDot2 c k t d a b s
  | .dot2Scalar c k t d a x_s => Sys2Proof.Machine.execDot2Scalar c k t d a x_s s
  | .min c k t d a b => Sys2Proof.Machine.execMin c k t d a b s
  | .minScalar c k t d a x_s => Sys2Proof.Machine.execMinScalar c k t d a x_s s
  | .max c k t d a b => Sys2Proof.Machine.execMax c k t d a b s
  | .maxScalar c k t d a x_s => Sys2Proof.Machine.execMaxScalar c k t d a x_s s
  | .absd c k t d a b => Sys2Proof.Machine.execAbsd c k t d a b s
  | .absdScalar c k t d a x_s => Sys2Proof.Machine.execAbsdScalar c k t d a x_s s
  | .and c k t d a b => Sys2Proof.Machine.execAnd c k t d a b s
  | .andScalar c k t d a x_s => Sys2Proof.Machine.execAndScalar c k t d a x_s s
  | .or c k t d a b => Sys2Proof.Machine.execOr c k t d a b s
  | .orScalar c k t d a x_s => Sys2Proof.Machine.execOrScalar c k t d a x_s s
  | .xor c k t d a b => Sys2Proof.Machine.execXor c k t d a b s
  | .xorScalar c k t d a x_s => Sys2Proof.Machine.execXorScalar c k t d a x_s s
  | .andn c k t d a b => Sys2Proof.Machine.execAndn c k t d a b s
  | .andnScalar c k t d a x_s => Sys2Proof.Machine.execAndnScalar c k t d a x_s s
  | .shl c k t d a b => Sys2Proof.Machine.execShl c k t d a b s
  | .shlScalar c k t d a x_s => Sys2Proof.Machine.execShlScalar c k t d a x_s s
  | .shr c k t d a b => Sys2Proof.Machine.execShr c k t d a b s
  | .shrScalar c k t d a x_s => Sys2Proof.Machine.execShrScalar c k t d a x_s s
  | .shrr c k t d a b => Sys2Proof.Machine.execShrr c k t d a b s
  | .shrrScalar c k t d a x_s => Sys2Proof.Machine.execShrrScalar c k t d a x_s s
  | .rotl c k t d a b => Sys2Proof.Machine.execRotl c k t d a b s
  | .rotlScalar c k t d a x_s => Sys2Proof.Machine.execRotlScalar c k t d a x_s s
  | .ceq c k t d a b => Sys2Proof.Machine.execCeq c k t d a b s
  | .ceqScalar c k t d a x_s => Sys2Proof.Machine.execCeqScalar c k t d a x_s s
  | .clt c k t d a b => Sys2Proof.Machine.execClt c k t d a b s
  | .cltScalar c k t d a x_s => Sys2Proof.Machine.execCltScalar c k t d a x_s s
  | .cle c k t d a b => Sys2Proof.Machine.execCle c k t d a b s
  | .cleScalar c k t d a x_s => Sys2Proof.Machine.execCleScalar c k t d a x_s s
  | .bfx c k t d a b => Sys2Proof.Machine.execBfx c k t d a b s
  | .bfxScalar c k t d a x_s => Sys2Proof.Machine.execBfxScalar c k t d a x_s s
  | .bfi c k t d a b => Sys2Proof.Machine.execBfi c k t d a b s
  | .bfiScalar c k t d a x_s => Sys2Proof.Machine.execBfiScalar c k t d a x_s s
  | .popc c k t d a => Sys2Proof.Machine.execPopc c k t d a s
  | .clz c k t d a => Sys2Proof.Machine.execClz c k t d a s
  | .brev c k t d a => Sys2Proof.Machine.execBrev c k t d a s
  | .sel c k t d a b => Sys2Proof.Machine.execSel c k t d a b s
  | .selScalar c k t d a x_s => Sys2Proof.Machine.execSelScalar c k t d a x_s s
  | .avg c k t d a b => Sys2Proof.Machine.execAvg c k t d a b s
  | .avgScalar c k t d a x_s => Sys2Proof.Machine.execAvgScalar c k t d a x_s s
  | .fadd c k t d a b => Sys2Proof.Machine.execFadd c k t d a b s
  | .faddScalar c k t d a x_s => Sys2Proof.Machine.execFaddScalar c k t d a x_s s
  | .fsub c k t d a b => Sys2Proof.Machine.execFsub c k t d a b s
  | .fsubScalar c k t d a x_s => Sys2Proof.Machine.execFsubScalar c k t d a x_s s
  | .fmul c k t d a b => Sys2Proof.Machine.execFmul c k t d a b s
  | .fmulScalar c k t d a x_s => Sys2Proof.Machine.execFmulScalar c k t d a x_s s
  | .fma c k t d a b => Sys2Proof.Machine.execFma c k t d a b s
  | .fmaScalar c k t d a x_s => Sys2Proof.Machine.execFmaScalar c k t d a x_s s
  | .fms c k t d a b => Sys2Proof.Machine.execFms c k t d a b s
  | .fmsScalar c k t d a x_s => Sys2Proof.Machine.execFmsScalar c k t d a x_s s
  | .fnma c k t d a b => Sys2Proof.Machine.execFnma c k t d a b s
  | .fnmaScalar c k t d a x_s => Sys2Proof.Machine.execFnmaScalar c k t d a x_s s
  | .fmin c k t d a b => Sys2Proof.Machine.execFmin c k t d a b s
  | .fminScalar c k t d a x_s => Sys2Proof.Machine.execFminScalar c k t d a x_s s
  | .fmax c k t d a b => Sys2Proof.Machine.execFmax c k t d a b s
  | .fmaxScalar c k t d a x_s => Sys2Proof.Machine.execFmaxScalar c k t d a x_s s
  | .fminm c k t d a b => Sys2Proof.Machine.execFminm c k t d a b s
  | .fminmScalar c k t d a x_s => Sys2Proof.Machine.execFminmScalar c k t d a x_s s
  | .fmaxm c k t d a b => Sys2Proof.Machine.execFmaxm c k t d a b s
  | .fmaxmScalar c k t d a x_s => Sys2Proof.Machine.execFmaxmScalar c k t d a x_s s
  | .fabs c k t d a => Sys2Proof.Machine.execFabs c k t d a s
  | .fneg c k t d a => Sys2Proof.Machine.execFneg c k t d a s
  | .fceq c k t d a b => Sys2Proof.Machine.execFceq c k t d a b s
  | .fceqScalar c k t d a x_s => Sys2Proof.Machine.execFceqScalar c k t d a x_s s
  | .fclt c k t d a b => Sys2Proof.Machine.execFclt c k t d a b s
  | .fcltScalar c k t d a x_s => Sys2Proof.Machine.execFcltScalar c k t d a x_s s
  | .fcle c k t d a b => Sys2Proof.Machine.execFcle c k t d a b s
  | .fcleScalar c k t d a x_s => Sys2Proof.Machine.execFcleScalar c k t d a x_s s
  | .fcun c k t d a b => Sys2Proof.Machine.execFcun c k t d a b s
  | .fcunScalar c k t d a x_s => Sys2Proof.Machine.execFcunScalar c k t d a x_s s
  | .fcls c k t d a => Sys2Proof.Machine.execFcls c k t d a s
  | .frnd c k t d a => Sys2Proof.Machine.execFrnd c k t d a s
  | .fcopysign c k t d a b => Sys2Proof.Machine.execFcopysign c k t d a b s
  | .fcopysignScalar c k t d a x_s => Sys2Proof.Machine.execFcopysignScalar c k t d a x_s s
  | .fscale c k t d a b => Sys2Proof.Machine.execFscale c k t d a b s
  | .fscaleScalar c k t d a x_s => Sys2Proof.Machine.execFscaleScalar c k t d a x_s s
  | .fdot2 c k t d a b => Sys2Proof.Machine.execFdot2 c k t d a b s
  | .fdot2Scalar c k t d a x_s => Sys2Proof.Machine.execFdot2Scalar c k t d a x_s s
  | .cvt c k t d a u y => Sys2Proof.Machine.execCvt c k t d a u y s
  | .pack c k t d a b => Sys2Proof.Machine.execPack c k t d a b s
  | .unpackLo c k t d a => Sys2Proof.Machine.execUnpackLo c k t d a s
  | .unpackHi c k t d a => Sys2Proof.Machine.execUnpackHi c k t d a s
  | .rcp c k t d a => Sys2Proof.Machine.execRcp c k t d a s
  | .rsqrt c k t d a => Sys2Proof.Machine.execRsqrt c k t d a s
  | .sqrt c k t d a => Sys2Proof.Machine.execSqrt c k t d a s
  | .exp2 c k t d a => Sys2Proof.Machine.execExp2 c k t d a s
  | .log2 c k t d a => Sys2Proof.Machine.execLog2 c k t d a s
  | .sin c k t d a => Sys2Proof.Machine.execSin c k t d a s
  | .cos c k t d a => Sys2Proof.Machine.execCos c k t d a s
  | .tanh c k t d a => Sys2Proof.Machine.execTanh c k t d a s
  | .quant c k t d a b => Sys2Proof.Machine.execQuant c k t d a b s
  | .dequant c k t d a b => Sys2Proof.Machine.execDequant c k t d a b s
  | .cbk c k d a b => Sys2Proof.Machine.execCbk c k d a b s
  | .fdiv c k t d a b => Sys2Proof.Machine.execFdiv c k t d a b s
  | .idiv c k t d a b => Sys2Proof.Machine.execIdiv c k t d a b s
  | .irem c k t d a b => Sys2Proof.Machine.execIrem c k t d a b s
  | .shfl c k t d a b => Sys2Proof.Machine.execShfl c k t d a b s
  | .slideUp c k t d a b => Sys2Proof.Machine.execSlideUp c k t d a b s
  | .slideDn c k t d a b => Sys2Proof.Machine.execSlideDn c k t d a b s
  | .bcast c k t d a b => Sys2Proof.Machine.execBcast c k t d a b s
  | .redAdd c k t d a => Sys2Proof.Machine.execRedAdd c k t d a s
  | .redMin c k t d a => Sys2Proof.Machine.execRedMin c k t d a s
  | .redMax c k t d a => Sys2Proof.Machine.execRedMax c k t d a s
  | .redFadd c k t d a => Sys2Proof.Machine.execRedFadd c k t d a s
  | .scanAdd c k t d a => Sys2Proof.Machine.execScanAdd c k t d a s
  | .voteAny c k d a => Sys2Proof.Machine.execVoteAny c k d a s
  | .voteAll c k d a => Sys2Proof.Machine.execVoteAll c k d a s
  | .ballot c k d a => Sys2Proof.Machine.execBallot c k d a s
  | .sp24 c k t d a => Sys2Proof.Machine.execSp24 c k t d a s
  | .sort8 c k t d a => Sys2Proof.Machine.execSort8 c k t d a s
  | .matchEq c k t d a => Sys2Proof.Machine.execMatchEq c k t d a s
  | .compress c k t d a b => Sys2Proof.Machine.execCompress c k t d a b s
  | .expand c k t d a b => Sys2Proof.Machine.execExpand c k t d a b s
  | .transp c k t d a => Sys2Proof.Machine.execTransp c k t d a s
  | .merge2 c k t d a b => Sys2Proof.Machine.execMerge2 c k t d a b s
  | .addi c k d a w x_i => Sys2Proof.Machine.execAddi c k d a w x_i s
  | .muli c k d a w x_i => Sys2Proof.Machine.execMuli c k d a w x_i s
  | .andi c k d a w x_i => Sys2Proof.Machine.execAndi c k d a w x_i s
  | .ori c k d a w x_i => Sys2Proof.Machine.execOri c k d a w x_i s
  | .xori c k d a w x_i => Sys2Proof.Machine.execXori c k d a w x_i s
  | .shli c k d a w x_i => Sys2Proof.Machine.execShli c k d a w x_i s
  | .shri c k d a w x_i => Sys2Proof.Machine.execShri c k d a w x_i s
  | .srai c k d a w x_i => Sys2Proof.Machine.execSrai c k d a w x_i s
  | .shrri c k d a w x_i => Sys2Proof.Machine.execShrri c k d a w x_i s
  | .ceqi c k d a w x_i => Sys2Proof.Machine.execCeqi c k d a w x_i s
  | .clti c k d a w x_i => Sys2Proof.Machine.execClti c k d a w x_i s
  | .slidei c k d a w x_i => Sys2Proof.Machine.execSlidei c k d a w x_i s
  | .mini c k d a w x_i => Sys2Proof.Machine.execMini c k d a w x_i s
  | .maxi c k d a w x_i => Sys2Proof.Machine.execMaxi c k d a w x_i s
  | .sadd c d a x_i b => Sys2Proof.Machine.execSadd c d a x_i b s
  | .ssub c d a x_i b => Sys2Proof.Machine.execSsub c d a x_i b s
  | .smul c d a x_i b => Sys2Proof.Machine.execSmul c d a x_i b s
  | .smulh c d a x_i b => Sys2Proof.Machine.execSmulh c d a x_i b s
  | .sand c d a x_i b => Sys2Proof.Machine.execSand c d a x_i b s
  | .sor c d a x_i b => Sys2Proof.Machine.execSor c d a x_i b s
  | .sxor c d a x_i b => Sys2Proof.Machine.execSxor c d a x_i b s
  | .sshl c d a x_i b => Sys2Proof.Machine.execSshl c d a x_i b s
  | .sshr c d a x_i b => Sys2Proof.Machine.execSshr c d a x_i b s
  | .ssra c d a x_i b => Sys2Proof.Machine.execSsra c d a x_i b s
  | .smin c d a x_i b => Sys2Proof.Machine.execSmin c d a x_i b s
  | .smax c d a x_i b => Sys2Proof.Machine.execSmax c d a x_i b s
  | .sceq c d a x_i b => Sys2Proof.Machine.execSceq c d a x_i b s
  | .sclt c d a x_i b => Sys2Proof.Machine.execSclt c d a x_i b s
  | .scltn c d a x_i b => Sys2Proof.Machine.execScltn c d a x_i b s
  | .ssel c d a x_i b => Sys2Proof.Machine.execSsel c d a x_i b s
  | .sbfx c d a x_i b => Sys2Proof.Machine.execSbfx c d a x_i b s
  | .sbfi c d a x_i b => Sys2Proof.Machine.execSbfi c d a x_i b s
  | .spopc c d a => Sys2Proof.Machine.execSpopc c d a s
  | .sclz c d a => Sys2Proof.Machine.execSclz c d a s
  | .vtos c d a x_i b => Sys2Proof.Machine.execVtos c d a x_i b s
  | .stov c d a x_i b => Sys2Proof.Machine.execStov c d a x_i b s
  | .sdiv c d a x_i b => Sys2Proof.Machine.execSdiv c d a x_i b s
  | .srem c d a x_i b => Sys2Proof.Machine.execSrem c d a x_i b s
  | .liS c d h x_i => Sys2Proof.Machine.execLiS c d h x_i s
  | .likS c d h x_i => Sys2Proof.Machine.execLikS c d h x_i s
  | .liV c k d h x_i => Sys2Proof.Machine.execLiV c k d h x_i s
  | .likV c k d h x_i => Sys2Proof.Machine.execLikV c k d h x_i s
  | .ld c d x_s m w o => Sys2Proof.Machine.execLd c d x_s m w o s
  | .st c d x_s m w o => Sys2Proof.Machine.execSt c d x_s m w o s
  | .ldtm c d x_s m w o => Sys2Proof.Machine.execLdtm c d x_s m w o s
  | .sttm c d x_s m w o => Sys2Proof.Machine.execSttm c d x_s m w o s
  | .ldacc c d x_s => Sys2Proof.Machine.execLdacc c d x_s s
  | .stacc c d x_s => Sys2Proof.Machine.execStacc c d x_s s
  | .ldnt c d x_s m w o => Sys2Proof.Machine.execLdnt c d x_s m w o s
  | .stnt c d x_s m w o => Sys2Proof.Machine.execStnt c d x_s m w o s
  | .lds c d x_s m w o => Sys2Proof.Machine.execLds c d x_s m w o s
  | .sts c d x_s m w o => Sys2Proof.Machine.execSts c d x_s m w o s
  | .pref c x_s m o => Sys2Proof.Machine.execPref c x_s m o s
  | .ldg c d a x_s w x => Sys2Proof.Machine.execLdg c d a x_s w x s
  | .stg c d a x_s w x => Sys2Proof.Machine.execStg c d a x_s w x s
  | .ldgtm c d a x_s w x => Sys2Proof.Machine.execLdgtm c d a x_s w x s
  | .stgtm c d a x_s w x => Sys2Proof.Machine.execStgtm c d a x_s w x s
  | .bra p o => Sys2Proof.Machine.execBra p o s
  | .brn p o => Sys2Proof.Machine.execBrn p o s
  | .jmp o => Sys2Proof.Machine.execJmp o s
  | .call o => Sys2Proof.Machine.execCall o s
  | .jmpi a => Sys2Proof.Machine.execJmpi a s
  | .ret => Sys2Proof.Machine.execRet s
  | .join j o => Sys2Proof.Machine.execJoin j o s
  | .loop l x_s n => Sys2Proof.Machine.execLoop l x_s n s
  | .exit => Sys2Proof.Machine.execExit s
  | .braAny p o => Sys2Proof.Machine.execBraAny p o s
  | .braAll p o => Sys2Proof.Machine.execBraAll p o s
  | .trapc p c => Sys2Proof.Machine.execTrapc p c s
  | .amoadd c x_s o d a l w => Sys2Proof.Machine.execAmoadd c x_s o d a l w s
  | .amomin c x_s o d a u l w => Sys2Proof.Machine.execAmomin c x_s o d a u l w s
  | .amomax c x_s o d a u l w => Sys2Proof.Machine.execAmomax c x_s o d a u l w s
  | .amoand c x_s o d a l w => Sys2Proof.Machine.execAmoand c x_s o d a l w s
  | .amoor c x_s o d a l w => Sys2Proof.Machine.execAmoor c x_s o d a l w s
  | .amoxor c x_s o d a l w => Sys2Proof.Machine.execAmoxor c x_s o d a l w s
  | .amoswap c x_s o d a l w => Sys2Proof.Machine.execAmoswap c x_s o d a l w s
  | .amocas c x_s o d a l w => Sys2Proof.Machine.execAmocas c x_s o d a l w s
  | .amoinc c x_s o d a l w => Sys2Proof.Machine.execAmoinc c x_s o d a l w s
  | .amofadd c x_s o d a l w => Sys2Proof.Machine.execAmofadd c x_s o d a l w s
  | .lr c x_s o d a l w => Sys2Proof.Machine.execLr c x_s o d a l w s
  | .sc c x_s o d a l w => Sys2Proof.Machine.execSc c x_s o d a l w s
  | .fence c x_s o => Sys2Proof.Machine.execFence c x_s o s
  | .pub c x_s d a => Sys2Proof.Machine.execPub c x_s d a s
  | .ldref c x_s o d a => Sys2Proof.Machine.execLdref c x_s o d a s
  | .stref c x_s o d a => Sys2Proof.Machine.execStref c x_s o d a s
  | .xpub c x_s d a => Sys2Proof.Machine.execXpub c x_s d a s
  | .arrive c x_s o d a => Sys2Proof.Machine.execArrive c x_s o d a s
  | .await c x_s o d a => Sys2Proof.Machine.execAwait c x_s o d a s
  | .bar c x_s o => Sys2Proof.Machine.execBar c x_s o s
  | .tagq c d a => Sys2Proof.Machine.execTagq c d a s
  | .untag c d => Sys2Proof.Machine.execUntag c d s
  | .xcpy c a => Sys2Proof.Machine.execXcpy c a s
  | .xnbmv c a => Sys2Proof.Machine.execXnbmv c a s
  | .xwait c n => Sys2Proof.Machine.execXwait c n s
  | .nbarArrive c n k => Sys2Proof.Machine.execNbarArrive c n k s
  | .nbarWait c a k => Sys2Proof.Machine.execNbarWait c a k s
  | .tstart c a => Sys2Proof.Machine.execTstart c a s
  | .launch c a => Sys2Proof.Machine.execLaunch c a s
  | .lwait c n => Sys2Proof.Machine.execLwait c n s
  | .tslot n o => Sys2Proof.Machine.execTslot n o s
  | .tmma a b r c x_i k => Sys2Proof.Machine.execTmma a b r c x_i k s
  | .tmmas a b r c x_i q k => Sys2Proof.Machine.execTmmas a b r c x_i q k s
  | .tzero r c => Sys2Proof.Machine.execTzero r c s
  | .tscale n r c => Sys2Proof.Machine.execTscale n r c s
  | .tcvt n r c => Sys2Proof.Machine.execTcvt n r c s
  | .tacc n r c => Sys2Proof.Machine.execTacc n r c s
  | .twait k g => Sys2Proof.Machine.execTwait k g s
  | .tarriveBarrier k n => Sys2Proof.Machine.execTarriveBarrier k n s
  | .tarriveObject n => Sys2Proof.Machine.execTarriveObject n s
  | .tloop c l => Sys2Proof.Machine.execTloop c l s
  | .tend => Sys2Proof.Machine.execTend s
  | .tcbk n o => Sys2Proof.Machine.execTcbk n o s
  | .prio c p => Sys2Proof.Machine.execPrio c p s
  | .rsys d x_i => Sys2Proof.Machine.execRsys d x_i s
  | .wsys a x_i => Sys2Proof.Machine.execWsys a x_i s
  | .trap c => Sys2Proof.Machine.execTrap c s
  | .eret => Sys2Proof.Machine.execEret s
  | .phase p => Sys2Proof.Machine.execPhase p s
  | .tokq d x_s => Sys2Proof.Machine.execTokq d x_s s
  | .clock d x_s => Sys2Proof.Machine.execClock d x_s s
  | .yield => Sys2Proof.Machine.execYield s
  | .sleep n => Sys2Proof.Machine.execSleep n s
  | .brk c => Sys2Proof.Machine.execBrk c s
  | .udf c k x => Sys2Proof.Machine.execUdf c k x s
  | .muovoNop => Sys2Proof.Machine.execMuovoNop s
  | .muovoLi d x_i => Sys2Proof.Machine.execMuovoLi d x_i s
  | .muovoMov d a => Sys2Proof.Machine.execMuovoMov d a s
  | .muovoAdd d a b => Sys2Proof.Machine.execMuovoAdd d a b s
  | .muovoSub d a b => Sys2Proof.Machine.execMuovoSub d a b s
  | .muovoMul d a b => Sys2Proof.Machine.execMuovoMul d a b s
  | .muovoAnd d a b => Sys2Proof.Machine.execMuovoAnd d a b s
  | .muovoOr d a b => Sys2Proof.Machine.execMuovoOr d a b s
  | .muovoXor d a b => Sys2Proof.Machine.execMuovoXor d a b s
  | .muovoShl d a b => Sys2Proof.Machine.execMuovoShl d a b s
  | .muovoShr d a b => Sys2Proof.Machine.execMuovoShr d a b s
  | .muovoMin d a b => Sys2Proof.Machine.execMuovoMin d a b s
  | .muovoMax d a b => Sys2Proof.Machine.execMuovoMax d a b s
  | .muovoSlt d a b => Sys2Proof.Machine.execMuovoSlt d a b s
  | .muovoSle d a b => Sys2Proof.Machine.execMuovoSle d a b s
  | .muovoSeq d a b => Sys2Proof.Machine.execMuovoSeq d a b s
  | .muovoSel d a b => Sys2Proof.Machine.execMuovoSel d a b s
  | .muovoAddi d a x_i => Sys2Proof.Machine.execMuovoAddi d a x_i s
  | .muovoLdc d x_i => Sys2Proof.Machine.execMuovoLdc d x_i s
  | .muovoLda d a x_s o => Sys2Proof.Machine.execMuovoLda d a x_s o s
  | .muovoSta d a x_s o => Sys2Proof.Machine.execMuovoSta d a x_s o s
  | .muovoLdp d a f => Sys2Proof.Machine.execMuovoLdp d a f s
  | .muovoStdec a r => Sys2Proof.Machine.execMuovoStdec a r s
  | .muovoBf a k => Sys2Proof.Machine.execMuovoBf a k s
  | .muovoBt a k => Sys2Proof.Machine.execMuovoBt a k s
  | .muovoJf k => Sys2Proof.Machine.execMuovoJf k s
  | .muovoLoop l n => Sys2Proof.Machine.execMuovoLoop l n s
  | .muovoRet => Sys2Proof.Machine.execMuovoRet s
  | .rfetch b a d => Sys2Proof.Machine.execRfetch b a d s
  | .xhallBfx b a d => Sys2Proof.Machine.execXhallBfx b a d s
  | .swait b a d => Sys2Proof.Machine.execSwait b a d s
  | .disp a d => Sys2Proof.Machine.execDisp a d s
  | .abortTeam grid team => Sys2Proof.Machine.execAbortTeam grid team s
  | .abortGrid grid => Sys2Proof.Machine.execAbortGrid grid s
  | .swaitEnd f irq => Sys2Proof.Machine.execSwaitEnd f irq s
  | .fairnessPromotion gk idx => Sys2Proof.Machine.execFairnessPromotion gk idx s
  | .savingEntry core quad => Sys2Proof.Machine.execSavingEntry core quad s
  | .sequencerSavingEntry core => Sys2Proof.Machine.execSequencerSavingEntry core s
  | .reservationLapse gk lane => Sys2Proof.Machine.execReservationLapse gk lane s
  | .sleepExpiry gk idx => Sys2Proof.Machine.execSleepExpiry gk idx s
  | .arcadeRingCycle die => Sys2Proof.Machine.execArcadeRingCycle die s
  | .gbudgetWrite die x => Sys2Proof.Machine.execGbudgetWrite die x s
  | .byteBudgetInterval => Sys2Proof.Machine.execByteBudgetInterval s
  | .memoryAccessPerformed gk idx => Sys2Proof.Machine.execMemoryAccessPerformed gk idx s
  | .loadDataReturn gk n => Sys2Proof.Machine.execLoadDataReturn gk n s
  | .instructionFetch gk idx => Sys2Proof.Machine.execInstructionFetch gk idx s
  | .walk gk idx => Sys2Proof.Machine.execWalk gk idx s
  | .awaitEnd gk idx => Sys2Proof.Machine.execAwaitEnd gk idx s
  | .barComplete tk => Sys2Proof.Machine.execBarComplete tk s
  | .xwaitEnd gk idx => Sys2Proof.Machine.execXwaitEnd gk idx s
  | .nbarWaitEnd gk idx => Sys2Proof.Machine.execNbarWaitEnd gk idx s
  | .lwaitEnd gk idx => Sys2Proof.Machine.execLwaitEnd gk idx s
  | .launchDecided gk idx => Sys2Proof.Machine.execLaunchDecided gk idx s
  | .clockComplete gk idx => Sys2Proof.Machine.execClockComplete gk idx s
  | .copyUnitDeliver n => Sys2Proof.Machine.execCopyUnitDeliver n s
  | .metadataEntryPush n => Sys2Proof.Machine.execMetadataEntryPush n s
  | .codebookWrite n => Sys2Proof.Machine.execCodebookWrite n s
  | .peerLineAck n ok => Sys2Proof.Machine.execPeerLineAck n ok s
  | .nearBankTranslate n => Sys2Proof.Machine.execNearBankTranslate n s
  | .nearBankRowDeliver n => Sys2Proof.Machine.execNearBankRowDeliver n s
  | .arrivalObjectUpdate n => Sys2Proof.Machine.execArrivalObjectUpdate n s
  | .tileTaskIssue core n => Sys2Proof.Machine.execTileTaskIssue core n s
  | .tileTaskRetire core n => Sys2Proof.Machine.execTileTaskRetire core n s
  | .teamEnd tk => Sys2Proof.Machine.execTeamEnd tk s
  | .gridRetire grid => Sys2Proof.Machine.execGridRetire grid s
  | .notifyWrite fn off size data => Sys2Proof.Machine.execNotifyWrite fn off size data s
  | .badpkt q => Sys2Proof.Machine.execBadpkt q s
  | .launchPacket q => Sys2Proof.Machine.execLaunchPacket q s
  | .copyPacket q n => Sys2Proof.Machine.execCopyPacket q n s
  | .queueCopyComplete n => Sys2Proof.Machine.execQueueCopyComplete n s
  | .signalPacket q => Sys2Proof.Machine.execSignalPacket q s
  | .waitPacket q => Sys2Proof.Machine.execWaitPacket q s
  | .waitConditionMet n => Sys2Proof.Machine.execWaitConditionMet n s
  | .policyLoad q => Sys2Proof.Machine.execPolicyLoad q s
  | .policyLoadInstalled n => Sys2Proof.Machine.execPolicyLoadInstalled n s
  | .faultReply q => Sys2Proof.Machine.execFaultReply q s
  | .publishCode q n => Sys2Proof.Machine.execPublishCode q n s
  | .publishCodeComplete n => Sys2Proof.Machine.execPublishCodeComplete n s
  | .completionRecordWrite fn ring => Sys2Proof.Machine.execCompletionRecordWrite fn ring s
  | .eventRingTimeTrigger fn ring => Sys2Proof.Machine.execEventRingTimeTrigger fn ring s
  | .loadAqi q => Sys2Proof.Machine.execLoadAqi q s
  | .loadAqiComplete => Sys2Proof.Machine.execLoadAqiComplete s
  | .invPasid finv fn pasid kill => Sys2Proof.Machine.execInvPasid finv fn pasid kill s
  | .invPasidComplete finv fn => Sys2Proof.Machine.execInvPasidComplete finv fn s
  | .invS2 fn => Sys2Proof.Machine.execInvS2 fn s
  | .invS2Complete => Sys2Proof.Machine.execInvS2Complete s
  | .invIrte x_i => Sys2Proof.Machine.execInvIrte x_i s
  | .loadPool x_i => Sys2Proof.Machine.execLoadPool x_i s
  | .loadPeer x_i => Sys2Proof.Machine.execLoadPeer x_i s
  | .cfgcmdBadOp x => Sys2Proof.Machine.execCfgcmdBadOp x s
  | .erctlWrite fn ring base x => Sys2Proof.Machine.execErctlWrite fn ring base x s
  | .fqctlWrite fn base x => Sys2Proof.Machine.execFqctlWrite fn base x s
  | .fdropRead fn => Sys2Proof.Machine.execFdropRead fn s
  | .irblkRead => Sys2Proof.Machine.execIrblkRead s
  | .registerWrite fn off x => Sys2Proof.Machine.execRegisterWrite fn off x s
  | .functionLevelReset fn => Sys2Proof.Machine.execFunctionLevelReset fn s
  | .hostCxlMemAccess h write caching bytes data => Sys2Proof.Machine.execHostCxlMemAccess h write caching bytes data s
  | .bisnpResponse line => Sys2Proof.Machine.execBisnpResponse line s
  | .hostPortTrained modules => Sys2Proof.Machine.execHostPortTrained modules s
  | .scaleupPortTrained port => Sys2Proof.Machine.execScaleupPortTrained port s
  | .scaleupPortFailed port => Sys2Proof.Machine.execScaleupPortFailed port s
  | .peerLineInbound d va size data => Sys2Proof.Machine.execPeerLineInbound d va size data s
  | .enqDecision k => Sys2Proof.Machine.execEnqDecision k s
  | .hypPickDecision => Sys2Proof.Machine.execHypPickDecision s
  | .pickDecision k => Sys2Proof.Machine.execPickDecision k s
  | .tickDecision k => Sys2Proof.Machine.execTickDecision k s
  | .hypTickDecision => Sys2Proof.Machine.execHypTickDecision s
  | .blockDecision k => Sys2Proof.Machine.execBlockDecision k s
  | .wakeDecision k => Sys2Proof.Machine.execWakeDecision k s
  | .migrateDecision k => Sys2Proof.Machine.execMigrateDecision k s
  | .tenantTickExpiry k tenant => Sys2Proof.Machine.execTenantTickExpiry k tenant s
  | .hypTickExpiry => Sys2Proof.Machine.execHypTickExpiry s
  | .blockWaitTimeout tk => Sys2Proof.Machine.execBlockWaitTimeout tk s
  | .contextSaveComplete tk => Sys2Proof.Machine.execContextSaveComplete tk s
  | .frameMoveComplete frame => Sys2Proof.Machine.execFrameMoveComplete frame s
  | .discmd x => Sys2Proof.Machine.execDiscmd x s
  | .discardComplete => Sys2Proof.Machine.execDiscardComplete s
  | .homeq x => Sys2Proof.Machine.execHomeq x s
  | .watchdogExpiry tk => Sys2Proof.Machine.execWatchdogExpiry tk s
  | .softErrorCorrectable x_s core line => Sys2Proof.Machine.execSoftErrorCorrectable x_s core line s
  | .softErrorUncorrectable poison x_s unit pa tks finder => Sys2Proof.Machine.execSoftErrorUncorrectable poison x_s unit pa tks finder s
  | .deviceReset => Sys2Proof.Machine.execDeviceReset s
  | .bootStageComplete => Sys2Proof.Machine.execBootStageComplete s
  | .doeDiscovery index => Sys2Proof.Machine.execDoeDiscovery index s
  | .getVersion version => Sys2Proof.Machine.execGetVersion version s
  | .getCapabilities version => Sys2Proof.Machine.execGetCapabilities version s
  | .negotiateAlgorithms version asym hash meas => Sys2Proof.Machine.execNegotiateAlgorithms version asym hash meas s
  | .getDigests version => Sys2Proof.Machine.execGetDigests version s
  | .getCertificate version slot off len => Sys2Proof.Machine.execGetCertificate version slot off len s
  | .challenge version slot nonce => Sys2Proof.Machine.execChallenge version slot nonce s
  | .getMeasurements version index signed slot nonce => Sys2Proof.Machine.execGetMeasurements version index signed slot nonce s
  | .spdmUnsupportedRequest version code => Sys2Proof.Machine.execSpdmUnsupportedRequest version code s
  | .doeAbort => Sys2Proof.Machine.execDoeAbort s
  | .clctlPoolWrite c x => Sys2Proof.Machine.execClctlPoolWrite c x s
  | .poolTakesEffect c => Sys2Proof.Machine.execPoolTakesEffect c s
  | .stallSample => Sys2Proof.Machine.execStallSample s
  | .optctlClr x => Sys2Proof.Machine.execOptctlClr x s
  | .frequencySwitch c => Sys2Proof.Machine.execFrequencySwitch c s
  | .railHoldExpiry r => Sys2Proof.Machine.execRailHoldExpiry r s
  | .railReachesTarget r => Sys2Proof.Machine.execRailReachesTarget r s
  | .trimctlWrite x => Sys2Proof.Machine.execTrimctlWrite x s
  | .trimReview => Sys2Proof.Machine.execTrimReview s
  | .trimDisableExpiry r => Sys2Proof.Machine.execTrimDisableExpiry r s
  | .thermalSensorChange c temp => Sys2Proof.Machine.execThermalSensorChange c temp s
  | .thermalEmergency c => Sys2Proof.Machine.execThermalEmergency c s
  | .railErrorCountRead r ue => Sys2Proof.Machine.execRailErrorCountRead r ue s
  | .accountingSnapshot x => Sys2Proof.Machine.execAccountingSnapshot x s
  | .rv64gcInstruction f => Sys2Proof.Machine.execRv64gcInstruction f s
  | .msixVectorUnmask fn vec x => Sys2Proof.Machine.execMsixVectorUnmask fn vec x s
  | .peerRefused n => Sys2Proof.Machine.execPeerRefused n s

end Sys2Proof.Machine
end

