-- ==== Sys2Proof/Machine/Events.lean ====
section
/-! DEFINITION. The rows of the table that are events: what units and the world outside do, with no word of their own. -/

namespace Sys2Proof

/-- The row is an event (no encoding in the table). -/
def isEvent (i : Instr) : Bool :=
  match i with
  | .nop _ => false
  | .add _ _ _ _ _ _ => false
  | .addScalar _ _ _ _ _ _ => false
  | .sub _ _ _ _ _ _ => false
  | .subScalar _ _ _ _ _ _ => false
  | .adds _ _ _ _ _ _ => false
  | .addsScalar _ _ _ _ _ _ => false
  | .subs _ _ _ _ _ _ => false
  | .subsScalar _ _ _ _ _ _ => false
  | .mul _ _ _ _ _ _ => false
  | .mulScalar _ _ _ _ _ _ => false
  | .mulh _ _ _ _ _ _ => false
  | .mulhScalar _ _ _ _ _ _ => false
  | .mad _ _ _ _ _ _ => false
  | .madScalar _ _ _ _ _ _ => false
  | .dot2 _ _ _ _ _ _ => false
  | .dot2Scalar _ _ _ _ _ _ => false
  | .min _ _ _ _ _ _ => false
  | .minScalar _ _ _ _ _ _ => false
  | .max _ _ _ _ _ _ => false
  | .maxScalar _ _ _ _ _ _ => false
  | .absd _ _ _ _ _ _ => false
  | .absdScalar _ _ _ _ _ _ => false
  | .and _ _ _ _ _ _ => false
  | .andScalar _ _ _ _ _ _ => false
  | .or _ _ _ _ _ _ => false
  | .orScalar _ _ _ _ _ _ => false
  | .xor _ _ _ _ _ _ => false
  | .xorScalar _ _ _ _ _ _ => false
  | .andn _ _ _ _ _ _ => false
  | .andnScalar _ _ _ _ _ _ => false
  | .shl _ _ _ _ _ _ => false
  | .shlScalar _ _ _ _ _ _ => false
  | .shr _ _ _ _ _ _ => false
  | .shrScalar _ _ _ _ _ _ => false
  | .shrr _ _ _ _ _ _ => false
  | .shrrScalar _ _ _ _ _ _ => false
  | .rotl _ _ _ _ _ _ => false
  | .rotlScalar _ _ _ _ _ _ => false
  | .ceq _ _ _ _ _ _ => false
  | .ceqScalar _ _ _ _ _ _ => false
  | .clt _ _ _ _ _ _ => false
  | .cltScalar _ _ _ _ _ _ => false
  | .cle _ _ _ _ _ _ => false
  | .cleScalar _ _ _ _ _ _ => false
  | .bfx _ _ _ _ _ _ => false
  | .bfxScalar _ _ _ _ _ _ => false
  | .bfi _ _ _ _ _ _ => false
  | .bfiScalar _ _ _ _ _ _ => false
  | .popc _ _ _ _ _ => false
  | .clz _ _ _ _ _ => false
  | .brev _ _ _ _ _ => false
  | .sel _ _ _ _ _ _ => false
  | .selScalar _ _ _ _ _ _ => false
  | .avg _ _ _ _ _ _ => false
  | .avgScalar _ _ _ _ _ _ => false
  | .fadd _ _ _ _ _ _ => false
  | .faddScalar _ _ _ _ _ _ => false
  | .fsub _ _ _ _ _ _ => false
  | .fsubScalar _ _ _ _ _ _ => false
  | .fmul _ _ _ _ _ _ => false
  | .fmulScalar _ _ _ _ _ _ => false
  | .fma _ _ _ _ _ _ => false
  | .fmaScalar _ _ _ _ _ _ => false
  | .fms _ _ _ _ _ _ => false
  | .fmsScalar _ _ _ _ _ _ => false
  | .fnma _ _ _ _ _ _ => false
  | .fnmaScalar _ _ _ _ _ _ => false
  | .fmin _ _ _ _ _ _ => false
  | .fminScalar _ _ _ _ _ _ => false
  | .fmax _ _ _ _ _ _ => false
  | .fmaxScalar _ _ _ _ _ _ => false
  | .fminm _ _ _ _ _ _ => false
  | .fminmScalar _ _ _ _ _ _ => false
  | .fmaxm _ _ _ _ _ _ => false
  | .fmaxmScalar _ _ _ _ _ _ => false
  | .fabs _ _ _ _ _ => false
  | .fneg _ _ _ _ _ => false
  | .fceq _ _ _ _ _ _ => false
  | .fceqScalar _ _ _ _ _ _ => false
  | .fclt _ _ _ _ _ _ => false
  | .fcltScalar _ _ _ _ _ _ => false
  | .fcle _ _ _ _ _ _ => false
  | .fcleScalar _ _ _ _ _ _ => false
  | .fcun _ _ _ _ _ _ => false
  | .fcunScalar _ _ _ _ _ _ => false
  | .fcls _ _ _ _ _ => false
  | .frnd _ _ _ _ _ => false
  | .fcopysign _ _ _ _ _ _ => false
  | .fcopysignScalar _ _ _ _ _ _ => false
  | .fscale _ _ _ _ _ _ => false
  | .fscaleScalar _ _ _ _ _ _ => false
  | .fdot2 _ _ _ _ _ _ => false
  | .fdot2Scalar _ _ _ _ _ _ => false
  | .cvt _ _ _ _ _ _ _ => false
  | .pack _ _ _ _ _ _ => false
  | .unpackLo _ _ _ _ _ => false
  | .unpackHi _ _ _ _ _ => false
  | .rcp _ _ _ _ _ => false
  | .rsqrt _ _ _ _ _ => false
  | .sqrt _ _ _ _ _ => false
  | .exp2 _ _ _ _ _ => false
  | .log2 _ _ _ _ _ => false
  | .sin _ _ _ _ _ => false
  | .cos _ _ _ _ _ => false
  | .tanh _ _ _ _ _ => false
  | .quant _ _ _ _ _ _ => false
  | .dequant _ _ _ _ _ _ => false
  | .cbk _ _ _ _ _ => false
  | .fdiv _ _ _ _ _ _ => false
  | .idiv _ _ _ _ _ _ => false
  | .irem _ _ _ _ _ _ => false
  | .shfl _ _ _ _ _ _ => false
  | .slideUp _ _ _ _ _ _ => false
  | .slideDn _ _ _ _ _ _ => false
  | .bcast _ _ _ _ _ _ => false
  | .redAdd _ _ _ _ _ => false
  | .redMin _ _ _ _ _ => false
  | .redMax _ _ _ _ _ => false
  | .redFadd _ _ _ _ _ => false
  | .scanAdd _ _ _ _ _ => false
  | .voteAny _ _ _ _ => false
  | .voteAll _ _ _ _ => false
  | .ballot _ _ _ _ => false
  | .sp24 _ _ _ _ _ => false
  | .sort8 _ _ _ _ _ => false
  | .matchEq _ _ _ _ _ => false
  | .compress _ _ _ _ _ _ => false
  | .expand _ _ _ _ _ _ => false
  | .transp _ _ _ _ _ => false
  | .merge2 _ _ _ _ _ _ => false
  | .addi _ _ _ _ _ _ => false
  | .muli _ _ _ _ _ _ => false
  | .andi _ _ _ _ _ _ => false
  | .ori _ _ _ _ _ _ => false
  | .xori _ _ _ _ _ _ => false
  | .shli _ _ _ _ _ _ => false
  | .shri _ _ _ _ _ _ => false
  | .srai _ _ _ _ _ _ => false
  | .shrri _ _ _ _ _ _ => false
  | .ceqi _ _ _ _ _ _ => false
  | .clti _ _ _ _ _ _ => false
  | .slidei _ _ _ _ _ _ => false
  | .mini _ _ _ _ _ _ => false
  | .maxi _ _ _ _ _ _ => false
  | .sadd _ _ _ _ _ => false
  | .ssub _ _ _ _ _ => false
  | .smul _ _ _ _ _ => false
  | .smulh _ _ _ _ _ => false
  | .sand _ _ _ _ _ => false
  | .sor _ _ _ _ _ => false
  | .sxor _ _ _ _ _ => false
  | .sshl _ _ _ _ _ => false
  | .sshr _ _ _ _ _ => false
  | .ssra _ _ _ _ _ => false
  | .smin _ _ _ _ _ => false
  | .smax _ _ _ _ _ => false
  | .sceq _ _ _ _ _ => false
  | .sclt _ _ _ _ _ => false
  | .scltn _ _ _ _ _ => false
  | .ssel _ _ _ _ _ => false
  | .sbfx _ _ _ _ _ => false
  | .sbfi _ _ _ _ _ => false
  | .spopc _ _ _ => false
  | .sclz _ _ _ => false
  | .vtos _ _ _ _ _ => false
  | .stov _ _ _ _ _ => false
  | .sdiv _ _ _ _ _ => false
  | .srem _ _ _ _ _ => false
  | .liS _ _ _ _ => false
  | .likS _ _ _ _ => false
  | .liV _ _ _ _ _ => false
  | .likV _ _ _ _ _ => false
  | .ld _ _ _ _ _ _ => false
  | .st _ _ _ _ _ _ => false
  | .ldtm _ _ _ _ _ _ => false
  | .sttm _ _ _ _ _ _ => false
  | .ldacc _ _ _ => false
  | .stacc _ _ _ => false
  | .ldnt _ _ _ _ _ _ => false
  | .stnt _ _ _ _ _ _ => false
  | .lds _ _ _ _ _ _ => false
  | .sts _ _ _ _ _ _ => false
  | .pref _ _ _ _ => false
  | .ldg _ _ _ _ _ _ => false
  | .stg _ _ _ _ _ _ => false
  | .ldgtm _ _ _ _ _ _ => false
  | .stgtm _ _ _ _ _ _ => false
  | .bra _ _ => false
  | .brn _ _ => false
  | .jmp _ => false
  | .call _ => false
  | .jmpi _ => false
  | .ret => false
  | .join _ _ => false
  | .loop _ _ _ => false
  | .exit => false
  | .braAny _ _ => false
  | .braAll _ _ => false
  | .trapc _ _ => false
  | .amoadd _ _ _ _ _ _ _ => false
  | .amomin _ _ _ _ _ _ _ _ => false
  | .amomax _ _ _ _ _ _ _ _ => false
  | .amoand _ _ _ _ _ _ _ => false
  | .amoor _ _ _ _ _ _ _ => false
  | .amoxor _ _ _ _ _ _ _ => false
  | .amoswap _ _ _ _ _ _ _ => false
  | .amocas _ _ _ _ _ _ _ => false
  | .amoinc _ _ _ _ _ _ _ => false
  | .amofadd _ _ _ _ _ _ _ => false
  | .lr _ _ _ _ _ _ _ => false
  | .sc _ _ _ _ _ _ _ => false
  | .fence _ _ _ => false
  | .pub _ _ _ _ => false
  | .ldref _ _ _ _ _ => false
  | .stref _ _ _ _ _ => false
  | .xpub _ _ _ _ => false
  | .arrive _ _ _ _ _ => false
  | .await _ _ _ _ _ => false
  | .bar _ _ _ => false
  | .tagq _ _ _ => false
  | .untag _ _ => false
  | .xcpy _ _ => false
  | .xnbmv _ _ => false
  | .xwait _ _ => false
  | .nbarArrive _ _ _ => false
  | .nbarWait _ _ _ => false
  | .tstart _ _ => false
  | .launch _ _ => false
  | .lwait _ _ => false
  | .prio _ _ => false
  | .rsys _ _ => false
  | .wsys _ _ => false
  | .trap _ => false
  | .eret => false
  | .phase _ => false
  | .tokq _ _ => false
  | .clock _ _ => false
  | .yield => false
  | .sleep _ => false
  | .brk _ => false
  | .udf _ _ _ => false
  | .tslot _ _ => false
  | .tmma _ _ _ _ _ _ => false
  | .tmmas _ _ _ _ _ _ _ => false
  | .tzero _ _ => false
  | .tscale _ _ _ => false
  | .tcvt _ _ _ => false
  | .tacc _ _ _ => false
  | .twait _ _ => false
  | .tarriveBarrier _ _ => false
  | .tarriveObject _ => false
  | .tloop _ _ => false
  | .tend => false
  | .tcbk _ _ => false
  | .rfetch _ _ _ => false
  | .xhallBfx _ _ _ => false
  | .swait _ _ _ => false
  | .disp _ _ => false
  | .muovoNop => false
  | .muovoLi _ _ => false
  | .muovoMov _ _ => false
  | .muovoAdd _ _ _ => false
  | .muovoSub _ _ _ => false
  | .muovoMul _ _ _ => false
  | .muovoAnd _ _ _ => false
  | .muovoOr _ _ _ => false
  | .muovoXor _ _ _ => false
  | .muovoShl _ _ _ => false
  | .muovoShr _ _ _ => false
  | .muovoMin _ _ _ => false
  | .muovoMax _ _ _ => false
  | .muovoSlt _ _ _ => false
  | .muovoSle _ _ _ => false
  | .muovoSeq _ _ _ => false
  | .muovoSel _ _ _ => false
  | .muovoAddi _ _ _ => false
  | .muovoLdc _ _ => false
  | .muovoLda _ _ _ _ => false
  | .muovoSta _ _ _ _ => false
  | .muovoLdp _ _ _ => false
  | .muovoStdec _ _ => false
  | .muovoBf _ _ => false
  | .muovoBt _ _ => false
  | .muovoJf _ => false
  | .muovoLoop _ _ => false
  | .muovoRet => false
  | .abortTeam _ _ => true
  | .abortGrid _ => true
  | .swaitEnd _ _ => true
  | .fairnessPromotion _ _ => true
  | .savingEntry _ _ => true
  | .sequencerSavingEntry _ => true
  | .reservationLapse _ _ => true
  | .sleepExpiry _ _ => true
  | .arcadeRingCycle _ => true
  | .gbudgetWrite _ _ => true
  | .byteBudgetInterval => true
  | .memoryAccessPerformed _ _ => true
  | .loadDataReturn _ _ => true
  | .instructionFetch _ _ => true
  | .walk _ _ => true
  | .awaitEnd _ _ => true
  | .barComplete _ => true
  | .xwaitEnd _ _ => true
  | .nbarWaitEnd _ _ => true
  | .lwaitEnd _ _ => true
  | .launchDecided _ _ => true
  | .clockComplete _ _ => true
  | .copyUnitDeliver _ => true
  | .metadataEntryPush _ => true
  | .codebookWrite _ => true
  | .peerLineAck _ _ => true
  | .nearBankTranslate _ => true
  | .nearBankRowDeliver _ => true
  | .arrivalObjectUpdate _ => true
  | .tileTaskIssue _ _ => true
  | .tileTaskRetire _ _ => true
  | .teamEnd _ => true
  | .gridRetire _ => true
  | .notifyWrite _ _ _ _ => true
  | .badpkt _ => true
  | .launchPacket _ => true
  | .copyPacket _ _ => true
  | .queueCopyComplete _ => true
  | .signalPacket _ => true
  | .waitPacket _ => true
  | .waitConditionMet _ => true
  | .policyLoad _ => true
  | .policyLoadInstalled _ => true
  | .faultReply _ => true
  | .publishCode _ _ => true
  | .publishCodeComplete _ => true
  | .completionRecordWrite _ _ => true
  | .eventRingTimeTrigger _ _ => true
  | .loadAqi _ => true
  | .loadAqiComplete => true
  | .invPasid _ _ _ _ => true
  | .invPasidComplete _ _ => true
  | .invS2 _ => true
  | .invS2Complete => true
  | .invIrte _ => true
  | .loadPool _ => true
  | .loadPeer _ => true
  | .cfgcmdBadOp _ => true
  | .erctlWrite _ _ _ _ => true
  | .fqctlWrite _ _ _ => true
  | .fdropRead _ => true
  | .irblkRead => true
  | .registerWrite _ _ _ => true
  | .functionLevelReset _ => true
  | .hostCxlMemAccess _ _ _ _ _ => true
  | .bisnpResponse _ => true
  | .hostPortTrained _ => true
  | .scaleupPortTrained _ => true
  | .scaleupPortFailed _ => true
  | .peerLineInbound _ _ _ _ => true
  | .enqDecision _ => true
  | .hypPickDecision => true
  | .pickDecision _ => true
  | .tickDecision _ => true
  | .hypTickDecision => true
  | .blockDecision _ => true
  | .wakeDecision _ => true
  | .migrateDecision _ => true
  | .tenantTickExpiry _ _ => true
  | .hypTickExpiry => true
  | .blockWaitTimeout _ => true
  | .contextSaveComplete _ => true
  | .frameMoveComplete _ => true
  | .discmd _ => true
  | .discardComplete => true
  | .homeq _ => true
  | .watchdogExpiry _ => true
  | .softErrorCorrectable _ _ _ => true
  | .softErrorUncorrectable _ _ _ _ _ _ => true
  | .deviceReset => true
  | .bootStageComplete => true
  | .doeDiscovery _ => true
  | .getVersion _ => true
  | .getCapabilities _ => true
  | .negotiateAlgorithms _ _ _ _ => true
  | .getDigests _ => true
  | .getCertificate _ _ _ _ => true
  | .challenge _ _ _ => true
  | .getMeasurements _ _ _ _ _ => true
  | .spdmUnsupportedRequest _ _ => true
  | .doeAbort => true
  | .clctlPoolWrite _ _ => true
  | .poolTakesEffect _ => true
  | .stallSample => true
  | .optctlClr _ => true
  | .frequencySwitch _ => true
  | .railHoldExpiry _ => true
  | .railReachesTarget _ => true
  | .trimctlWrite _ => true
  | .trimReview => true
  | .trimDisableExpiry _ => true
  | .thermalSensorChange _ _ => true
  | .thermalEmergency _ => true
  | .railErrorCountRead _ _ => true
  | .accountingSnapshot _ => true
  | .rv64gcInstruction _ => true
  | .msixVectorUnmask _ _ _ => true
  | .peerRefused _ => true

end Sys2Proof
end

