-- ==== Sys2Proof/Machine/Turns.lean ====
section
/-! DEFINITION. What each unit does when the turn is its: a cluster whose clock runs (R411), and in its cycle the quadrants and tile
sequencers of its cores; a policy engine's next word (R357), a firmware core's next instruction, and the events. A turn that names no
unit or no event passes. -/

namespace Sys2Proof.Machine

/-- The next word of a policy engine's decision, or its end once it has no more words (R351, R357). -/
def policyCycle (k : Nat) (s : State) : Out :=
  match (s.engine k).run with
  | none => .next s
  | some d =>
    match d.routine.words[d.pc]? with
    | none => .next (s.endDecision k d)
    | some w => (runMuovo w { s with cur := { s.cur with unit := k } }).getD (.next (s.endDecision k d))
/-- The turns of one core in a cycle of its cluster: its quadrants by number, then its sequencer (R292). -/
def coreTurns (core : Nat) : List Turn := (List.range 4).map (Turn.quadrant core) ++ [.sequencer core]
/-- The cores of a cluster: those of an order first, then the others. -/
def coreOrder (c : Nat) (order : List Nat) : List Nat :=
  ((order.filter (fun k => decide (k < 160) && clusterOf k == c)) ++ (List.range 8).map (fun j => c * 8 + j)).eraseDups
/-- One cycle of a cluster begins (R266): CLOCK counts it, and the turns of its cores come next. -/
def State.clusterCycle (s : State) (c : Nat) (order : List Nat) : State :=
  let x := s.cluster c
  if c < 20 ∧ x.run = true then
    { s.setCluster c { x with clock := x.clock + 1 } with schedule := (coreOrder c order).flatMap coreTurns ++ s.schedule }
  else s
/-- The unit or event of a turn acts. -/
def takeTurn (t : Turn) (s : State) : Out :=
  match t with
  | .cluster c order => .next (s.clusterCycle c order)
  | .quadrant core q => if core < 160 ∧ q < 4 ∧ (s.cluster (clusterOf core)).run = true then quadCycle (core * 4 + q) s else .next s
  | .sequencer core => if core < 160 ∧ (s.cluster (clusterOf core)).run = true then seqCycle core s else .next s
  | .policy k => if k < 21 then policyCycle k s else .next s
  | .firmware f => if f < 4 then s.hartCycle f else .next s
  | .event i => if isEvent i then exec i s else .next s
/-- A turn that no schedule lists: a quadrant or sequencer has its turn in the cycle of its cluster only. -/
def Turn.unlisted : Turn → Turn
  | .quadrant core _ => .cluster (clusterOf core) []
  | .sequencer core => .cluster (clusterOf core) []
  | t => t
/-! ## Places in the queues -/

/-- An entry of a group whose team's save is not in progress. -/
def State.entryAt (s : State) (gk : Nat) (f : Entry → Bool) : Bool :=
  let g := s.group gk
  g.present && g.frontier.any f && (s.team g.tk).draining.isNone
/-- A sender that waits still has its access to make. -/
def State.heldLive (s : State) (k : Sender) : Bool :=
  let tile (core : Nat) (f : Tile → Bool) : Bool :=
    let t := s.tile core
    t.owned && f t && (s.team t.tk).draining.isNone
  match k with
  | .group gk va => s.entryAt gk (fun e => e.pc.toNat == va && !e.held && e.pend.isNone)
  | .tile core va => tile core (fun t => t.run == .fetching && t.pc.toNat == va)
  | .slot core _ => tile core (fun t => t.table.any (fun x => !x.issued))
  | .task core n => tile core (fun t => t.table.any (fun x => x.num == n))
  | .head n => s.aqis.any (fun a => a.2.queue.head?.any (fun p => p.1 == n))
  | .job n => s.jobs.any (fun j => j.1 == n)
  | .launch gk pc => (s.group gk).frontier.any (fun e => e.pc.toNat == pc && e.pend.any (fun p => p.kind == .launch))
  | .grid id => (s.grid (BitVec.ofNat 32 id)).present
  | .ring x => !(nget [] s.ringWait x).isEmpty && !s.ringFull (x / 16) (x % 16)
  | .fault fn => s.recs.any (fun r => r.queue == fn)
  | .image slot => s.teams.any (fun t => t.2.draining.any (fun d => d.1 == slot))
  | .hart f pc => !(s.hart f).held && (s.hart f).pc.toNat == pc
  | .exit grid id =>
    s.exits.any (fun x => x.1.grid.toNat == grid && x.1.id == id) || s.teams.any (fun t => t.2.grid.toNat == grid && t.2.id == id)
  | .host _ => true
  | .peer _ _ => true
/-- Places whose sender has no access left are given up. -/
def State.dropPlaces (s : State) : State := { s with held := s.held.filter (fun h => s.heldLive h.1) }
/-- The records that a turn raised leave for the fault queues (R379), the resets that they held up go on (R343), and so do exit steps
that had to wait (R135); the step is over. -/
def drained : Out → Out
  | .next s => .next { s.drain.resumeResets.finishExits.dropPlaces with epoch := s.epoch + 1 }
  | o => o

/-! ## A word placed where the next step fetches it -/

/-- Where the placed tables and code lie: PASID table, nodes of levels 4, 3 and 2, and the packet. -/
def placePt : Nat := 0x10000
/-- The VA and PA of a placed packet. -/
def placeCode : Nat := 0x20040
/-- Memory with a table that maps the first 16 GiB onto itself, readable and executable, and the placed packet in state X. -/
def State.placeMemory (s : State) (w : Nat) : State :=
  let m := mwriteN s.mem placePt 16 (0x11000 + 1)
  let m := mwriteN m 0x11000 8 (0x12000 + 1)
  let m := mwriteN m 0x12000 8 (0x13000 + 1)
  let m := mwriteN m 0x13000 8 0x10B
  { s with
    mem := mwriteN m placeCode 16 w
    frames := ndel (ndel s.frames 1) 2
    tags := nput s.tags (placeCode / 64) 0x0400
    bar0 := nput (nput s.bar0 0x50 (BitVec.ofNat 64 placePt)) 0x58 0
    vfTab := ndel s.vfTab 0
    tlb1 := []
    tlb2 := []
    caches := nput s.caches 0 Caches.reset
    budgets := ndel s.budgets 0
    held := [] }
/-- A grid that may use every register and part. -/
def placeGrid : Grid :=
  { Grid.reset with present := true, hdr := BitVec.ofNat 64 placeCode, nv := 56, ns := 64, ld := 16, tmsize := 0x10000, cgen := true }
/-- A team with one group on quadrant 0 of core 0, whose only entry stands at the placed packet. -/
def State.placeTeam (s : State) : State :=
  let e : Entry := { Entry.reset with pc := BitVec.ofNat 64 placeCode, mask := 0xFFFFFFFF }
  { s with
    grids := nput s.grids 1 placeGrid
    teams := nput s.teams 0 { Team.reset with present := true, grid := 1, gks := [0] }
    groups := nput (s.groups.filter (fun g => decide (16 ≤ g.1))) 0 { Group.reset with present := true, frontier := [e] }
    quads := nput s.quads 0 { Quad.reset with bank := { Bank.reset with level := 2048 } }
    clusters := nput s.clusters 0 { s.cluster 0 with run := true } }
/-- A word placed in a stream, with the turn that fetches it. -/
def State.place (s : State) (stream : Stream) (w : Nat) : State :=
  match stream with
  | .group => { (s.placeMemory w).placeTeam with schedule := .quadrant 0 0 :: s.schedule }
  | .tile =>
    { (s.placeMemory w).placeTeam with
      tiles := nput s.tiles 0 { Tile.reset with owned := true, pc := BitVec.ofNat 64 placeCode, run := .fetching }
      seqBanks := nput s.seqBanks 0 { Bank.reset with level := 4096 }
      schedule := .sequencer 0 :: s.schedule }
  | .firmware =>
    { s with
      sram := mwriteN s.sram 0 4 w
      harts := nput s.harts 0 { Hart.reset with held := false, pc := 0x08000000 }
      schedule := .firmware 0 :: s.schedule }
  | .policy =>
    let r : Routine := { Routine.reset with words := [BitVec.ofNat 32 w], allow := 4096 }
    let d : Decision := { raised := Raised.reset, slot := 0, routine := r, arg := 0, cands := [], pc := 0, used := 0, w := [],
                          scratch := [], regs := [], loops := [] }
    { s with engines := nput s.engines 0 { Engine.reset with run := some d }, schedule := .policy 0 :: s.schedule }

end Sys2Proof.Machine
end

