-- ==== Sys2Proof/Machine/Step.lean ====
section
/-! DEFINITION. One step of the device: the next turn, then the fault records it raised go to their queues; and a word placed where
the next step runs it. -/

namespace Sys2Proof.Config

/-- The n-th turn when none is listed: nothing in the spec fixes the order in which units and the outside world act. -/
opaque freeTurn : Nat → Sys2Proof.Machine.Turn

end Sys2Proof.Config

namespace Sys2Proof.Machine

/-- The turn of the next step, with the machine that takes it. -/
def State.nextTurn (s : State) : Turn × State :=
  match s.schedule with
  | t :: r => (t, { s with schedule := r })
  | [] => ((Config.freeTurn s.free).unlisted, { s with free := s.free + 1 })

/-- One step. -/
def step (s : State) : Host.Outcome State Fault Refusal :=
  drained (takeTurn s.nextTurn.1 s.nextTurn.2)

/-- The machine with a word of the table placed where the next step fetches it: in the stream whose decoder reads it, with the
page tables, team, engine or core that a fetch needs, and the turn of the unit that fetches it. -/
noncomputable def State.withFetchWord (s : State) (nbits w : Nat) : State :=
  match decodeAnywhere (BitVec.ofNat 32 w) with
  | some (st, _) => if nbits ≤ 32 then s.place st (w % 2 ^ 32) else s
  | none => s.place .group (w % 2 ^ 32)

end Sys2Proof.Machine
end

