-- ==== Sys2Proof/Safety.lean ====
section
/-! DEFINITION. What counts as a safe run, and the terms in which claims about instruction words are stated: a bundle that is ready on
the port, and what a word may have changed. -/

namespace Sys2Proof.Machine

/-! ## Runs -/

/-- A step answers a next state. -/
def State.Runs (s : State) : Prop := ∃ t, step s = .next t

/-- Every step of a run of n steps answers a next state: no fault and no refusal. -/
def State.Safe : Nat → State → Prop
  | 0, _ => True
  | n + 1, s => ∃ t, step s = .next t ∧ State.Safe n t

/-- The byte memories: HBM, the host's, the Atrium, firmware SRAM, boot ROM and flash; team memories, of resident teams and of saved
ones; the scratch of the decisions that run. -/
def State.byteMemories (s : State) : List (List Host.Cell) :=
  [s.mem, s.hostMem, s.atrium, s.sram, s.rom, s.flashA, s.flashB] ++ s.teams.map (·.2.tmem) ++ s.saved.map (·.2.team.tmem) ++
    s.engines.filterMap (fun e => e.2.run.map (·.scratch))
/-- Every byte memory is in its canonical form: addresses strictly rising, no byte listed as 0. -/
def State.canonical (s : State) : Bool := s.byteMemories.all Memory.wf

/-! ## Words on the port -/

/-- The bundle on the port executes (it is not only checked), homes serve it, no lane of it has failed, nothing makes it wait,
and some lane performs it. -/
def State.ready (s : State) : Bool :=
  s.cur.fails.isEmpty && s.cur.blocked.isNone && !s.cur.dry && s.cur.serves && s.cur.act != 0

/-- Every latch among the operand codes that a word reads may be read here (R65). -/
def State.latchesOk (s : State) (codes : List (BitVec 6)) : Bool := codes.all (fun c => !isLatch c || latchLegal s c)

/-- Everything but the groups and the issue context. -/
def State.elsewhere (s : State) : State := { s with groups := [], cur := Cur.reset }

/-- Only the group on the port has changed, and of it neither identity nor fault state: the frame of a word that reaches no
memory. Its parked lanes and reservations stand unless an `exit` of the bundle ends lanes. -/
structure GroupOnly (s t : State) : Prop where
  /-- Teams, grids, quadrants, engines, memory of every kind, host queues and everything else outside the groups. -/
  elsewhere : t.elsewhere = s.elsewhere
  /-- Every byte of memory. -/
  memory : ∀ a, mread t.mem a = mread s.mem a
  /-- The group on the port is the same. -/
  port : t.cur.gk = s.cur.gk
  /-- The other groups. -/
  others : ∀ k, k ≠ s.cur.gk → t.group k = s.group k
  /-- Of the group itself, what is neither register nor place in the program. -/
  kept : { t.cg with regs := s.cg.regs, frontier := s.cg.frontier, landings := s.cg.landings, loops := s.cg.loops,
                     parked := s.cg.parked, resv := s.cg.resv } = s.cg
  /-- Parked lanes and reservations. -/
  lanes : s.cur.exited = 0 → t.cg.parked = s.cg.parked ∧ t.cg.resv = s.cg.resv

/-- An absent latch: value 0, in no hold chain. -/
def noLatch : Latch := { val := 0, chain := 0, packet := 0 }

/-- A vector word has written its result (R64, R157, R177, R179, R195): element `e` of the result is `(res e).1` and raises
the flags `(res e).2`. -/
structure VecWritten (pipe : Nat) (draws : Bool) (c k : BitVec 1) (d : BitVec 6) (w : Nat) (res : Nat → Nat × BitVec 8)
    (s t : State) : Prop where
  /-- The frame outside registers. -/
  frame : GroupOnly s t
  /-- s-registers with their tag bits. -/
  scalars : t.cg.regs.s = s.cg.regs.s ∧ t.cg.regs.stags = s.cg.regs.stags
  /-- p- and m-registers and FPC. -/
  masks : t.cg.regs.p = s.cg.regs.p ∧ t.cg.regs.m = s.cg.regs.m ∧ t.cg.regs.fpc = s.cg.regs.fpc
  /-- Loop counters change only at the end of a pass of the loop owner. -/
  counters : c = 1 ∨ s.cur.entry.owner = false → t.cg.regs.lc = s.cg.regs.lc
  /-- SEED advances, from the value that the word draws with, for a word that draws under SR; the next word draws with the
  advanced one (R161). -/
  seed : t.cg.regs.seed = (if draws = true ∧ s.renv.rm = 5 then srAdvance s.cur.seed else s.cg.regs.seed) ∧
    t.cur.seed = if draws = true ∧ s.renv.rm = 5 then srAdvance s.cur.seed else s.cur.seed
  /-- NFLAGS gathers the flags of the elements of active lanes. -/
  flags : ∀ i, t.cg.regs.nflags.getLsbD i = true ↔
    s.cg.regs.nflags.getLsbD i = true ∨
      ∃ e, e < 2048 / w ∧ s.cur.act.getLsbD (laneOf w e) = true ∧ (res e).2.getLsbD i = true
  /-- The other vector registers. -/
  others : ∀ n, n ≠ d.toNat → nget 0 t.cg.regs.v n = nget 0 s.cg.regs.v n ∧ nget 0 t.cg.regs.vtags n = nget 0 s.cg.regs.vtags n
  /-- K = 1 and the codes above the registers write none. -/
  dropped : k = 1 ∨ 0x38 ≤ d.toNat → t.cg.regs.v = s.cg.regs.v ∧ t.cg.regs.vtags = s.cg.regs.vtags
  /-- The destination register: active lanes take the result, the others keep what they held. -/
  written : k = 0 → d.toNat < 0x38 → ∀ e, e < 2048 / w →
    elem (nget 0 t.cg.regs.v d.toNat) w e =
      if s.cur.act.getLsbD (laneOf w e) then (res e).1 % 2 ^ w else elem (nget 0 s.cg.regs.v d.toNat) w e
  /-- Tag bits of the lanes written are cleared. -/
  tags : k = 0 → d.toNat < 0x38 → nget 0 t.cg.regs.vtags d.toNat = nget 0 s.cg.regs.vtags d.toNat &&& ~~~s.cur.act
  /-- The latch of the pipe holds the result, 0 in inactive lanes. -/
  latch : ∀ e, e < 2048 / w → elem (nget noLatch t.cg.regs.latch (2 * pipe)).val w e =
    if s.cur.act.getLsbD (laneOf w e) then (res e).1 % 2 ^ w else 0
  /-- The result before it moves to the pipe's second latch. -/
  latchBefore : nget noLatch t.cg.regs.latch (2 * pipe + 1) = nget noLatch s.cg.regs.latch (2 * pipe)
  /-- Latches of the other pipes. -/
  latches : ∀ n, n ≠ 2 * pipe → n ≠ 2 * pipe + 1 → nget noLatch t.cg.regs.latch n = nget noLatch s.cg.regs.latch n

/-- A scalar word has written one s-register with its tag bit (R202). -/
structure ScalarWritten (c : BitVec 1) (d : BitVec 6) (val : Dword) (tag : Bool) (s t : State) : Prop where
  /-- The frame outside registers. -/
  frame : GroupOnly s t
  /-- The destination. -/
  written : nget 0 t.cg.regs.s d.toNat = val ∧ t.cg.regs.stags.getLsbD d.toNat = tag
  /-- The other s-registers. -/
  others : ∀ n, n ≠ d.toNat → nget 0 t.cg.regs.s n = nget 0 s.cg.regs.s n ∧ t.cg.regs.stags.getLsbD n = s.cg.regs.stags.getLsbD n
  /-- Loop counters change only at the end of a pass of the loop owner. -/
  counters : c = 1 ∨ s.cur.entry.owner = false → t.cg.regs.lc = s.cg.regs.lc
  /-- Every other register and flag. -/
  rest : { t.cg.regs with s := s.cg.regs.s, stags := s.cg.regs.stags, lc := s.cg.regs.lc } = s.cg.regs

/-! ## Memory -/

/-- Everything but what a read at a home or in L1 may change: cached translations and lines, budgets and counts, and what a home
keeps of the leaf that an access went through; and but the groups and the issue context. -/
def State.accessAside (s : State) : State :=
  { s with tlb1 := [], tlb2 := [], caches := [], l2 := [], frames := [], budgets := [], free := 0, acct := [],
           interval := State.reset.interval, l2miss := [], groups := [], cur := Cur.reset }
/-- A frame but for what its home keeps of leaves. -/
def Frame.aside (f : Frame) : Frame := { f with cid := none }
/-- The issue context but for the memory service of the bundle, its saved base, and that the base has been stepped. -/
def Cur.aside (c : Cur) : Cur := { c with svc := Svc.reset, base := none, stepped := false }

/-- Everything but what a write at a home may change: that, memory with its tags, frames and snoops, reservations of firmware
cores, and the decisions that a write raises. -/
def State.writeAside (s : State) : State :=
  { s.accessAside with mem := [], hostMem := [], tags := [], bisnp := [], harts := [], engines := [] }

/-- A byte of memory as every agent reads it at its home. -/
def State.byteAt (s : State) (pa : Nat) : Nat := s.pread pa 1

/-- The registers after the increment of AM 2, which is made once (R235). -/
def incremented (s : State) (am : Nat) (b : BitVec 6) (inc : BitVec 5) : Regs :=
  if am = 2 then writeS b (s.sreg b + 64 * inc.setWidth 64) false s.cg.regs else s.cg.regs

/-- The value of an element that reads with a plan: the bytes of the L1 line that it hits, else those at the home (R99). -/
def planned (s : State) (q : Ask) : Option (Xlat × Option CacheLine) → Nat
  | some (x, some l) => lineBytes l.data x.pa q.n
  | some (x, none) => s.pread x.pa q.n
  | none => 0

/-- A word has loaded a vector register (R237): `regs` are the registers after its increment, `val` the value of each element
of an active lane. The destination is in flight, with `n` requests to global memory. -/
structure Loaded (d : BitVec 6) (w n : Nat) (regs : Regs) (val : Nat → Nat) (s v : State) : Prop where
  /-- Outside the group and the bookkeeping of accesses nothing changes. -/
  aside : v.accessAside = s.accessAside
  /-- Every byte of memory. -/
  memory : ∀ a, v.byteAt a = s.byteAt a
  /-- Frames. -/
  frames : ∀ f, (v.frame f).aside = (s.frame f).aside
  /-- The bundle goes on. -/
  port : v.cur.aside = s.cur.aside
  /-- The other groups. -/
  others : ∀ k, k ≠ s.cur.gk → v.group k = s.group k
  /-- The group: the destination in the active lanes with their tag bits cleared, and no other register. -/
  group : ∃ img, (∀ e, e < 2048 / w → s.cur.act.getLsbD (laneOf w e) = true → elem img w e = val e) ∧
    v.cg = { s.cg with
      regs := writeV d s.cur.act img 0 regs
      inFlight := s.cg.inFlight ++
        (if 0x38 ≤ d.toNat then [] else [{ scalar := false, reg := d.toNat, mask := s.cur.act, elems := n }]) }

/-- A group but for its registers and reservations. -/
def Group.kept (g : Group) : Group := { g with regs := Regs.reset, resv := [] }

/-- A word has stored elements at their homes (R106, R237): element `e` of the list `es`, in this order, wrote the `n` bytes
`val e` at `pa e`. -/
structure Stored (n : Nat) (es : List Nat) (pa val : Nat → Nat) (regs : Regs) (s v : State) : Prop where
  /-- Outside the groups and what a write touches nothing changes. -/
  aside : v.writeAside = s.writeAside
  /-- Every byte outside the stored ones. -/
  memory : ∀ a, (∀ e ∈ es, a < pa e ∨ pa e + n ≤ a) → v.byteAt a = s.byteAt a
  /-- The stored bytes: of elements that write one place the last one stands. -/
  stored : ∀ l e r, es = l ++ e :: r → (∀ f ∈ r, pa f + n ≤ pa e ∨ pa e + n ≤ pa f) → v.pread (pa e) n = val e % 2 ^ (8 * n)
  /-- The bundle goes on. -/
  port : v.cur.aside = s.cur.aside
  /-- Groups: no register but the base, and reservations only lost. -/
  groups : ∀ k, (v.group k).kept = (s.group k).kept ∧ (∀ r ∈ (v.group k).resv, r ∈ (s.group k).resv) ∧
    (v.group k).regs = if k = s.cur.gk then regs else (s.group k).regs

/-- The lanes of a word have been served one after the other at their homes (R112, R253): outside the group on the port, and
what a write may touch, nothing changes; D takes each lane's answer and the tag bits given, and is in flight with `n` requests to
global memory. -/
structure LanesServed (d : BitVec 6) (n : Nat) (answer : Nat → Nat) (tags : LaneMask) (s v : State) : Prop where
  /-- Outside the groups and what a write touches nothing changes. -/
  aside : v.writeAside = s.writeAside
  /-- The bundle goes on. -/
  port : v.cur.aside = s.cur.aside
  /-- The other groups: reservations may be lost. -/
  others : ∀ k, k ≠ s.cur.gk → (v.group k).kept = (s.group k).kept ∧ (v.group k).regs = (s.group k).regs
  /-- The group: the lanes of D, and no other register. -/
  group : ∃ img, (∀ l, s.cur.act.getLsbD l = true → elem img 64 l = answer l) ∧
    v.cg = { s.cg with
      resv := v.cg.resv
      regs := writeV d s.cur.act img tags s.cg.regs
      inFlight := s.cg.inFlight ++
        (if 0x38 ≤ d.toNat then [] else [{ scalar := false, reg := d.toNat, mask := s.cur.act, elems := n }]) }

/-- The value at a place after some lanes, in order, have each replaced the value `x` at their own place by `f lane x`, or
left it. -/
def serial (f : Nat → Nat → Option Nat) (place : Nat → Nat) (lanes : List Nat) (at_ x : Nat) : Nat :=
  lanes.foldl (fun x l => if place l = at_ then (f l x).getD x else x) x

/-! ## Lanes -/

/-- A bundle whose next word ends it, of an entry that owns no loop, in a group without landings; nothing before that word
has moved or ended lanes, set a priority or made them wait. -/
def State.plainEnd (s : State) : Bool :=
  s.ready && s.cur.moves.isEmpty && s.cur.exited == 0 && s.cur.newPrio.isNone && !s.cur.bar && s.cur.sleep == 0 &&
    s.cur.newLoop.isNone && !s.cur.entry.owner && s.cg.landings.isEmpty

/-- A lane runs, or is held by a landing, at a PC in an entry of which more is said. -/
def LaneIn (u : State) (gk l : Nat) (pc : Dword) (more : Entry → Prop) : Prop :=
  ∃ e ∈ (u.group gk).frontier, e.mask.getLsbD l = true ∧ e.pc = pc ∧ more e

/-- A lane runs, or is held by a landing, at a PC. -/
def LaneAt (u : State) (gk l : Nat) (pc : Dword) : Prop := LaneIn u gk l pc (fun _ => True)

/-- A lane has left its group: no entry, landing, parked sub-group or reservation holds it. -/
def LaneGone (u : State) (gk l : Nat) : Prop :=
  (u.group gk).frontLanes.getLsbD l = false ∧ (∀ x ∈ (u.group gk).landings, x.await.getLsbD l = false) ∧
    (u.group gk).parkedLanes.getLsbD l = false ∧ ∀ r ∈ (u.group gk).resv, r.1 ≠ l

/-- The bundle of an entry that waits is on the port again: it reads what it read at issue, and no word of it has acted. -/
def State.reopened (s : State) (gk idx : Nat) (e : Entry) (p : Pend) : State :=
  { s.setGroup gk { s.group gk with frontier := (s.group gk).frontier.eraseIdx idx } with
    cur := { Cur.reset with
      gk := gk, core := coreOf gk, entry := { e with replay := none, count := 0, promoted := none, pend := none }, act := e.mask,
      pc := e.pc, wpc := e.pc, npc := p.npc, src := p.src, words := p.words, pre := (s.group gk).regs, replay := p.replay,
      base := p.base, answer := p.answer, got := p.got, walked := p.walked, walkFails := p.fails, arrived := p.arrived, broken := p.broken
      chain := p.chain, seed := p.src.seed, flights := (s.group gk).inFlight.length, sampled := p.sampled, svc := p.svc } }

end Sys2Proof.Machine
end

