-- ==== Sys2Proof/Certificates/Slice0/Obligations.lean ====
section
/-! DEFINITION. The statements about the model, each a Prop with the rule of the spec that it formalises, and the tables they go
through: what the spec's tables give, row by row, in the spec's own terms. -/

open Sys2Proof Sys2Proof.Machine

/-! ## Vector integer words -/

namespace Sys2Proof.Machine

/-- A word of format V3 (R182). -/
abbrev VForm := BitVec 1 → BitVec 1 → BitVec 3 → BitVec 6 → BitVec 6 → BitVec 6 → Instr
/-- A word of a unary row. -/
abbrev UForm := BitVec 1 → BitVec 1 → BitVec 3 → BitVec 6 → BitVec 6 → Instr

/-- A row of the table of R197: the word with a vector B, the word with a scalar B, whether D is read, and op(a, b, c, d) from the
bit patterns of a, b and d. -/
structure IntRow where
  /-- Major 0. -/
  vec : VForm
  /-- Major 4. -/
  sca : VForm
  /-- D is an operand. -/
  readsD : Bool
  /-- The result pattern and the flags of one element. -/
  op : ITy → Nat → Nat → Nat → Nat × BitVec 8

/-- Result of R197 that is an integer, wrapped. -/
def wrapped (f : Int → Int → Int → Int) : ITy → Nat → Nat → Nat → Nat × BitVec 8 :=
  fun ty a b d => (patt ty.w (f (ival ty a) (ival ty b) (ival ty d)), 0)
/-- Result of R197 that is clamped, with SA when the clamp changed it (R149). -/
def clamped (f : Int → Int → Int) : ITy → Nat → Nat → Nat → Nat × BitVec 8 :=
  fun ty a b _ =>
    let x := f (ival ty a) (ival ty b)
    (patt ty.w (max ty.lo (min ty.hi x)), if ty.lo ≤ x ∧ x ≤ ty.hi then 0 else flagSA)
/-- Result of R197 on bit patterns. -/
def bitwise (f : Nat → Nat → Nat → Nat → Nat) : ITy → Nat → Nat → Nat → Nat × BitVec 8 := fun ty a b d => (f ty.w a b d, 0)
/-- A compare of R197: all ones or 0. -/
def compared (f : Int → Int → Bool) : ITy → Nat → Nat → Nat → Nat × BitVec 8 :=
  fun ty a b _ => (if f (ival ty a) (ival ty b) then 2 ^ ty.w - 1 else 0, 0)
/-- Position and effective length of R198. -/
def fieldOf (w c : Nat) : Nat × Nat := (c % w, min (c / w % (2 * w)) (w - c % w))

/-- The table of R197 and R198, one row for each word of majors 0 and 4 but `nop`, `dot2` and the unary words. -/
def integerRows : List IntRow :=
  [⟨.add, .addScalar, false, wrapped fun a b _ => a + b⟩, ⟨.sub, .subScalar, false, wrapped fun a b _ => a - b⟩,
   ⟨.adds, .addsScalar, false, clamped fun a b => a + b⟩, ⟨.subs, .subsScalar, false, clamped fun a b => a - b⟩,
   ⟨.mul, .mulScalar, false, wrapped fun a b _ => a * b⟩,
   ⟨.mulh, .mulhScalar, false, fun ty a b _ => (patt ty.w (ival ty a * ival ty b / 2 ^ ty.w), 0)⟩,
   ⟨.mad, .madScalar, true, wrapped fun a b d => a * b + d⟩, ⟨.min, .minScalar, false, wrapped fun a b _ => min a b⟩,
   ⟨.max, .maxScalar, false, wrapped fun a b _ => max a b⟩, ⟨.absd, .absdScalar, false, wrapped fun a b _ => |a - b|⟩] ++
  [⟨.and, .andScalar, false, bitwise fun _ a b _ => a &&& b⟩, ⟨.or, .orScalar, false, bitwise fun _ a b _ => a ||| b⟩,
   ⟨.xor, .xorScalar, false, bitwise fun _ a b _ => a ^^^ b⟩,
   ⟨.andn, .andnScalar, false, bitwise fun w a b _ => a &&& (2 ^ w - 1 - b)⟩,
   ⟨.shl, .shlScalar, false, bitwise fun w a c _ => if w ≤ c then 0 else a * 2 ^ c % 2 ^ w⟩,
   ⟨.shr, .shrScalar, false, fun ty a c _ => (patt ty.w (ival ty a / 2 ^ c), 0)⟩,
   ⟨.shrr, .shrrScalar, false, fun ty a c _ => (if c = 0 then a else patt ty.w ((ival ty a + 2 ^ (c - 1)) / 2 ^ c), 0)⟩,
   ⟨.rotl, .rotlScalar, false, bitwise fun w a c _ => ((BitVec.ofNat w a).rotateLeft c).toNat⟩,
   ⟨.ceq, .ceqScalar, false, compared fun a b => decide (a = b)⟩, ⟨.clt, .cltScalar, false, compared fun a b => decide (a < b)⟩,
   ⟨.cle, .cleScalar, false, compared fun a b => decide (a ≤ b)⟩] ++
  [⟨.bfx, .bfxScalar, false, fun ty a c _ =>
      let (pos, m) := fieldOf ty.w c
      (if m = 0 then 0 else if ty.signed then patt ty.w (sext (a / 2 ^ pos % 2 ^ m) m) else a / 2 ^ pos % 2 ^ m, 0)⟩,
   ⟨.bfi, .bfiScalar, true, bitwise fun w a c d =>
      let (pos, m) := fieldOf w c
      if m = 0 then d else d / 2 ^ (pos + m) * 2 ^ (pos + m) + a % 2 ^ m * 2 ^ pos + d % 2 ^ pos⟩,
   ⟨.sel, .selScalar, true, bitwise fun _ a b d => if d ≠ 0 then a else b⟩,
   ⟨.avg, .avgScalar, false, wrapped fun a b _ => (a + b + 1) / 2⟩]

/-- The unary words of R197 with their results. -/
def unaryRows : List (UForm × (Nat → Nat → Nat)) :=
  [(.popc, fun w a => ((List.range w).filter (fun i => a.testBit i)).length),
   (.clz, fun w a => if a = 0 then w else w - 1 - Nat.log2 a),
   (.brev, fun w a => (BitVec.ofNat w a).reverse.toNat)]

end Sys2Proof.Machine

/-- R195-R198: the binary vector integer words, each with a vector B (major 0) and with a scalar B (major 4). -/
def Obligations.VectorIntegerResults : Prop :=
  ∀ r ∈ integerRows, ∀ (c k : BitVec 1) (t : BitVec 3) (d a b : BitVec 6) (s : State), s.ready = true →
    (s.latchesOk ([a, b] ++ if r.readsD then [d] else []) = true →
      ∃ u, exec (r.vec c k t d a b) s = .next u ∧
        VecWritten 1 false c k d (ity t).w (fun e => r.op (ity t) (elem (s.opnd a (ity t).w) (ity t).w e)
          (elem (s.opnd b (ity t).w) (ity t).w e) (elem (s.opnd d (ity t).w) (ity t).w e)) s u) ∧
    (s.latchesOk ([a] ++ if r.readsD then [d] else []) = true →
      ∃ u, exec (r.sca c k t d a b) s = .next u ∧
        VecWritten 1 false c k d (ity t).w (fun e => r.op (ity t) (elem (s.opnd a (ity t).w) (ity t).w e)
          ((s.sreg b).toNat % 2 ^ (ity t).w) (elem (s.opnd d (ity t).w) (ity t).w e)) s u)

/-- The unary words of R197 and `dot2` (R199). -/
def Obligations.UnaryAndDotResults : Prop :=
  ∀ (c k : BitVec 1) (t : BitVec 3) (d a b : BitVec 6) (s : State), s.ready = true →
    (s.latchesOk [a] = true → ∀ r ∈ unaryRows,
      ∃ u, exec (r.1 c k t d a) s = .next u ∧
        VecWritten 1 false c k d (ity t).w (fun e => (r.2 (ity t).w (elem (s.opnd a (ity t).w) (ity t).w e), 0)) s u) ∧
    (t.toNat % 4 ≠ 3 →
      let w := (ity t).w
      let ty2 : ITy := { w := 2 * w, signed := (ity t).signed }
      let sum (f : Nat → Nat) (j : Nat) : Int := ival ty2 (elem (s.opnd d (2 * w)) (2 * w) j) +
        ival (ity t) (elem (s.opnd a w) w (2 * j)) * ival (ity t) (f (2 * j)) +
        ival (ity t) (elem (s.opnd a w) w (2 * j + 1)) * ival (ity t) (f (2 * j + 1))
      let res (x : Int) : Nat × BitVec 8 :=
        (patt ty2.w (max ty2.lo (min ty2.hi x)), if ty2.lo ≤ x ∧ x ≤ ty2.hi then 0 else flagSA)
      (s.latchesOk [a, b, d] = true →
        ∃ u, exec (.dot2 c k t d a b) s = .next u ∧
          VecWritten 1 false c k d (2 * w) (fun j => res (sum (elem (s.opnd b w) w) j)) s u) ∧
      (s.latchesOk [a, d] = true →
        ∃ u, exec (.dot2Scalar c k t d a b) s = .next u ∧
          VecWritten 1 false c k d (2 * w) (fun j => res (sum (fun _ => (s.sreg b).toNat % 2 ^ w) j)) s u))

namespace Sys2Proof.Machine

/-- A word of format RI (R182). -/
abbrev RForm := BitVec 1 → BitVec 1 → BitVec 6 → BitVec 6 → BitVec 2 → BitVec 8 → Instr

/-- The table of R200 but the shifts and `slidei`: the word and its result from the element's pattern and the immediate. -/
def immediateRows : List (RForm × (Nat → Nat → Int → Nat)) :=
  let si (w a : Nat) : Int := ival { w := w, signed := true } a
  [(.addi, fun w a i => patt w (si w a + i)), (.muli, fun w a i => patt w (si w a * i)),
   (.andi, fun w a i => a &&& patt w i), (.ori, fun w a i => a ||| patt w i), (.xori, fun w a i => a ^^^ patt w i),
   (.ceqi, fun w a i => if a = patt w i then 2 ^ w - 1 else 0), (.clti, fun w a i => if si w a < i then 2 ^ w - 1 else 0),
   (.mini, fun w a i => patt w (min (si w a) i)), (.maxi, fun w a i => patt w (max (si w a) i))]

/-- The immediate shifts of R200, with their unsigned count. -/
def shiftRows : List (RForm × (Nat → Nat → Nat → Nat)) :=
  let si (w a : Nat) : Int := ival { w := w, signed := true } a
  [(.shli, fun w a i => a * 2 ^ i % 2 ^ w), (.shri, fun _ a i => a / 2 ^ i), (.srai, fun w a i => patt w (si w a / 2 ^ i)),
   (.shrri, fun w a i => if i = 0 then a else patt w ((si w a + 2 ^ (i - 1)) / 2 ^ i))]

end Sys2Proof.Machine

/-- R200, R201: major 6. -/
def Obligations.RegisterImmediateResults : Prop :=
  ∀ (c k : BitVec 1) (d a : BitVec 6) (w : BitVec 2) (i : BitVec 8) (s : State), s.ready = true → s.latchesOk [a] = true →
    let n := widthOf w
    let at_ := fun e => elem (s.opnd a n) n e
    (∀ r ∈ immediateRows, ∃ u, exec (r.1 c k d a w i) s = .next u ∧
      VecWritten 1 false c k d n (fun e => (r.2 n (at_ e) i.toInt, 0)) s u) ∧
    (i.toNat < n → ∀ r ∈ shiftRows, ∃ u, exec (r.1 c k d a w i) s = .next u ∧
      VecWritten 1 false c k d n (fun e => (r.2 n (at_ e) i.toNat, 0)) s u) ∧
    (∃ u, exec (.slidei c k d a w i) s = .next u ∧
      VecWritten 1 false c k d n (fun e =>
        (if 0 ≤ (e : Int) - i.toInt ∧ (e : Int) - i.toInt < (2048 / n : Nat) then at_ ((e : Int) - i.toInt).toNat else 0, 0)) s u)

/-! ## Scalar words -/

namespace Sys2Proof.Machine

/-- A word of format SC (R182). -/
abbrev SForm := BitVec 1 → BitVec 6 → BitVec 6 → BitVec 1 → BitVec 8 → Instr

/-- b of R202 for the words that take IMM8 signed, or unsigned. -/
def secondOperand (unsigned : Bool) (i : BitVec 1) (b : BitVec 8) (s : State) : Dword :=
  if i = 0 then s.sreg (b.extractLsb' 0 6) else if unsigned then BitVec.ofNat 64 b.toNat else BitVec.ofInt 64 b.toInt

/-- The table of R203 but the unary words, `vtos`, `stov` and the divides: the word, whether IMM8 is unsigned, and the result from
a, b and the old SD. -/
def scalarRows : List (SForm × Bool × (Dword → Dword → Dword → Dword)) :=
  [(.sadd, false, fun a b _ => a + b), (.ssub, false, fun a b _ => a - b), (.smul, false, fun a b _ => a * b),
   (.smulh, false, fun a b _ => BitVec.ofInt 64 (a.toInt * b.toInt / 2 ^ 64)), (.sand, false, fun a b _ => a &&& b),
   (.sor, false, fun a b _ => a ||| b), (.sxor, false, fun a b _ => a ^^^ b),
   (.sshl, true, fun a b _ => a <<< b), (.sshr, true, fun a b _ => a >>> b), (.ssra, true, fun a b _ => a.sshiftRight' b),
   (.smin, false, fun a b _ => if b.slt a then b else a), (.smax, false, fun a b _ => if a.slt b then b else a),
   (.sceq, false, fun a b _ => if a = b then 1 else 0), (.sclt, false, fun a b _ => if a.toInt < b.toInt then 1 else 0),
   (.scltn, false, fun a b _ => if a.toNat < b.toNat then 1 else 0), (.ssel, false, fun a b d => if d ≠ 0 then a else b),
   (.sbfx, true, fun a b _ => BitVec.ofNat 64 (a.toNat / 2 ^ (fieldOf 64 b.toNat).1 % 2 ^ (fieldOf 64 b.toNat).2)),
   (.sbfi, true, fun a b d =>
      let (pos, m) := fieldOf 64 b.toNat
      if m = 0 then d
      else BitVec.ofNat 64 (d.toNat / 2 ^ (pos + m) * 2 ^ (pos + m) + a.toNat % 2 ^ m * 2 ^ pos + d.toNat % 2 ^ pos))]

end Sys2Proof.Machine

/-- R202, R203, R205, R206: words of the S pipe that compute. -/
def Obligations.ScalarResults : Prop :=
  (
    ∀ (c : BitVec 1) (d a : BitVec 6) (s : State), s.ready = true →
      (∀ (i : BitVec 1) (b : BitVec 8), ∀ r ∈ scalarRows,
        ∃ u, exec (r.1 c d a i b) s = .next u ∧
          ScalarWritten c d (r.2.2 (s.sreg a) (secondOperand r.2.1 i b s) (s.sreg d)) false s u) ∧
      (∃ u, exec (.spopc c d a) s = .next u ∧
        ScalarWritten c d (BitVec.ofNat 64 ((List.range 64).filter (fun i => (s.sreg a).getLsbD i)).length) false s u) ∧
      (∃ u, exec (.sclz c d a) s = .next u ∧
        ScalarWritten c d (BitVec.ofNat 64 (if s.sreg a = 0 then 64 else 63 - Nat.log2 (s.sreg a).toNat)) false s u) ∧
      (∀ (h : BitVec 2) (i : BitVec 16),
        (∃ u, exec (.liS c d h i) s = .next u ∧
          ScalarWritten c d (BitVec.ofNat 64 (i.toNat * 2 ^ (16 * h.toNat))) false s u) ∧
        (∃ u, exec (.likS c d h i) s = .next u ∧
          ∃ x, ScalarWritten c d x false s u ∧ ∀ n, n < 64 → x.getLsbD n =
            if 16 * h.toNat ≤ n ∧ n < 16 * h.toNat + 16 then i.getLsbD (n - 16 * h.toNat) else (s.sreg d).getLsbD n))) ∧
  (
    ∀ (c : BitVec 1) (d a : BitVec 6) (i : BitVec 1) (b : BitVec 8) (s : State), s.ready = true →
      let x := (s.sreg a).toInt
      let y := (secondOperand false i b s).toInt
      (y ≠ 0 →
        (∃ u, exec (.sdiv c d a i b) s = .next u ∧ ScalarWritten c d (BitVec.ofInt 64 (x.tdiv y)) false s u) ∧
        (∃ u, exec (.srem c d a i b) s = .next u ∧ ScalarWritten c d (BitVec.ofInt 64 (x - y * x.tdiv y)) false s u)) ∧
      (y = 0 → c = 1 → s.cur.act = s.cur.entry.mask → ∀ w ∈ [Instr.sdiv, Instr.srem],
        ∃ u, exec (w c d a i b) s = .next u ∧ u.cg = s.cg ∧ u.elsewhere = s.elsewhere ∧ u.cur.act = 0 ∧
          ∀ l, l < 32 → (s.cur.entry.mask.getLsbD l = true ↔ ∃ f ∈ u.cur.fails, f.lane = l ∧ f.cause = some 0x0D8)))

/-- R204. -/
def Obligations.LaneMoveResults : Prop :=
  ∀ (c : BitVec 1) (d a : BitVec 6) (i : BitVec 1) (b : BitVec 8) (s : State), s.ready = true →
    (i = 1 → b.toNat < 32) →
    let l := if i = 1 then b.toNat else (s.sreg (b.extractLsb' 0 6)).toNat % 32
    (s.latchesOk [a] = true → ∃ u, exec (.vtos c d a i b) s = .next u ∧
      ScalarWritten c d (BitVec.ofNat 64 (elem (s.opnd a 64) 64 l))
        (decide (a.toNat < 0x38) && (nget 0 s.cur.src.vtags a.toNat).getLsbD l) s u) ∧
    (∃ u, exec (.stov c d a i b) s = .next u ∧ GroupOnly s u ∧
      { u.cg.regs with v := s.cg.regs.v, vtags := s.cg.regs.vtags, lc := s.cg.regs.lc } = s.cg.regs ∧
      (c = 1 ∨ s.cur.entry.owner = false → u.cg.regs.lc = s.cg.regs.lc) ∧
      ∀ n m, m < 32 →
        if n = d.toNat ∧ d.toNat < 0x38 ∧ m = l ∧ s.cur.act.getLsbD l = true then
          elem (nget 0 u.cg.regs.v n) 64 m = (s.sreg a).toNat ∧
            (nget 0 u.cg.regs.vtags n).getLsbD m = s.cur.src.stags.getLsbD a.toNat
        else elem (nget 0 u.cg.regs.v n) 64 m = elem (nget 0 s.cg.regs.v n) 64 m ∧
            (nget 0 u.cg.regs.vtags n).getLsbD m = (nget 0 s.cg.regs.vtags n).getLsbD m)

/-- R206, R178. -/
def Obligations.LongImmediateResults : Prop :=
  ∀ (c k : BitVec 1) (d : BitVec 6) (h : BitVec 2) (i : BitVec 16) (s : State), s.ready = true →
    let p := 16 * h.toNat
    (∃ u, exec (.liV c k d h i) s = .next u ∧ VecWritten 1 false c k d 64 (fun _ => (i.toNat * 2 ^ p, 0)) s u) ∧
    (s.latchesOk [d] = true → ∃ u, exec (.likV c k d h i) s = .next u ∧
      VecWritten 1 false c k d 64 (fun l =>
        let old := elem (s.opnd d 64) 64 l
        (old / 2 ^ (p + 16) * 2 ^ (p + 16) + i.toNat * 2 ^ p + old % 2 ^ p, 0)) s u) ∧
    (∃ u, exec (.nop c) s = .next u ∧ GroupOnly s u ∧ { u.cg.regs with lc := s.cg.regs.lc } = s.cg.regs ∧
      (c = 1 ∨ s.cur.entry.owner = false → u.cg.regs.lc = s.cg.regs.lc))

/-! ## Float words -/

namespace Sys2Proof.Machine

/-- What a float word delivers for one element: environment, format, element number, patterns of a, b and d. -/
abbrev FloatRes := REnv → FFmt → Nat → Nat → Nat → Nat → Nat × BitVec 8

/-- A rounded result (R207): none stands for an invalid operation, which gives the canonical NaN with NV (R154). -/
def rounded (f : FFmt) (env : REnv) (e : Nat) (ins : List FVal) : Option FVal → Nat × BitVec 8
  | none => (f.nan, nanFlags ins ||| flagNV)
  | some x => ((roundVal f env (srDraw env.seed e) x).1, nanFlags ins ||| (roundVal f env (srDraw env.seed e) x).2)
/-- A sum of which the first part may be invalid. -/
def plus (env : REnv) (x : Option FVal) (y : FVal) : Option FVal := x.bind (fun v => addVal (env.rm == 3) v y)

/-- A row of R209: the word with a vector and with a scalar B, whether D is read, whether it draws under SR, its result. -/
structure FloatRow where
  /-- Major 1. -/
  vec : VForm
  /-- Major 5. -/
  sca : VForm
  /-- D is an operand. -/
  readsD : Bool
  /-- It draws under SR (R207). -/
  draws : Bool
  /-- Its result. -/
  op : FloatRes

/-- The arithmetic words of R209, `fcopysign` and `fscale`. -/
def floatRows : List FloatRow :=
  [⟨.fadd, .faddScalar, false, true, fun v f e a b _ =>
      rounded f v e [fread v f a, fread v f b] (addVal (v.rm == 3) (fread v f a) (fread v f b))⟩,
   ⟨.fsub, .fsubScalar, false, true, fun v f e a b _ =>
      rounded f v e [fread v f a, fread v f b] (addVal (v.rm == 3) (fread v f a) (fread v f b).negate)⟩,
   ⟨.fmul, .fmulScalar, false, true, fun v f e a b _ =>
      rounded f v e [fread v f a, fread v f b] (mulVal (fread v f a) (fread v f b))⟩,
   ⟨.fma, .fmaScalar, true, true, fun v f e a b d =>
      rounded f v e [fread v f a, fread v f b, fread v f d] (plus v (mulVal (fread v f a) (fread v f b)) (fread v f d))⟩,
   ⟨.fms, .fmsScalar, true, true, fun v f e a b d =>
      rounded f v e [fread v f a, fread v f b, fread v f d] (plus v (mulVal (fread v f a) (fread v f b)) (fread v f d).negate)⟩,
   ⟨.fnma, .fnmaScalar, true, true, fun v f e a b d =>
      rounded f v e [fread v f a, fread v f b, fread v f d]
        (plus v ((mulVal (fread v f a) (fread v f b)).map FVal.negate) (fread v f d))⟩,
   ⟨.fcopysign, .fcopysignScalar, false, false, fun v f _ a b _ =>
      if anyNaN [fread v f a] then (f.nan, nanFlags [fread v f a])
      else (flushIn f v.fzi a % 2 ^ (f.bits - 1) + (if b.testBit (f.bits - 1) then 2 ^ (f.bits - 1) else 0), 0)⟩,
   ⟨.fscale, .fscaleScalar, false, true, fun v f e a b _ =>
      rounded f v e [fread v f a] (some (match fread v f a with
        | .num s m x => .num s m (x + max (-5000) (min 5000 (sext b f.bits)))
        | y => y))⟩]

/-- The result of R211: which operand is returned. -/
def pickResult (numWins : Bool) (second : FVal → FVal → Bool) : FloatRes := fun v f _ a b _ =>
  let x := fread v f a
  let y := fread v f b
  (match anyNaN [x], anyNaN [y] with
    | true, true => f.nan
    | true, false => if numWins then flushIn f v.fzi b else f.nan
    | false, true => if numWins then flushIn f v.fzi a else f.nan
    | false, false => if second x y then flushIn f v.fzi b else flushIn f v.fzi a, nanFlags [x, y])
/-- The result of R212: all ones when the relation holds, with NV for a quiet NaN in `fclt` and `fcle`. -/
def relResult (onNaN quiet : Bool) (rel : FVal → FVal → Bool) : FloatRes := fun v f _ a b _ =>
  let x := fread v f a
  let y := fread v f b
  let nan := anyNaN [x, y]
  (if (if nan then onNaN else rel x y) then 2 ^ f.bits - 1 else 0, nanFlags [x, y] ||| (if nan && quiet then flagNV else 0))

/-- The words of R211 and the compares of R212. -/
def orderRows : List FloatRow :=
  [⟨.fmin, .fminScalar, false, false, pickResult false fun x y => ltVal true y x⟩,
   ⟨.fmax, .fmaxScalar, false, false, pickResult false fun x y => ltVal true x y⟩,
   ⟨.fminm, .fminmScalar, false, false, pickResult true fun x y => ltVal true y x⟩,
   ⟨.fmaxm, .fmaxmScalar, false, false, pickResult true fun x y => ltVal true x y⟩,
   ⟨.fceq, .fceqScalar, false, false, relResult false false fun x y => !ltVal false x y && !ltVal false y x⟩,
   ⟨.fclt, .fcltScalar, false, false, relResult false true fun x y => ltVal false x y⟩,
   ⟨.fcle, .fcleScalar, false, false, relResult false true fun x y => !ltVal false y x⟩,
   ⟨.fcun, .fcunScalar, false, false, relResult true false fun _ _ => false⟩]

/-- A unary float word has written what a function of its element gives. -/
def floatUnaryDone (i : BitVec 1 → BitVec 1 → BitVec 3 → BitVec 6 → BitVec 6 → Instr) (pipe : Nat) (draws : Bool)
    (op : REnv → FFmt → Nat → Nat → Nat × BitVec 8) (c k : BitVec 1) (t : BitVec 3) (d a : BitVec 6) (s : State) : Prop :=
  ∃ u, exec (i c k t d a) s = .next u ∧
    VecWritten pipe draws c k d (ffmt t).bits
      (fun e => op s.renv (ffmt t) e (elem (s.opnd a (ffmt t).bits) (ffmt t).bits e)) s u

end Sys2Proof.Machine

/-- R207-R209. -/
def Obligations.FloatArithmeticResults : Prop :=
  ∀ r ∈ floatRows, ∀ (c k : BitVec 1) (t : BitVec 3) (d a b : BitVec 6) (s : State), s.ready = true →
    let w := (ffmt t).bits
    (s.latchesOk ([a, b] ++ if r.readsD then [d] else []) = true →
      ∃ u, exec (r.vec c k t d a b) s = .next u ∧
        VecWritten 0 r.draws c k d w (fun e => r.op s.renv (ffmt t) e (elem (s.opnd a w) w e) (elem (s.opnd b w) w e)
          (elem (s.opnd d w) w e)) s u) ∧
    (s.latchesOk ([a] ++ if r.readsD then [d] else []) = true →
      ∃ u, exec (r.sca c k t d a b) s = .next u ∧
        VecWritten 0 r.draws c k d w (fun e => r.op s.renv (ffmt t) e (elem (s.opnd a w) w e) ((s.sreg b).toNat % 2 ^ w)
          (elem (s.opnd d w) w e)) s u)

/-- R211, R212. -/
def Obligations.FloatOrderResults : Prop :=
  (∀ r ∈ orderRows, ∀ (c k : BitVec 1) (t : BitVec 3) (d a b : BitVec 6) (s : State), s.ready = true →
    let w := (ffmt t).bits
    (s.latchesOk [a, b] = true →
      ∃ u, exec (r.vec c k t d a b) s = .next u ∧
        VecWritten 0 false c k d w
          (fun e => r.op s.renv (ffmt t) e (elem (s.opnd a w) w e) (elem (s.opnd b w) w e) 0) s u) ∧
    (s.latchesOk [a] = true →
      ∃ u, exec (r.sca c k t d a b) s = .next u ∧
        VecWritten 0 false c k d w
          (fun e => r.op s.renv (ffmt t) e (elem (s.opnd a w) w e) ((s.sreg b).toNat % 2 ^ w) 0) s u)) ∧
  (∀ (c k : BitVec 1) (t : BitVec 3) (d a : BitVec 6) (s : State), s.ready = true → s.latchesOk [a] = true →
    floatUnaryDone .fcls 0 false (fun _ f _ x =>
      (2 ^ (match valueOf f x with
        | .inf neg => if neg then 0 else 7
        | .nan sig => if sig then 8 else 9
        | .num neg m _ =>
          if m = 0 then (if neg then 3 else 4)
          else if m < 2 ^ f.frac then (if neg then 2 else 5) else (if neg then 1 else 6)), 0)) c k t d a s)

/-- The other words of R209, `fdot2` (R210), `fdiv` and `sqrt` (R218). -/
def Obligations.FloatUnaryAndDivideResults : Prop :=
  ∀ (c k : BitVec 1) (t : BitVec 3) (d a b : BitVec 6) (s : State), s.ready = true →
    (s.latchesOk [a] = true →
      (∀ r ∈ [((.fabs : UForm), fun _ : Bool => false), (.fneg, fun g => !g)],
        floatUnaryDone r.1 0 false (fun v f _ x =>
          if anyNaN [fread v f x] then (f.nan, nanFlags [fread v f x])
          else (flushIn f v.fzi x % 2 ^ (f.bits - 1) +
            (if r.2 ((flushIn f v.fzi x).testBit (f.bits - 1)) then 2 ^ (f.bits - 1) else 0), 0)) c k t d a s) ∧
      floatUnaryDone .frnd 0 true (fun v f e x =>
        match fread v f x with
        | .num g m q =>
          let y := roundInt v.rm (srDraw v.seed e) g m q
          (if y.1 = 0 then f.zeroPat g else (roundVal f { v with rm := 1, fzo := false } 0 (intVal y.1)).1, if y.2 then flagNX else 0)
        | y => rounded f v e [y] (some y)) c k t d a s ∧
      floatUnaryDone .sqrt 2 true (fun v f e x =>
        rounded f v e [fread v f x] (match fread v f x with
          | .nan g => some (.nan g)
          | .inf g => if g then none else some (.inf false)
          | .num g m q => if m = 0 then some (.num g 0 0) else if g then none else some (sqrtNum m q))) c k t d a s) ∧
    (s.latchesOk [a, b] = true →
      let w := (ffmt t).bits
      ∃ u, exec (.fdiv c k t d a b) s = .next u ∧
        VecWritten 2 true c k d w (fun e =>
          let v := s.renv
          let f := ffmt t
          let x := fread v f (elem (s.opnd a w) w e)
          let y := fread v f (elem (s.opnd b w) w e)
          match x, y with
          | .num g m p, .num h n q =>
            if n = 0 ∧ m ≠ 0 then (f.infPat (g != h), flagDZ)
            else rounded f v e [x, y]
              (if n = 0 then none else some (if m = 0 then .num (g != h) 0 0 else divNum (g != h) m n (p - q)))
          | _, _ => rounded f v e [x, y] (match x, y with
            | .nan g, _ => some (.nan g)
            | _, .nan h => some (.nan h)
            | .inf _, .inf _ => none
            | .inf g, .num h _ _ => some (.inf (g != h))
            | .num g _ _, .inf h => some (.num (g != h) 0 0)
            | .num g m p, .num _ _ _ => some (.num g m p))) s u) ∧
    (t = 2 ∨ t = 3 →
      let res (y : Nat → Nat) (j : Nat) : Nat × BitVec 8 :=
        let v := s.renv
        let rd (x : Nat) := fread v (ffmt t) x
        let p (i : Nat) := mulVal (rd (elem (s.opnd a 16) 16 (2 * j + i))) (rd (y (2 * j + i)))
        let z := fread v .f32 (elem (s.opnd d 32) 32 j)
        rounded .f32 v j
          [z, rd (elem (s.opnd a 16) 16 (2 * j)), rd (y (2 * j)), rd (elem (s.opnd a 16) 16 (2 * j + 1)), rd (y (2 * j + 1))]
          (match p 0, p 1 with
            | some x0, some x1 =>
              if FVal.inf false ∈ [z, x0, x1] ∧ FVal.inf true ∈ [z, x0, x1] then none else plus v (addVal (v.rm == 3) z x0) x1
            | _, _ => none)
      (s.latchesOk [a, b, d] = true → ∃ u, exec (.fdot2 c k t d a b) s = .next u ∧
        VecWritten 0 true c k d 32 (res (fun e => elem (s.opnd b 16) 16 e)) s u) ∧
      (s.latchesOk [a, d] = true → ∃ u, exec (.fdot2Scalar c k t d a b) s = .next u ∧
        VecWritten 0 true c k d 32 (res (fun _ => (s.sreg b).toNat % 2 ^ 16)) s u))

/-- A consequence of R158: only values that are not representable are rounded. -/
def Obligations.RoundingKeepsRepresentable : Prop :=
  ∀ (f : FFmt) (env : REnv) (draw x : Nat) (g : Bool) (m : Nat) (e : Int), x < 2 ^ f.bits → env.fzo = false →
    valueOf f x = .num g m e → roundVal f env draw (valueOf f x) = (x, 0)

/-! ## Conversions and special functions -/

/-- R214, R215, R217. -/
def Obligations.ConversionResults : Prop :=
  ∀ (c k : BitVec 1) (t : BitVec 3) (d a b : BitVec 6) (s : State), s.ready = true →
    (s.latchesOk [a] = true → ∀ (u : BitVec 1) (y : BitVec 4),
      let st := stCode u t
      let dt := dtCode y
      let w := max st.w dt.w
      ∃ v, exec (.cvt c k t d a u y) s = .next v ∧
        VecWritten 2 (cvtDraws st dt) c k d w (fun e =>
          let x := elem (s.opnd a w) w e % 2 ^ st.w
          match st, dt with
          | .int p, .int q =>
            let z := ival p x
            (patt q.w (max q.lo (min q.hi z)), if q.lo ≤ z ∧ z ≤ q.hi then 0 else flagSA)
          | .int p, .flt g => rounded g s.renv e [] (some (intVal (ival p x)))
          | .flt f, .int q => cvtF2I s.renv e q (fread s.renv f x)
          | .flt f, .flt g => rounded g s.renv e [fread s.renv f x] (some (fread s.renv f x))) s v) ∧
    (t.toNat % 4 ≠ 3 →
      let ty := ity t
      let wide : ITy := { w := 2 * ty.w, signed := ty.signed }
      let h := 64 / wide.w
      (s.latchesOk [a, b] = true → ∃ v, exec (.pack c k t d a b) s = .next v ∧
        VecWritten 2 false c k d ty.w (fun e =>
          let lane := e / (2 * h)
          let i := e % (2 * h)
          let x := ival wide (if i < h then elem (s.opnd a wide.w) wide.w (lane * h + i)
            else elem (s.opnd b wide.w) wide.w (lane * h + (i - h)))
          (patt ty.w (max ty.lo (min ty.hi x)), if ty.lo ≤ x ∧ x ≤ ty.hi then 0 else flagSA)) s v) ∧
      (s.latchesOk [a] = true → ∀ r ∈ [((.unpackLo : UForm), 0), (.unpackHi, h)],
        ∃ v, exec (r.1 c k t d a) s = .next v ∧
          VecWritten 2 false c k d wide.w
            (fun e => (patt wide.w (ival ty (elem (s.opnd a ty.w) ty.w (e / h * (2 * h) + r.2 + e % h))), 0)) s v)) ∧
    (s.latchesOk [a, b] = true → ∃ v, exec (.cbk c k d a b) s = .next v ∧
      VecWritten 2 false c k d 16 (fun e => (elem (s.opnd b 16) 16 (elem (s.opnd a 16) 16 e % 16), 0)) s v)

namespace Sys2Proof.Machine

/-- The scaled storage formats, SF 0-4 (R213). -/
def storageFmt : Nat → FFmt
  | 0 => .e4m3 | 1 => .e5m2 | 2 => .e3m2 | 3 => .e2m3 | _ => .e2m1
/-- A finite value times a power of two. -/
def timesPow (x : Int) : FVal → FVal
  | .num g m e => .num g m (e + x)
  | y => y

end Sys2Proof.Machine

/-- R216. -/
def Obligations.QuantResults : Prop :=
  ∀ (c k : BitVec 1) (t : BitVec 3) (d a b : BitVec 6) (s : State), s.ready = true → t.toNat < 6 →
    s.latchesOk ([a] ++ if t = 5 then [] else [b]) = true →
    let x (e : Nat) := elem (s.opnd a 32) 32 e
    let sc (e : Nat) := elem (s.opnd b 32) 32 e % 256
    let v := s.renv
    let q := { v with fzi := false, fzo := false }
    (∃ u, exec (.quant c k t d a b) s = .next u ∧
      VecWritten 2 (t != 5) c k d 32 (fun e =>
        let y := valueOf .f32 (x e)
        if t = 5 then
          match y with
          | .nan _ => (0xFF, nanFlags [y])
          | .inf _ => (0xFF, flagNV)
          | .num _ m p =>
            if m = 0 then (0, 0)
            else
              let z := binExp m p + 127
              ((max 0 (min 254 z)).toNat, if 0 ≤ z ∧ z ≤ 254 then 0 else flagCL ||| flagNX)
        else if sc e = 0xFF then rounded (storageFmt t.toNat) q e [y, .nan false] (some (.nan false))
        else rounded (storageFmt t.toNat) q e [y] (some (timesPow (127 - sc e) y))) s u) ∧
    (∃ u, exec (.dequant c k t d a b) s = .next u ∧
      VecWritten 2 (t != 5) c k d 32 (fun e =>
        if t = 5 then
          if x e % 256 = 0xFF then (FFmt.nan .f32, flagNI)
          else rounded .f32 v e [] (some (.num false 1 ((x e % 256 : Nat) - 127)))
        else
          let f := storageFmt t.toNat
          let y := valueOf f (x e % 2 ^ f.bits)
          if sc e = 0xFF then (FFmt.nan .f32, flagNI) else rounded .f32 v e [y] (some (timesPow (sc e - 127) y))) s u)

/-- R219. -/
def Obligations.VectorDivide : Prop :=
  ∀ (c k : BitVec 1) (t : BitVec 3) (d a b : BitVec 6) (s : State), s.ready = true → s.latchesOk [a, b] = true →
    let ty := ity t
    let x (e : Nat) := ival ty (elem (s.opnd a ty.w) ty.w e)
    let y (e : Nat) := ival ty (elem (s.opnd b ty.w) ty.w e)
    let zero (l : Nat) : Prop := ∃ e, e < 2048 / ty.w ∧ laneOf ty.w e = l ∧ elem (s.opnd b ty.w) ty.w e = 0
    ((∀ l, l < 32 → s.cur.act.getLsbD l = true → ¬ zero l) →
      (∃ u, exec (.idiv c k t d a b) s = .next u ∧
        VecWritten 2 false c k d ty.w (fun e => (patt ty.w ((x e).tdiv (y e)), 0)) s u) ∧
      (∃ u, exec (.irem c k t d a b) s = .next u ∧
        VecWritten 2 false c k d ty.w (fun e => (patt ty.w (x e - y e * (x e).tdiv (y e)), 0)) s u)) ∧
    (c = 1 → ∀ w ∈ [Instr.idiv, Instr.irem], ∃ u, exec (w c k t d a b) s = .next u ∧ u.elsewhere = s.elsewhere ∧
      ∀ l, l < 32 →
        (u.cur.act.getLsbD l = true ↔ s.cur.act.getLsbD l = true ∧ ¬ zero l) ∧
        ((∃ f ∈ u.cur.fails, f.lane = l ∧ f.cause = some 0x0D8) ↔ s.cur.act.getLsbD l = true ∧ zero l))

namespace Sys2Proof.Machine

/-- The special inputs of R220 with their exact results: pattern and flags; none where the table leaves the input to the bound or
to the exact cases. -/
def specialTable (f : FFmt) (one : Nat) : FVal → List (UForm × Option (Nat × BitVec 8))
  | .nan sig => ([.rcp, .rsqrt, .exp2, .log2, .sin, .cos, .tanh] : List UForm).map
      (fun i => (i, some (f.nan, if sig then flagNI ||| flagNV else flagNI)))
  | .inf neg =>
    [(.rcp, some (f.zeroPat neg, 0)), (.rsqrt, some (if neg then (f.nan, flagNV) else (f.zeroPat false, 0))),
     (.exp2, some (if neg then f.zeroPat false else f.infPat false, 0)),
     (.log2, some (if neg then (f.nan, flagNV) else (f.infPat false, 0))), (.sin, some (f.nan, flagNV)),
     (.cos, some (f.nan, flagNV)), (.tanh, some (f.zeroPat neg + one, 0))]
  | .num neg m _ =>
    if m = 0 then
      [(.rcp, some (f.infPat neg, flagDZ)), (.rsqrt, some (f.infPat neg, flagDZ)), (.exp2, some (one, 0)),
       (.log2, some (f.infPat true, flagDZ)), (.sin, some (f.zeroPat neg, 0)), (.cos, some (one, 0)), (.tanh, some (f.zeroPat neg, 0))]
    else
      [(.rcp, none), (.rsqrt, if neg then some (f.nan, flagNV) else none), (.exp2, none),
       (.log2, if neg then some (f.nan, flagNV) else none), (.sin, none), (.cos, none), (.tanh, none)]
/-- The pattern of 1. -/
def onePat : FFmt → Nat
  | .f64 => 0x3FF0000000000000 | .f32 => 0x3F800000 | .bf16 => 0x3F80 | _ => 0x3C00

end Sys2Proof.Machine

/-- R220: completion, and the special inputs. -/
def Obligations.SpecialFunctionResults : Prop :=
  ∀ (c k : BitVec 1) (t : BitVec 3) (d a : BitVec 6) (s : State), t.toNat < 4 → s.ready = true → s.latchesOk [a] = true →
    ∀ i ∈ ([.rcp, .rsqrt, .exp2, .log2, .sin, .cos, .tanh] : List UForm),
      let f := ffmt t
      ∃ (u : State) (res : Nat → Nat × BitVec 8), exec (i c k t d a) s = .next u ∧ VecWritten 2 false c k d f.bits res s u ∧
        ∀ e, e < 2048 / f.bits → ∀ j r, (j, r) ∈ specialTable f (onePat f) (fread s.renv f (elem (s.opnd a f.bits) f.bits e)) →
          j c k t d a = i c k t d a →
            match r with
            | some x => res e = x
            | none => (res e).2 &&& (flagDZ ||| flagNV) = 0

/-! ## Cross-lane words -/

namespace Sys2Proof.Machine

/-- Element `e` of width `w` is active for the bundle on the port (R173). -/
def State.on (s : State) (w e : Nat) : Bool := s.cur.act.getLsbD (laneOf w e)
/-- Elements of a width that satisfy a test, in order. -/
def elemsWhere (w : Nat) (f : Nat → Bool) : List Nat := (List.range (2048 / w)).filter f

/-- The words of R223, R224 and R231 that take a vector B: r[e] from type, activity, a and b. -/
def laneRows : List (VForm × (ITy → (Nat → Bool) → (Nat → Nat) → (Nat → Nat) → Nat → Nat)) :=
  [(.shfl, fun ty _ a b e => if b e < 2048 / ty.w then a (b e) else 0),
   (.bcast, fun ty _ a b _ => if b 0 < 2048 / ty.w then a (b 0) else 0),
   (.slideUp, fun ty _ a b e => if e = 0 then b (2048 / ty.w - 1) else a (e - 1)),
   (.slideDn, fun ty _ a b e => if e = 2048 / ty.w - 1 then b 0 else a (e + 1)),
   (.compress, fun ty on a b i => (((elemsWhere ty.w (fun e => on e && b e != 0)).map a)[i]?).getD 0),
   (.expand, fun ty on a b e =>
      if on e && b e != 0 then a ((elemsWhere ty.w (fun j => on j && b j != 0 && decide (j < e))).length) else 0)]

/-- The unary words of R225, R226, R230 and R232. -/
def laneUnaryRows : List (UForm × (ITy → (Nat → Bool) → (Nat → Nat) → Nat → Nat)) :=
  [(.redAdd, fun ty on a _ => ((elemsWhere ty.w on).map a).sum % 2 ^ ty.w),
   (.redMin, fun ty on a _ => patt ty.w (((elemsWhere ty.w on).map (fun e => ival ty (a e))).foldl min ty.hi)),
   (.redMax, fun ty on a _ => patt ty.w (((elemsWhere ty.w on).map (fun e => ival ty (a e))).foldl max ty.lo)),
   (.scanAdd, fun ty on a e => ((elemsWhere ty.w (fun j => on j && decide (j ≤ e))).map a).sum % 2 ^ ty.w),
   (.matchEq, fun ty on a e => (elemsWhere ty.w (fun j => on j && decide (j < e) && a j == a e)).length),
   (.transp, fun ty _ a e =>
      let k := 64 / ty.w
      a ((k * (e / k / k) + e % k) * k + e / k % k))]

/-- reduce_tree of R171 over 2^n elements: neighbours first. -/
def treeOf {α : Type} (op : α → α → α) : Nat → (Nat → α) → α
  | 0, f => f 0
  | n + 1, f => treeOf op n (fun j => op (f (2 * j)) (f (2 * j + 1)))

/-- The 64-bit word that `vote.any`, `vote.all` and `ballot` write (R227), from the mask m and the active lanes. -/
def voteRows : List ((BitVec 1 → BitVec 1 → BitVec 6 → BitVec 6 → Instr) × (LaneMask → LaneMask → Nat)) :=
  [(.voteAny, fun m _ => if m = 0 then 0 else 2 ^ 64 - 1), (.voteAll, fun m act => if m = act then 2 ^ 64 - 1 else 0),
   (.ballot, fun m _ => m.toNat)]

end Sys2Proof.Machine

/-- R222-R227, R230-R232. -/
def Obligations.CrossLaneResults : Prop :=
  (
    ∀ (c k : BitVec 1) (t : BitVec 3) (d a b : BitVec 6) (s : State), s.ready = true →
      let w := (ity t).w
      (s.latchesOk [a, b] = true → ∀ r ∈ laneRows, ∃ u, exec (r.1 c k t d a b) s = .next u ∧
        VecWritten 2 false c k d w
          (fun e => (r.2 (ity t) (s.on w) (fun i => elem (s.opnd a w) w i) (fun i => elem (s.opnd b w) w i) e, 0)) s u) ∧
      (s.latchesOk [a] = true → ∀ r ∈ laneUnaryRows, ∃ u, exec (r.1 c k t d a) s = .next u ∧
        VecWritten 2 false c k d w (fun e => (r.2 (ity t) (s.on w) (fun i => elem (s.opnd a w) w i) e, 0)) s u)) ∧
  (
    ∀ (c k : BitVec 1) (d a : BitVec 6) (s : State), s.ready = true → s.latchesOk [a] = true →
      (∀ r ∈ voteRows, ∃ u m, exec (r.1 c k d a) s = .next u ∧
        (∀ l, l < 32 → (m.getLsbD l = true ↔ s.cur.act.getLsbD l = true ∧ elem (s.opnd a 64) 64 l ≠ 0)) ∧
        VecWritten 2 false c k d 64 (fun _ => (r.2 m s.cur.act, 0)) s u) ∧
      (∀ t : BitVec 3, t.toNat < 4 →
        let f := ffmt t
        let env := { s.renv with rm := if s.renv.rm = 5 then 0 else s.renv.rm }
        let node (x y : Nat × BitVec 8) : Nat × BitVec 8 :=
          let z := rounded f env 0 [fread env f x.1, fread env f y.1] (addVal (env.rm == 3) (fread env f x.1) (fread env f y.1))
          (z.1, x.2 ||| y.2 ||| z.2)
        let leaf (e : Nat) : Nat × BitVec 8 := (if s.on f.bits e then elem (s.opnd a f.bits) f.bits e else 2 ^ (f.bits - 1), 0)
        ∃ u, exec (.redFadd c k t d a) s = .next u ∧
          VecWritten 2 false c k d f.bits (fun _ => treeOf node (Nat.log2 (2048 / f.bits)) leaf) s u))

/-- R228 and R229. -/
def Obligations.SortMergeSparse : Prop :=
  ∀ (c k : BitVec 1) (d a : BitVec 6) (s : State), s.ready = true →
    (s.latchesOk [a] = true → ∀ t : BitVec 3,
      let ty := ity t
      ∃ u X, exec (.sort8 c k t d a) s = .next u ∧ VecWritten 2 false c k d ty.w (fun e => (elem X ty.w e, 0)) s u ∧
        ∀ h, 8 * h + 8 ≤ 2048 / ty.w →
          ((List.range 8).map (fun i => elem X ty.w (8 * h + i))).Perm
            ((List.range 8).map (fun i => elem (s.opnd a ty.w) ty.w (8 * h + i))) ∧
          ∀ i, i < 7 → ival ty (elem X ty.w (8 * h + i)) ≤ ival ty (elem X ty.w (8 * h + i + 1))) ∧
    (∀ (t : BitVec 3) (b : BitVec 6), s.latchesOk [a, b] = true →
      let ty := ity t
      let rx := elem (s.opnd b ty.w) ty.w 0
      ∃ u X, exec (.merge2 c k t d a b) s = .next u ∧ VecWritten 2 false c k d ty.w (fun e => (elem X ty.w e, 0)) s u ∧
        (8 ≤ rx ∨ 2048 / ty.w < 2 * 2 ^ rx → ∀ e, e < 2048 / ty.w → elem X ty.w e = elem (s.opnd a ty.w) ty.w e) ∧
        (rx < 8 → 2 * 2 ^ rx ≤ 2048 / ty.w → ∀ h, (2 * h + 2) * 2 ^ rx ≤ 2048 / ty.w →
          let run (j : Nat) := (List.range (2 ^ rx)).map (fun i => elem (s.opnd a ty.w) ty.w ((2 * h + j) * 2 ^ rx + i))
          (List.range (2 * 2 ^ rx)).map (fun i => elem X ty.w (2 * h * 2 ^ rx + i)) =
            List.merge (run 0) (run 1) (fun x y => decide (ival ty x ≤ ival ty y)))) ∧
    (s.latchesOk [a] = true → ∀ t : BitVec 1,
      let w := 8 * 2 ^ t.toNat
      let x (g i : Nat) := elem (s.opnd a w) w (4 * g + i)
      let mag (g i : Nat) := x g i % 2 ^ (w - 1)
      ∃ u X, exec (.sp24 c k t d a) s = .next u ∧ VecWritten 2 false c k d w (fun e => (elem X w e, 0)) s u ∧
        (∀ g, 4 * g + 4 ≤ 2048 / w → ∃ i j, i < j ∧ j < 4 ∧
          (∀ m, m < 4 → m ≠ i → m ≠ j → ∀ p, p = i ∨ p = j → mag g m < mag g p ∨ (mag g m = mag g p ∧ p < m)) ∧
          elem X w (2 * g) = x g i ∧ elem X w (2 * g + 1) = x g j ∧ elem X 4 (256 + g) = i + 4 * j) ∧
        ∀ n, 256 + 2048 / w / 4 ≤ n → n < 512 → elem X 4 n = 0)

/-! ## Memory words -/

namespace Sys2Proof.Machine

/-- A page of 2^n bytes lies in usable HBM as a whole, or in host memory (R98). -/
def inMap (pa n : Nat) : Prop :=
  2 ^ 51 ≤ pa ∨ pa + 2 ^ n ≤ 2 ^ 39 ∧ pa % 2 ^ 36 < 0xF80000000 ∧ (pa + 2 ^ n - 1) % 2 ^ 36 < 0xF80000000
/-- A leaf entry at a level breaks R97, or at stage 2 R338; `out` says that its address is a PA and no IA. -/
def leafBreaks (e level : Nat) (s2 out : Bool) : Prop :=
  let pa := e / 2 ^ 12 % 2 ^ 36 * 2 ^ 16
  let n := 16 + 9 * level
  level = 4 ∨ level = 3 ∨ e / 2 ^ 9 % 8 ≠ 0 ∨ (e.testBit 4 = false ∧ e / 2 ^ 48 ≠ 0) ∨ pa % 2 ^ n ≠ 0 ∨
    (e.testBit 2 = true ∧ e.testBit 3 = true) ∨
    (out = true ∧ e.testBit 7 = true ∧ (2 ^ 51 ≤ pa ∨ pa / 2 ^ 36 ≠ (pa + 2 ^ n - 1) / 2 ^ 36)) ∨ (out = true ∧ ¬inMap pa n) ∨
    (s2 = true ∧ (e.testBit 4 = true ∨ e.testBit 5 = true ∨ e.testBit 6 = true ∨ e.testBit 7 = true))
/-- A pointer entry breaks R384. -/
def pointerBreaks (e : Nat) : Prop := e / 2 % 128 ≠ 0 ∨ e / 2 ^ 9 % 8 ≠ 0 ∨ e / 2 ^ 52 ≠ 0
/-- One level of the walk of R385: the entry read at a node, and the walk of the level below. -/
def walkLevel (e level : Nat) (s2 out : Bool) (below : Nat → Except XErr (Nat × Nat)) (r : Except XErr (Nat × Nat)) : Prop :=
  (e.testBit 0 = false → r = .error ⟨1, s2⟩) ∧
  (e.testBit 0 = true → e.testBit 8 = false → level = 0 ∨ pointerBreaks e → r = .error ⟨3, s2⟩) ∧
  (e.testBit 0 = true → e.testBit 8 = false → level ≠ 0 → ¬pointerBreaks e → r = below (e / 2 ^ 12 % 2 ^ 40 * 4096)) ∧
  (e.testBit 0 = true → e.testBit 8 = true → leafBreaks e level s2 out → r = .error ⟨3, s2⟩) ∧
  (e.testBit 0 = true → e.testBit 8 = true → ¬leafBreaks e level s2 out → r = .ok (e, level))
/-- A translation without stage 2 and without a cached leaf (R324, R385): from the 16 bytes of the PASID entry. -/
def translateDirect (s : State) (fn : Nat) (pasid : BitVec 20) (va : Dword) : Prop :=
  let entry := s.pread ((s.reg fn 0x50).toNat + 16 * pasid.toNat) 16
  let off : Nat → Nat := fun l => va.toNat % 2 ^ (16 + 9 * l)
  let r := s.translate fn pasid va
  ((s.reg fn 0x58).toNat % 2 ^ 20 < pasid.toNat → r = .error ⟨6, false⟩) ∧
  (pasid.toNat ≤ (s.reg fn 0x58).toNat % 2 ^ 20 → isHbm ((s.reg fn 0x50).toNat + 16 * pasid.toNat) = true →
    s.poisoned ((s.reg fn 0x50).toNat + 16 * pasid.toNat) = false →
    (entry.testBit 0 = false ∨ entry / 2 % 2 ^ 11 ≠ 0 ∨ entry / 2 ^ 52 ≠ 0 → r = .error ⟨6, false⟩) ∧
    (entry.testBit 0 = true → entry / 2 % 2 ^ 11 = 0 → entry / 2 ^ 52 = 0 →
      match walkFrom (fun a => s.nodeRead (hostAt none a) false) false false (va.toNat % 2 ^ 57) 4 (entry / 2 ^ 12 % 2 ^ 40 * 4096) with
      | .error e => r = .error e
      | .ok (e, l) => r = .ok
          { pa := hostAt (some pasid) (e / 2 ^ 12 % 2 ^ 36 * 2 ^ 16 + off l), r := e.testBit 1, w := e.testBit 2, x := e.testBit 3
            cid := if e.testBit 4 then some (BitVec.ofNat 16 (e / 2 ^ 48)) else none, m := e.testBit 6, nb := e.testBit 7 }))
/-- The checks of one access after its translation, in order (R237, R385): the first that fails gives the cause. -/
def checkedAfter (s : State) (ag : Agent) (q : Ask) (x : Xlat) : Except (Nat × Bool) Xlat :=
  let own := x.cid.isSome && x.cid == ag.cid
  let open_ := (s.tagOf x.pa).getLsbD 8 == false
  let right := match q.kind with
    | 0 => x.r | 1 => x.w | 2 => x.r && x.w | 3 => x.x | 4 => x.r | 5 => x.w | 6 => x.r | _ => x.w
  if !right then .error (0x040 + 8 * q.kind + 2, false)
  else if q.noHost && decide (2 ^ 51 ≤ x.pa) then .error (0x040 + 8 * q.kind + 4, false)
  else if s.refused ag.pasid x.pa then .error (0x040 + 8 * q.kind + 5, false)
  else if q.cached && (s.l1Hit ag.core ag.cid x.pa).isSome then .ok x
  else if s.poisoned x.pa then .error (0x040 + 8 * q.kind + 7, false)
  else if x.cid.isSome && !own && open_ then .error (if q.write then 0x081 else 0x080, false)
  else if q.tagged && !(own && open_) then .error (0x083, false)
  else .ok x

end Sys2Proof.Machine

/-- The checks of every access (R94-R97, R132, R134, R237, R385), and the one write that every agent makes at a home (R114, R117, R127,
R142). -/
def Obligations.HomeWrite : Prop :=
  (∀ (rd : Nat → Except XErr Nat) (s2 ia : Bool) (va node level e : Nat), level ≤ 4 →
    rd (node + 8 * (va / 2 ^ (16 + 9 * level) % (if level = 4 then 32 else 512))) = .ok e →
    walkLevel e level s2 (!ia) (walkFrom rd s2 ia va (level - 1)) (walkFrom rd s2 ia va level node)) ∧
  (∀ (s : State) (fn : Nat) (pasid : BitVec 20) (va : Dword), (nget 0 s.vfTab fn).getLsbD 0 = false →
    (∀ t ∈ s.tlb1, ¬(t.fn = fn ∧ t.pasid = pasid ∧ t.page = va.toNat % 2 ^ 57 / 65536)) → translateDirect s fn pasid va) ∧
  (∀ (s : State) (ag : Agent) (q : Ask) (va : Dword),
    let code : Nat → Nat := fun r => 0x040 + 8 * q.kind + r
    let canon : Prop := va.extractLsb' 57 7 = if va.getLsbD 56 then 0x7F else 0
    (¬canon → s.checkElem ag q va = .error (code 0, false)) ∧
    (canon → va.toNat % q.n ≠ 0 → s.checkElem ag q va = .error (0x0C8, false)) ∧
    (canon → va.toNat % q.n = 0 →
      (∀ e, s.translate ag.fn ag.pasid va = .error e → s.checkElem ag q va = .error (code e.reason, e.s2)) ∧
      ∀ x, s.translate ag.fn ag.pasid va = .ok x → s.checkElem ag q va = checkedAfter s ag q x)) ∧
  (∀ (d b : BitVec 6) (m : BitVec 3) (w : BitVec 2) (o : BitVec 5) (s : State), s.ready = true → s.cur.replay = none →
    s.cur.base = none → m.toNat < 3 →
    let n := widthOf w
    let addr : Nat → Dword := fun e =>
      s.sreg b + (if m = 2 then 0 else 16 * o.signExtend 64) + (if m = 1 then 0 else BitVec.ofNat 64 (e * (n / 8)))
    ∀ r ∈ [(Instr.ld 1 d b m w o, fun _ => readAsk (n / 8) true),
           (Instr.st 1 d b m w o, fun e => writeAsk (n / 8) (n == 64 && (readTags s.cur.src d).getLsbD (laneOf n e)))],
      let (i, q) := r
      ∃ u, exec i s = .next u ∧ ∀ l, l < 32 → s.cur.act.getLsbD l = true → ∀ e c s2, e ∈ laneElems n l →
        s.checkElem s.agent (q e) (addr e) = .error (c, s2) →
        (∀ f ∈ laneElems n l, f < e → ∃ x, s.checkElem s.agent (q f) (addr f) = .ok x) →
          u.cur.act.getLsbD l = false ∧
          { lane := l, cause := some c, va := addr e, kind := (q e).kind, s2 := s2, sz := Nat.log2 (n / 8) : Fail } ∈ u.cur.fails) ∧
  (∀ (s : State) (pa n x : Nat) (tagged : Bool) (who : Option Writer), 0 < n → pa % 64 + n ≤ 64 →
    let v := s.pwrite pa n x tagged who
    v.pread pa n = x % 2 ^ (8 * n) ∧
    (∀ a, a < pa ∨ pa + n ≤ a → v.byteAt a = s.byteAt a) ∧
    (∀ a, a / 64 ≠ pa / 64 → v.tagOf a = s.tagOf a) ∧
    (isHost pa = false →
      (∀ i, i < 8 → (tagRT (v.tagOf pa)).getLsbD i =
        if pa % 64 < 8 * (i + 1) ∧ 8 * i < pa % 64 + n then tagged else (tagRT (s.tagOf pa)).getLsbD i) ∧
      tagP (v.tagOf pa) = tagP (s.tagOf pa) ∧ tagV (v.tagOf pa) = tagV (s.tagOf pa) ∧ tagCS (v.tagOf pa) = 0))

/-- R234, R235, R237, R243: the vector loads from global memory. -/
def Obligations.GlobalLoads : Prop :=
  ∀ (c : BitVec 1) (d a b : BitVec 6) (m : BitVec 3) (w x : BitVec 2) (o : BitVec 5) (s : State), s.ready = true →
    s.cur.replay = none → s.cur.base = none → m.toNat < 3 →
    let n := widthOf w
    let byMode : Nat → Dword := fun e =>
      s.sreg b + (if m = 2 then 0 else 16 * o.signExtend 64) + (if m = 1 then 0 else BitVec.ofNat 64 (e * (n / 8)))
    let byIndex : Nat → Dword := fun e => s.sreg b + BitVec.ofInt 64 (sext (elem (s.opnd a n) n e) n * 2 ^ x.toNat)
    ∀ r ∈ [(Instr.ld c d b m w o, true, m.toNat, byMode), (Instr.ldnt c d b m w o, false, m.toNat, byMode),
           (Instr.ldg c d a b w x, true, 0, byIndex)],
      let (i, cached, am, addr) := r
      let q := readAsk (n / 8) cached
      let es := activeElems s.cur.act n
      (∀ e ∈ es, ∃ y, s.checkElem s.agent q (addr e) = .ok y) →
      ((s.incBase am b o).serveWord (es.map fun e => (q, addr e))).1 = true →
        ∃ v, exec i s = .next (finish c v) ∧
          Loaded d n (if am = 1 then 1 else es.length) (incremented s am b o) (fun e => planned s q (s.plan s.agent q (addr e))) s v

/-- R106, R234, R235, R237, R243: the vector stores to global memory. -/
def Obligations.GlobalStores : Prop :=
  ∀ (c : BitVec 1) (d a b : BitVec 6) (m : BitVec 3) (w x : BitVec 2) (o : BitVec 5) (s : State), s.ready = true →
    s.cur.replay = none → s.cur.base = none → m.toNat < 3 →
    let n := widthOf w
    let byMode : Nat → Dword := fun e =>
      s.sreg b + (if m = 2 then 0 else 16 * o.signExtend 64) + (if m = 1 then 0 else BitVec.ofNat 64 (e * (n / 8)))
    let byIndex : Nat → Dword := fun e => s.sreg b + BitVec.ofInt 64 (sext (elem (s.opnd a n) n e) n * 2 ^ x.toNat)
    let q : Nat → Ask := fun e => writeAsk (n / 8) (n == 64 && (readTags s.cur.src d).getLsbD (laneOf n e))
    ∀ r ∈ [(Instr.st c d b m w o, m.toNat, byMode), (Instr.stnt c d b m w o, m.toNat, byMode), (Instr.stg c d a b w x, 0, byIndex)],
      let (i, am, addr) := r
      ∀ pa : Nat → Nat,
        (∀ e ∈ activeElems s.cur.act n, ∃ y, s.checkElem s.agent (q e) (addr e) = .ok y ∧ y.pa = pa e) →
        ((s.incBase am b o).serveWord ((activeElems s.cur.act n).map fun e => (q e, addr e))).1 = true →
        ∃ v, exec i s = .next (finish c v) ∧
          Stored (n / 8) (activeElems s.cur.act n) pa (fun e => elem (s.opnd d n) n e) (incremented s am b o) s v

/-- R238, R241: the uniform accesses and `pref`. The case of `lds` whose base is its own destination is the model's choice (log entry 41). -/
def Obligations.UniformAccesses : Prop :=
  ∀ (c : BitVec 1) (d b : BitVec 6) (m : BitVec 3) (w : BitVec 2) (o : BitVec 5) (s : State), s.ready = true →
    (s.cur.replay = none → s.cur.base = none → m = 0 ∨ m = 2 →
      let n := widthOf w
      let va := s.sreg b + (if m = 2 then 0 else 16 * o.signExtend 64)
      let ql := readAsk (n / 8) true
      let qs := writeAsk (n / 8) (n == 64 && s.cur.src.stags.getLsbD d.toNat)
      ((∃ y, s.checkElem s.agent ql va = .ok y) → ((s.incBase m.toNat b o).serveWord [(ql, va)]).1 = true →
        ∃ v, exec (.lds c d b m w o) s = .next (finish c v) ∧ v.accessAside = s.accessAside ∧ (∀ a, v.byteAt a = s.byteAt a) ∧
          (∀ f, (v.frame f).aside = (s.frame f).aside) ∧ v.cur.aside = s.cur.aside ∧ (∀ k, k ≠ s.cur.gk → v.group k = s.group k) ∧
          v.cg = { s.cg with
            regs := if m = 2 ∧ d = b then incremented s m.toNat b o
                    else writeS d (BitVec.ofNat 64 (planned s ql (s.plan s.agent ql va))) false (incremented s m.toNat b o)
            inFlight := s.cg.inFlight ++ [{ scalar := true, reg := d.toNat, mask := s.cur.act, elems := 1 }] }) ∧
      (∀ y, s.checkElem s.agent qs va = .ok y → ((s.incBase m.toNat b o).serveWord [(qs, va)]).1 = true →
        ∃ v, exec (.sts c d b m w o) s = .next (finish c v) ∧
          Stored (n / 8) [0] (fun _ => y.pa) (fun _ => (s.sreg d).toNat) (incremented s m.toNat b o) s v)) ∧
    (let lines : List Dword := (List.range (if m = 0 then 4 else 1)).map (fun i => s.sreg b + 16 * o.signExtend 64 + BitVec.ofNat 64 (64 * i))
     (s.serveWord (lines.map fun va => ({ readAsk 1 true with noHost := true }, va))).1 = true →
      ∃ v, exec (.pref c b m o) s = .next (finish c v) ∧ v.accessAside = s.accessAside ∧ (∀ a, v.byteAt a = s.byteAt a) ∧
        (∀ f, (v.frame f).aside = (s.frame f).aside) ∧ v.cur.aside = s.cur.aside ∧ v.groups = s.groups)

namespace Sys2Proof.Machine

/-- Everything but the teams, the groups and the issue context. -/
def State.teamAside (s : State) : State := { s with teams := [], groups := [], cur := Cur.reset }

/-- The m-register of a word under AM 3, before the bundle (R236). -/
def mOf (s : State) (o : BitVec 5) : Dword := nget 0 s.cur.src.m (o.toNat / 4)

/-- The registers after the increment of a team-memory word (R235, R236): POS grows by STEP modulo LEN. -/
def tmIncremented (s : State) (am : Nat) (b : BitVec 6) (o : BitVec 5) : Regs :=
  if am = 3 then { s.cg.regs with m := nput s.cg.regs.m (o.toNat / 4) (mAdvance (mOf s o) o) } else incremented s am b o

/-- The team-memory offset of an element (R234, R236). -/
def tmOffset (s : State) (am : Nat) (b : BitVec 6) (o : BitVec 5) (n e : Nat) : Nat :=
  if am = 3 then mBase (mOf s o) + (mPos (mOf s o) + e * (n / 8)) % mLen (mOf s o)
  else (s.sreg b + (if am = 2 then 0 else 16 * o.signExtend 64) + (if am = 1 then 0 else BitVec.ofNat 64 (e * (n / 8)))).toNat

end Sys2Proof.Machine

/-- R236, R239, R243: team memory. -/
def Obligations.TeamMemoryWords : Prop :=
  ∀ (c : BitVec 1) (d a b : BitVec 6) (m : BitVec 3) (w x : BitVec 2) (o : BitVec 5) (s : State), s.ready = true →
    s.cur.replay = none → s.cur.base = none → m.toNat < 4 →
    let n := widthOf w
    let byIndex : Nat → Nat := fun e => (s.sreg b + BitVec.ofInt 64 (sext (elem (s.opnd a n) n e) n * 2 ^ x.toNat)).toNat
    let tk := s.cg.tk
    (∀ r ∈ [(Instr.ldtm c d b m w o, m.toNat, tmOffset s m.toNat b o n), (Instr.ldgtm c d a b w x, 0, byIndex)],
      let (i, am, addr) := r
      (∀ e ∈ activeElems s.cur.act n, s.tmOk (addr e) (n / 8) false = true) → (am = 3 → mValid s.tmSize (mOf s o) = true) →
        ∃ v, exec i s = .next (finish c v) ∧ v.teams = s.teams ∧
          Loaded d n 0 (tmIncremented s am b o) (fun e => mreadN s.ct.tmem (addr e) (n / 8)) s v) ∧
    (∀ r ∈ [(Instr.sttm c d b m w o, m.toNat, tmOffset s m.toNat b o n), (Instr.stgtm c d a b w x, 0, byIndex)],
      let (i, am, addr) := r
      let after := (activeElems s.cur.act n).foldl (fun t e => mwriteN t (addr e) (n / 8) (elem (s.opnd d n) n e)) s.ct.tmem
      (∀ e ∈ activeElems s.cur.act n, s.tmOk (addr e) (n / 8) true = true) → (am = 3 → mValid s.tmSize (mOf s o) = true) →
        ∃ v, exec i s = .next (finish c v) ∧ v.teamAside = s.teamAside ∧ { v.cur with base := s.cur.base, stepped := s.cur.stepped } = s.cur ∧
          (∀ k, k ≠ tk → v.team k = s.team k) ∧
          v.team tk = { s.ct with tmem := after } ∧
          (∀ k, (v.group k).kept = (s.group k).kept ∧ (∀ r ∈ (v.group k).resv, r ∈ (s.group k).resv) ∧
            (v.group k).regs = if k = s.cur.gk then tmIncremented s am b o else (s.group k).regs)) ∧
    (m = 3 → mValid s.tmSize (mOf s o) = false → ∀ i ∈ [Instr.ldtm c d b m w o, Instr.sttm c d b m w o],
      exec i s = .next (finish c (addFails ((lanesOf s.cur.act).map tmFail) s)))

/-- R240. -/
def Obligations.AccumulatorRows : Prop :=
  ∀ (c : BitVec 1) (d b : BitVec 6) (s : State), s.ready = true →
    let x := s.sreg b
    let row := (x.extractLsb' 0 8).toNat
    let col := (x.extractLsb' 8 8).toNat
    let core := coreOf s.cur.gk
    let bad : Prop := col % 64 ≠ 0 ∨ x.extractLsb' 16 48 ≠ 0
    (s.cgrid.tsoff = 0 → ∀ i ∈ [Instr.ldacc c d b, Instr.stacc c d b],
      exec i s = .next (finish c (addFails ((lanesOf s.cur.act).map (failOf 0x0CA)) s))) ∧
    (s.cgrid.tsoff ≠ 0 → bad → ∀ i ∈ [Instr.ldacc c d b, Instr.stacc c d b],
      exec i s = .next (finish c (addFails ((lanesOf s.cur.act).map (failOf 0x0C9)) s))) ∧
    (s.cgrid.tsoff ≠ 0 → ¬bad → s.accBusy row col = false →
      (∃ v, exec (.ldacc c d b) s = .next (finish c v) ∧
        Loaded d 32 0 s.cg.regs (fun e => (nget 0 (s.tile core).acc (row * 256 + col + e)).toNat) s v) ∧
      (∃ v, exec (.stacc c d b) s = .next (finish c v) ∧
        { v with tiles := s.tiles } = s ∧ (∀ k, k ≠ core → v.tile k = s.tile k) ∧
        { v.tile core with acc := (s.tile core).acc } = s.tile core ∧
        ∀ j, nget 0 (v.tile core).acc j =
          if row * 256 + col ≤ j ∧ j < row * 256 + col + 64 ∧ s.cur.act.getLsbD (laneOf 32 (j - (row * 256 + col)))
          then BitVec.ofNat 32 (elem (s.opnd d 32) 32 (j - (row * 256 + col))) else nget 0 (s.tile core).acc j))

/-! ## Control transfers and bundles -/

/-- R246. -/
def Obligations.BranchTargets : Prop :=
  ∀ (p : BitVec 4) (o : BitVec 18) (s : State), s.plainEnd = true →
    let m := s.cur.act
    let q := s.preg p.toNat
    ∀ r ∈ [(Instr.bra p o, m &&& q), (Instr.brn p o, m &&& ~~~q), (Instr.jmp o, m),
           (Instr.braAny p o, if q &&& m ≠ 0 then m else 0), (Instr.braAll p o, if q &&& m = m then m else 0)],
      ∃ u, exec r.1 s = .next u ∧ GroupOnly s u ∧ u.cg.regs = s.cg.regs ∧
        ∀ l, m.getLsbD l = true →
          LaneAt u s.cur.gk l (if r.2.getLsbD l then s.cur.wpc + 4 * o.signExtend 64 else s.cur.npc)

/-- R247. -/
def Obligations.CallsAndReturns : Prop :=
  ∀ (o : BitVec 18) (a : BitVec 6) (s : State), s.plainEnd = true →
    let link := s.cur.wpc + 4
    let own : Nat → Dword := fun l => BitVec.ofNat 64 (elem (nget 0 s.cur.src.v 54) 64 l)
    let good : Nat → Prop := fun l => (own l).toNat % 4 = 0
    let atPrio : Entry → Prop := fun e => e.prio.ult s.cur.entry.prio = false ∧ (s.cg.frontier = [] → e.prio = s.cur.entry.prio)
    (∃ u, exec (.call o) s = .next u ∧ GroupOnly s u ∧
      (∃ img, u.cg.regs = writeV 54 s.cur.act img 0 s.cg.regs ∧ ∀ l, s.cur.act.getLsbD l = true → elem img 64 l = link.toNat) ∧
      ∀ l, s.cur.act.getLsbD l = true → LaneIn u s.cur.gk l (s.cur.wpc + 4 * o.signExtend 64) atPrio) ∧
    ((s.sreg a).toNat % 4 = 0 →
      ∃ u, exec (.jmpi a) s = .next u ∧ GroupOnly s u ∧ u.cg.regs = s.cg.regs ∧
        ∀ l, s.cur.act.getLsbD l = true → LaneIn u s.cur.gk l (s.sreg a) atPrio) ∧
    ((s.sreg a).toNat % 4 ≠ 0 → s.cg.frontLanes &&& s.cur.act = 0 →
      ∃ u, exec (.jmpi a) s = .next u ∧ (∀ l, s.cur.act.getLsbD l = true → LaneGone u s.cur.gk l) ∧
        ∃ r, u.recs = s.recs ++ [r] ∧ r.cause = 0x0C4 ∧ r.lanes = s.cur.act ∧ r.pc = some s.cur.pc ∧ r.park = false) ∧
    ((∀ l, s.cur.act.getLsbD l = true → good l) →
      ∃ u, exec .ret s = .next u ∧ GroupOnly s u ∧ u.cg.regs = s.cg.regs ∧
        ∀ l, s.cur.act.getLsbD l = true → LaneIn u s.cur.gk l (own l) atPrio) ∧
    (s.cg.frontLanes &&& s.cur.act = 0 →
      ∃ u, exec .ret s = .next u ∧ u.cg.regs = s.cg.regs ∧ (∀ k, k ≠ s.cur.gk → u.group k = s.group k) ∧
        { u.elsewhere with recs := s.recs } = s.elsewhere ∧
        (∀ l, s.cur.act.getLsbD l = true → good l → LaneIn u s.cur.gk l (own l) atPrio) ∧
        (∀ l, s.cur.act.getLsbD l = true → ¬good l → LaneGone u s.cur.gk l) ∧
        ((∀ l, s.cur.act.getLsbD l = true → good l) → u.recs = s.recs) ∧
        ((∃ l, s.cur.act.getLsbD l = true ∧ ¬good l) →
          ∃ r, u.recs = s.recs ++ [r] ∧ r.cause = 0x0C4 ∧ r.pc = some s.cur.pc ∧ r.park = false ∧
            ∀ l, r.lanes.getLsbD l = true ↔ s.cur.act.getLsbD l = true ∧ ¬good l))

/-- R51, R53, R61, R62, R248-R250. That room is judged before reach is the model's choice (log entry 142), and so are the words of a
body that R62's checks look at (log entry 143); `loop` enters a body here with no open loop. -/
def Obligations.JoinLoopExit : Prop :=
  ∀ (j : BitVec 12) (o : BitVec 10) (l : BitVec 2) (b : BitVec 6) (n : BitVec 8) (s : State), s.ready = true →
    let h := s.cgrid.hdr
    let t := (s.cur.wpc &&& ~~~15#64) + 16 * o.setWidth 64
    let room : Prop := s.cg.landings.length < s.cgrid.ld
    let near : Prop := h.toNat ≤ t.toNat ∧ t.toNat < h.toNat + 0x400000
    let failed : Nat → State := fun c => addFails ((lanesOf s.cur.act).map (failOf c)) s
    (room → near → exec (.join j o) s = .next (finish 0 (s.mapCg (fun g =>
      { g with landings := g.landings ++
          [{ await := s.cur.act, jprio := j, joff := ((t - h) / 4).setWidth 20, held := 0 }] })))) ∧
    (¬room → exec (.join j o) s = .next (finish 0 (failed 0x0C0))) ∧
    (room → ¬near → exec (.join j o) s = .next (finish 0 (failed 0x0C1))) ∧
    (s.plainEnd = true → s.cg.loops = [] → s.loopMisuse l.toNat (n.toNat + 1) (s.cur.wpc + 4) = false →
      ∃ u, exec (.loop l b n) s = .next u ∧ u.elsewhere = s.elsewhere ∧ (∀ k, k ≠ s.cur.gk → u.group k = s.group k) ∧
        u.cg.regs = { s.cg.regs with lc := nput s.cg.regs.lc l.toNat (s.sreg b) } ∧
        (s.sreg b = 0 → ∀ i, s.cur.act.getLsbD i = true → LaneAt u s.cur.gk i (s.cur.wpc + 4 + 4 * (n.setWidth 64 + 1))) ∧
        (s.sreg b ≠ 0 → u.cg.loops = [{ lc := l.toNat, first := s.cur.wpc + 4, len := n.toNat }] ∧
          ∃ e ∈ u.cg.frontier, e.owner = true ∧ e.mask = s.cur.act ∧ e.pc = s.cur.npc)) ∧
    (s.loopMisuse l.toNat (n.toNat + 1) (s.cur.wpc + 4) = true → exec (.loop l b n) s = .next (finish 0 (failed 0x0C2))) ∧
    (s.plainEnd = true → s.cg.frontLanes &&& s.cur.act = 0 →
      ∃ u, exec .exit s = .next u ∧ u.elsewhere = s.elsewhere ∧ (∀ k, k ≠ s.cur.gk → u.group k = s.group k) ∧
        u.cg.regs = s.cg.regs ∧ (∀ i, s.cur.act.getLsbD i = true → LaneGone u s.cur.gk i) ∧
        ∀ i, s.cur.act.getLsbD i = false → u.cg.frontLanes.getLsbD i = s.cg.frontLanes.getLsbD i ∧
          u.cg.parkedLanes.getLsbD i = s.cg.parkedLanes.getLsbD i)

/-- R178, R251, R267. -/
def Obligations.TrapWords : Prop :=
  ∀ (p : BitVec 4) (code : BitVec 12) (k : BitVec 1) (x : BitVec 21) (s : State), s.plainEnd = true →
    s.cg.frontLanes &&& s.cur.act = 0 →
    (∀ r ∈ [(Instr.trap code, s.cur.act, 0x140), (Instr.brk code, s.cur.act, 0x141),
            (Instr.trapc p code, s.cur.act &&& s.preg p.toNat, 0x140)],
      let (i, m, cause) := r
      let again := s.cur.replay.any (·.trap)
      ∃ u, exec i s = .next u ∧ u.cg.regs = s.cg.regs ∧
        (∀ l, s.cur.act.getLsbD l = true → again = true ∨ m.getLsbD l = false → LaneAt u s.cur.gk l s.cur.npc) ∧
        (again = true ∨ m = 0 → u.recs = s.recs ∧ u.cg.parked = s.cg.parked) ∧
        (again = false → m ≠ 0 → ∃ q, u.cg.parked = s.cg.parked ++ [q] ∧ u.recs = s.recs ++ [q.record] ∧
          q.mask = m ∧ q.pc = s.cur.pc ∧ q.prio = s.cur.entry.prio ∧ q.lc = s.cur.src.lc ∧ q.reply = none ∧
          q.record.cause = cause ∧ q.record.va = code.setWidth 64 ∧ q.record.lanes = m ∧ q.record.park = true ∧
          q.record.pc = some s.cur.pc ∧ u.cg.frontLanes &&& m = 0)) ∧
    (∀ r ∈ [(Instr.eret, 0x142), (Instr.udf 0 k x, 0x00F)],
      ∃ u, exec r.1 s = .next u ∧ u.cg.regs = s.cg.regs ∧ (∀ l, s.cur.act.getLsbD l = true → LaneGone u s.cur.gk l) ∧
        ∃ q, u.recs = s.recs ++ [q] ∧ q.cause = r.2 ∧ q.va = 0 ∧ q.lanes = s.cur.act ∧ q.park = false ∧ q.pc = some s.cur.pc)

/-- R50, R178, R265, R269. -/
def Obligations.PrioAndRest : Prop :=
  (∀ (p : BitVec 12) (n : BitVec 16) (s : State), s.plainEnd = true →
    (∀ r ∈ [(Instr.nop 0, s.cur.entry.prio), (Instr.prio 0 p, p)],
      ∃ u, exec r.1 s = .next u ∧ u.elsewhere = s.elsewhere ∧ (∀ k, k ≠ s.cur.gk → u.group k = s.group k) ∧
        u.cg.regs = s.cg.regs ∧ ∀ l, s.cur.act.getLsbD l = true →
          LaneIn u s.cur.gk l s.cur.npc (fun e => e.prio.ult r.2 = false ∧ (s.cg.frontier = [] → e.prio = r.2))) ∧
    (∀ r ∈ [(Instr.yield, 16), (Instr.sleep n, if n = 0 then 16 else 64 * n.toNat)],
      ∃ u, exec r.1 s = .next u ∧ u.elsewhere = s.elsewhere ∧ (∀ k, k ≠ s.cur.gk → u.group k = s.group k) ∧
        u.cg.regs = s.cg.regs ∧ ∃ e ∈ u.cg.frontier, e.mask = s.cur.act ∧ e.pc = s.cur.npc ∧ e.sleep = r.2 + 1 ∧
          e.prio = s.cur.entry.prio)) ∧
  (∀ (c : BitVec 1) (p : BitVec 12) (s : State), s.ready = true → c = 1 →
    exec (.nop c) s = .next (s.mapCur fun x => { x with wpc := x.wpc + 4 }) ∧
    exec (.prio c p) s = .next (s.mapCur fun x => { x with newPrio := some p, wpc := x.wpc + 4 })) ∧
  (∀ (gk i : Nat) (e : Entry) (s : State), (s.group gk).frontier[i]? = some e →
    (e.sleep ≠ 1 → exec (.sleepExpiry gk i) s = .next s) ∧
    (e.sleep = 1 → ∃ u, exec (.sleepExpiry gk i) s = .next u ∧ u.elsewhere = s.elsewhere ∧
      (∀ k, k ≠ gk → u.group k = s.group k) ∧ (u.group gk).regs = (s.group gk).regs ∧
      ∀ l, e.mask.getLsbD l = true → LaneIn u gk l e.pc (fun f => f.sleep = 0)))

/-- R54, with one landing. -/
def Obligations.JoinReconverges : Prop :=
  ∀ (s : State) (x : Landing), ({ s with groups := nput s.groups s.cur.gk { s.cg with landings := [] } } : State).plainEnd = true →
    s.cg.landings = [x] → x.await = x.held ||| s.cur.act → x.held &&& s.cur.act = 0 →
    (∀ e ∈ s.cg.frontier, e.held = true ∧ e.owner = false ∧ e.barWait = false ∧ e.sleep = 0 ∧
      e.pc = x.pc s.cgrid.hdr ∧ e.mask &&& ~~~x.held = 0) →
    s.cg.frontLanes = x.held →
    (s.cur.npc = x.pc s.cgrid.hdr →
      ∃ u, exec (.nop 0) s = .next u ∧ u.cg.regs = s.cg.regs ∧ u.cg.landings = [] ∧
        ∃ e, u.cg.frontier = [e] ∧ e.mask = x.await ∧ e.pc = x.pc s.cgrid.hdr ∧ e.prio = x.jprio ∧ e.held = false) ∧
    (s.cur.npc ≠ x.pc s.cgrid.hdr →
      ∃ u, exec (.nop 0) s = .next u ∧ u.cg.regs = s.cg.regs ∧ u.cg.landings = [x] ∧
        ∀ l, s.cur.act.getLsbD l = true → LaneIn u s.cur.gk l s.cur.npc (fun e => e.held = false))

/-- R249, for one loop. -/
def Obligations.LoopPasses : Prop :=
  ∀ (s : State) (x : LoopLevel), (s.mapCur fun c => { c with entry := { c.entry with owner := false } }).plainEnd = true →
    s.cur.entry.owner = true → s.cg.loops = [x] → (∀ e ∈ s.cg.frontier, e.owner = false) →
    let count := nget 0 s.cg.regs.lc x.lc
    let last := s.cur.npc - 4 = x.first + 4 * BitVec.ofNat 64 x.len
    ∃ u, exec (.nop 0) s = .next u ∧ u.elsewhere = s.elsewhere ∧ (∀ k, k ≠ s.cur.gk → u.group k = s.group k) ∧
      u.cg.regs = { s.cg.regs with lc := if last then nput s.cg.regs.lc x.lc (count - 1) else s.cg.regs.lc } ∧
      (last → count ≠ 1 → u.cg.loops = [x] ∧
        ∀ l, s.cur.act.getLsbD l = true → LaneIn u s.cur.gk l x.first (fun e => e.owner = true)) ∧
      (last → count = 1 → u.cg.loops = [] ∧ ∀ l, s.cur.act.getLsbD l = true → LaneAt u s.cur.gk l s.cur.npc) ∧
      (¬last → u.cg.loops = [x] ∧ ∀ l, s.cur.act.getLsbD l = true → LaneIn u s.cur.gk l s.cur.npc (fun e => e.owner = true))

/-! ## Faults, replays and system words -/

/-- R45, R56-R60: taking a fault and the return from it. -/
def Obligations.FaultsTaken : Prop :=
  (
    (∀ (gk : Nat) (x : ParkContext) (c : Nat) (f : Fail) (fs : List Fail) (s : State),
      (∀ e ∈ f :: fs, e.cause = some c ∧ e.lane < 32) → (f :: fs).Pairwise (fun a b => a.lane < b.lane) →
      let m : LaneMask := maskOf fun l => (f :: fs).any fun e => e.lane == l
      let r := groupRec s gk f c m x.pc (parkable c)
      let u := raiseFails gk x (f :: fs) s
      u.recs = s.recs ++ [r] ∧ r.cause = c ∧ r.va = f.va ∧ r.kind = f.kind ∧ r.sz = f.sz ∧ r.lanes = m ∧ r.pc = some x.pc ∧
      (u.group gk).regs = (s.group gk).regs ∧ (∀ k, k ≠ gk → u.group k = s.group k) ∧ u.mem = s.mem ∧ u.teams = s.teams ∧
      (if parkable c = true then
        (u.group gk).parked = (s.group gk).parked ++ [{ mask := m, pc := x.pc, prio := x.prio, record := r, lc := x.lc,
                                                        loops := x.loops, base := x.base, reply := none }] ∧
          (u.group gk).landings = (s.group gk).landings ∧ ∀ y ∈ (u.group gk).resv, m.getLsbD y.1 = false
      else
        (∀ l, m.getLsbD l = true → LaneGone u gk l) ∧
          (u.group gk).faultmask = (s.group gk).faultmask)) ∧
    (∀ (gk : Nat) (x : ParkContext) (m : LaneMask) (s : State), m ≠ 0 →
      let u := raiseFails gk x ((lanesOf m).map tmFail) s
      u.recs = s.recs ∧ (u.group gk).faultmask = (s.group gk).faultmask ||| m ∧ (u.group gk).regs = (s.group gk).regs ∧
        u.elsewhere = s.elsewhere ∧ (∀ l, m.getLsbD l = true → LaneGone u gk l) ∧ ∀ k, k ≠ gk → u.group k = s.group k) ∧
    (∀ (gk : Nat) (x : ParkContext) (c d : Nat) (f g : Fail) (s : State), f.cause = some c → g.cause = some d → c ≠ d →
      f.lane < g.lane → g.lane < 32 → raiseFails gk x [g, f] s = raiseFails gk x [g] (raiseFails gk x [f] s))) ∧
  (
    ∀ (p : Parked) (g : Group),
      let u := replayParked p g
      u.parked = g.parked.erase p ∧ u.regs = g.regs ∧ u.landings = g.landings ∧ u.faulted = g.faulted ∧
      ∃ e, u.frontier = g.frontier ++ [e] ∧ e.mask = p.mask ∧ e.pc = p.pc ∧ e.prio = p.prio ∧ e.owner = false ∧ e.held = false ∧
        (∃ r, e.replay = some r ∧ r.lc = p.lc ∧ r.loops = p.loops ∧ r.base = p.base ∧
          r.trap = (p.record.cause == 0x140 || p.record.cause == 0x141)) ∧
        (e.mask ≠ 0 → (∀ l, e ∈ insertEntry e l) ∧ ∀ f l, e ∈ l → e ∈ insertEntry f l))

/-- R45. -/
def Obligations.EntriesMerge : Prop :=
  ∀ (e : Entry) (l : List Entry), e.mask ≠ 0 →
    (∀ i : Nat, (∃ f ∈ insertEntry e l, f.mask.getLsbD i = true) ↔ e.mask.getLsbD i = true ∨ ∃ f ∈ l, f.mask.getLsbD i = true) ∧
    (∀ (i : Nat) (pc : Dword), (∃ f ∈ insertEntry e l, f.mask.getLsbD i = true ∧ f.pc = pc) ↔
      (e.mask.getLsbD i = true ∧ e.pc = pc) ∨ ∃ f ∈ l, f.mask.getLsbD i = true ∧ f.pc = pc) ∧
    (∀ f ∈ l, f.mergeable = false → f ∈ insertEntry e l) ∧
    let takes : Entry → Prop := fun f => f.pc = e.pc ∧ f.held = e.held ∧ f.mergeable = true
    (e.mergeable = true → ∀ p f r, l = p ++ f :: r → (∀ g ∈ p, ¬takes g) → takes f →
      ∃ x, insertEntry e l = p ++ x :: r ∧ x.mask = f.mask ||| e.mask ∧ x.pc = f.pc ∧ x.held = f.held ∧
        x.prio = (if f.prio.ult e.prio then e.prio else f.prio)) ∧
    (e.mergeable = false ∨ (∀ f ∈ l, ¬takes f) → insertEntry e l = l ++ [e])

namespace Sys2Proof.Machine

/-- What a bundle reads of its group, team, quadrant, cluster and device, as it stood when the bundle issued (R48, R266): what was
noted then, or what stands now. -/
def seenAtIssue (s : State) : Sampled :=
  let q := s.quad (s.cur.gk / 16)
  let b := nget Bank.reset s.seqBanks (s.cur.gk / 64)
  s.cur.sampled.getD
    { parked := s.cg.parkedLanes, faultmask := s.cg.faultmask, landings := s.cg.landings, phase := s.ct.phase
      tokbank := tokbank q, clock := (nget Cluster.reset s.clusters (s.cur.gk / 64 / 8)).clock, time := s.time
      toks := [q.bank.spent.toNat, q.bank.savcyc.toNat, q.bank.savepi.toNat, b.savcyc.toNat, b.spent.toNat] }

/-- The registers of R266 with one index each, and the value that `rsys` reads. -/
def systemRegisters (s : State) : List (BitVec 12 × Dword) :=
  let x := seenAtIssue s
  [((0x000 : BitVec 12), BitVec.ofNat 64 s.cg.gid), (0x001, BitVec.ofNat 64 s.ct.id), (0x002, s.ct.grid.setWidth 64),
   (0x003, BitVec.ofNat 64 s.cgrid.depth),
   (0x004, match s.ct.cid with | some x => 0x10000 ||| x.setWidth 64 | none => 0),
   (0x008, BitVec.ofNat 64 (s.cur.gk / 64)), (0x009, BitVec.ofNat 64 (s.cur.gk / 64 / 40))] ++
  [((0x010 : BitVec 12), s.cur.src.fpc.setWidth 64), (0x011, s.cur.src.nflags.setWidth 64), (0x012, s.cur.src.seed),
   (0x018, BitVec.ofNat 64 x.tokbank), (0x019, x.clock), (0x01A, BitVec.ofNat 64 x.time)] ++
  [((0x020 : BitVec 12), x.phase.setWidth 64), (0x021, x.faultmask.setWidth 64), (0x022, x.parked.setWidth 64),
   (0x023, BitVec.ofNat 64 x.landings.length)] ++
  (List.range 8).map (fun n => (BitVec.ofNat 12 (0x030 + n), nget 0 s.cur.src.m n)) ++
  (List.range 3).map (fun n => (BitVec.ofNat 12 (0x038 + n), nget 0 s.cur.src.lc n)) ++
  (List.range 16).map (fun n => (BitVec.ofNat 12 (0x040 + n), (nget 0 s.cur.src.p n).setWidth 64))

/-- The registers of R266 that may be written, and the registers after a write of `x`. -/
def writableRegisters (x : Dword) (r : Regs) : List (BitVec 12 × Regs) :=
  [((0x010 : BitVec 12), { r with fpc := x.extractLsb' 3 2 ++ (if x.setWidth 3 = 6#3 ∨ x.setWidth 3 = 7#3 then r.fpc.setWidth 3 else x.setWidth 3) }), (0x011, { r with nflags := x.setWidth 8 }), (0x012, { r with seed := x })] ++
  (List.range 8).map (fun n => (BitVec.ofNat 12 (0x030 + n), { r with m := nput r.m n ((x.setWidth 60).setWidth 64) })) ++
  (List.range 16).map (fun n => (BitVec.ofNat 12 (0x040 + n), { r with p := nput r.p n (x.setWidth 32) }))

end Sys2Proof.Machine

/-- R266, R155. -/
def Obligations.SystemRegisters : Prop :=
  (∀ (d : BitVec 6) (s : State), s.ready = true → ∀ r ∈ systemRegisters s,
    ∃ u, exec (.rsys d r.1) s = .next u ∧ ScalarWritten 0 d r.2 false s u) ∧
  (∀ (a : BitVec 6) (i : BitVec 12) (s : State), s.plainEnd = true →
    ∃ u, exec (.wsys a i) s = .next u ∧ GroupOnly s u ∧
      (∀ r ∈ writableRegisters (s.sreg a) s.cg.regs, r.1 = i → u.cg.regs = r.2) ∧
      ((∀ r ∈ writableRegisters (s.sreg a) s.cg.regs, r.1 ≠ i) → u.cg.regs = s.cg.regs))

/-- R265, R268. -/
def Obligations.QueriesAndPhase : Prop :=
  ∀ (d : BitVec 6) (p : BitVec 12) (s : State), s.ready = true →
    let x := seenAtIssue s
    let before := s.cg.inFlight.take s.cur.flights
    (∀ r ∈ [((0 : BitVec 3), x.tokbank), (1, x.toks.getD 0 0), (2, x.toks.getD 1 0), (3, x.toks.getD 2 0), (4, x.toks.getD 3 0),
            (5, x.toks.getD 4 0)],
      ∃ u, exec (.tokq d r.1) s = .next u ∧ ScalarWritten 0 d (BitVec.ofNat 64 r.2) false s u) ∧
    ((∀ f ∈ before, f.mask &&& s.cur.entry.mask = 0) →
      ∀ r ∈ [((0 : BitVec 1), (nget Cluster.reset s.clusters (s.cur.gk / 64 / 8)).clock), (1, BitVec.ofNat 64 s.time)],
      ∃ u, exec (.clock d r.1) s = .next u ∧ ScalarWritten 0 d r.2 false (s.mapCg fun g => { g with inFlight := before }) u) ∧
    ((∃ f ∈ before, f.mask &&& s.cur.entry.mask ≠ 0) → ∀ k,
      exec (.clock d k) s = .next (blockBundle .clock (s.block .clock))) ∧
    (s.plainEnd = true → ∃ u, exec (.phase p) s = .next u ∧ u.cg.regs = s.cg.regs ∧ u.mem = s.mem ∧
      (∀ k, k ≠ s.cg.tk → u.team k = s.team k) ∧
      { u.ct with phase := s.ct.phase } = s.ct ∧ u.ct.phase = (if s.leader s.cg.tk = some s.cur.gk then p else s.ct.phase))

/-! ## Atomics and synchronisation -/

namespace Sys2Proof.Machine

/-- The table of R254 and R255: each atomic with its width and f(x, v); `cmp` and `new` are the lanes of D and D + 1. -/
def atomicRows (c : BitVec 1) (sc : BitVec 3) (o : BitVec 2) (d a : BitVec 6) (loc : BitVec 1) (w : BitVec 2) :
    List (Instr × Nat × (Nat → Nat → Nat → Option Nat)) :=
  let n := widthOf w
  let int (u : BitVec 1) (x : Nat) : Int := ival { w := n, signed := u = 0 } x
  let fadd (f : FFmt) (x v : Nat) : Nat := (rounded f REnv.rne 0 [] (addVal false (fread REnv.rne f x) (fread REnv.rne f v))).1
  [(.amoadd c sc o d a loc w, n, fun x v _ => some ((x + v) % 2 ^ n)),
   (.amomin c sc o d a 0 loc w, n, fun x v _ => some (if int 0 v < int 0 x then v else x)),
   (.amomin c sc o d a 1 loc w, n, fun x v _ => some (min x v)),
   (.amomax c sc o d a 0 loc w, n, fun x v _ => some (if int 0 x < int 0 v then v else x)),
   (.amomax c sc o d a 1 loc w, n, fun x v _ => some (max x v)),
   (.amoand c sc o d a loc w, n, fun x v _ => some (x &&& v)), (.amoor c sc o d a loc w, n, fun x v _ => some (x ||| v)),
   (.amoxor c sc o d a loc w, n, fun x v _ => some (x ^^^ v)), (.amoswap c sc o d a loc w, n, fun _ v _ => some v),
   (.amocas c sc o d a loc w, n, fun x cmp new => if x = cmp then some new else none),
   (.amoinc c sc o d a loc w, n, fun x v _ => some (if v ≤ x then 0 else x + 1)),
   (.amofadd c sc o d a loc 0, 32, fun x v _ => some (fadd .f32 x v)),
   (.amofadd c sc o d a loc 1, 64, fun x v _ => some (fadd .f64 x v))]

/-- The homes and arbiters serve the lines that the accesses of a per-lane word ask for now (R89, R90, R115). -/
def linesServed (s : State) (q : Ask) (a : BitVec 6) : Prop :=
  (s.serveLines s.agent false s.cur.wpc.toNat (s.wordLines s.agent ((lanesOf s.cur.act).map fun l => (q, s.laneAddr a l)))).1 = true

end Sys2Proof.Machine

/-- R253-R255. -/
def Obligations.AtomicWords : Prop :=
  ∀ (c : BitVec 1) (sc : BitVec 3) (o : BitVec 2) (d a : BitVec 6) (w : BitVec 2) (s : State), s.ready = true →
    let lanes := lanesOf s.cur.act
    let addr : Nat → Dword := fun l => BitVec.ofNat 64 (elem (s.opnd a 64) 64 l)
    let lane : BitVec 6 → Nat → Nat → Nat := fun r n l => elem (s.opnd r 64) 64 l % 2 ^ n
    let new : Nat → Nat → Nat := fun n l => if d.toNat < 0x38 then lane (d + 1) n l else 0
    (∀ r ∈ atomicRows c sc o d a 0 w, ∀ pa : Nat → Nat,
      let (i, n, f) := r
      (∀ l ∈ lanes, ∃ y, s.checkElem s.agent (amoAsk (n / 8)) (addr l) = .ok y ∧ y.pa = pa l) →
      (s.serveLanes (amoAsk (n / 8)) a).1 = true →
      let g : Nat → Nat → Option Nat := fun l x => f x (lane d n l) (new n l)
      ∃ v, exec i s = .next (finish c v) ∧
        LanesServed d lanes.length (fun l => serial g pa (lanes.filter (· < l)) (pa l) (s.pread (pa l) (n / 8))) 0 s v ∧
        (∀ l ∈ lanes, v.pread (pa l) (n / 8) = serial g pa lanes (pa l) (s.pread (pa l) (n / 8))) ∧
        ∀ b, (∀ l ∈ lanes, b < pa l ∨ pa l + n / 8 ≤ b) → v.byteAt b = s.byteAt b) ∧
    (∀ pa : Nat → Nat, let n := widthOf w
      (∀ l ∈ lanes, ∃ y, s.checkElem s.agent (amoAsk (n / 8)) (addr l) = .ok y ∧ y.pa = pa l) →
      linesServed s (amoAsk (n / 8)) a → (∀ l ∈ lanes, s.pread (pa l) (n / 8) ≠ lane d n l) →
      ∃ v, exec (.amocas c sc o d a 0 w) s = .next (finish c v) ∧
        LanesServed d lanes.length (fun l => s.pread (pa l) (n / 8)) 0 s v ∧ ∀ b, v.byteAt b = s.byteAt b) ∧
    (∀ r ∈ atomicRows c sc o d a 1 w,
      let (i, n, f) := r
      let off : Nat → Nat := fun l => (addr l).toNat
      (∀ l ∈ lanes, s.tmOk (off l) (n / 8) true = true) →
      let g : Nat → Nat → Option Nat := fun l x => f x (lane d n l) (new n l)
      let old := s.ct.tmem
      ∃ v, exec i s = .next (finish c v) ∧
        LanesServed d 0 (fun l => serial g off (lanes.filter (· < l)) (off l) (mreadN old (off l) (n / 8))) 0 { s with teams := v.teams } v ∧
        (∀ k, k ≠ s.cg.tk → v.team k = s.team k) ∧ { v.ct with tmem := old } = s.ct ∧
        (∀ l ∈ lanes, mreadN v.ct.tmem (off l) (n / 8) = serial g off lanes (off l) (mreadN old (off l) (n / 8))) ∧
        ∀ b, (∀ l ∈ lanes, b < off l ∨ off l + n / 8 ≤ b) → mread v.ct.tmem b = mread old b)

/-- R71, R113, R256, R257. -/
def Obligations.ReservationWords : Prop :=
  (∀ (c : BitVec 1) (sc : BitVec 3) (o : BitVec 2) (d a : BitVec 6) (w : BitVec 2) (s : State), s.ready = true →
    let n := widthOf w / 8
    let lanes := lanesOf s.cur.act
    let addr : Nat → Dword := fun l => BitVec.ofNat 64 (elem (s.opnd a 64) 64 l)
    (∀ pa : Nat → Nat, (∀ l ∈ lanes, ∃ y, s.checkElem s.agent (lrAsk n) (addr l) = .ok y ∧ y.pa = pa l) →
      (s.serveLanes (lrAsk n) a).1 = true →
      ∃ v, exec (.lr c sc o d a 0 w) s = .next (finish c v) ∧
        LanesServed d lanes.length (fun l => s.pread (pa l) n) 0 { s with resvOrder := v.resvOrder } v ∧ (∀ b, v.byteAt b = s.byteAt b) ∧
        ((∀ k, (s.sliceResv k).length ≤ 32) → ∀ l ∈ lanes, v.holdsResv l false (pa l / 64) = true)) ∧
    ((∀ l ∈ lanes, s.tmOk (addr l).toNat n false = true) →
      ∃ v, exec (.lr c sc o d a 1 w) s = .next (finish c v) ∧
        LanesServed d 0 (fun l => mreadN s.ct.tmem (addr l).toNat n) 0 { s with resvOrder := v.resvOrder } v ∧
        ∀ l ∈ lanes, v.holdsResv l true (tmGranule s.cg.tk (addr l).toNat) = true) ∧
    (∀ (l pa : Nat) (y : Xlat), lanes = [l] → s.checkElem s.agent (scAsk n) (addr l) = .ok y → y.pa = pa →
      let held := s.holdsResv l false (pa / 64)
      (if held then (s.serveLanes (scAsk n) a).1 = true else linesServed s (scAsk n) a) →
      ∃ v, exec (.sc c sc o d a 0 w) s = .next (finish c v) ∧ LanesServed d 1 (fun _ => if held then 0 else 1) 0 s v ∧
        (∀ b, b < pa ∨ pa + n ≤ b ∨ held = false → v.byteAt b = s.byteAt b) ∧
        (held = true → v.pread pa n = elem (s.opnd d 64) 64 l % 2 ^ widthOf w) ∧
        ∀ tm g, v.holdsResv l tm g = false) ∧
    (∀ (l : Nat), lanes = [l] → s.tmOk (addr l).toNat n true = true →
      let p := (addr l).toNat
      let held := s.holdsResv l true (tmGranule s.cg.tk p)
      ∃ v, exec (.sc c sc o d a 1 w) s = .next (finish c v) ∧
        LanesServed d 0 (fun _ => if held then 0 else 1) 0 { s with teams := v.teams } v ∧
        (∀ k, k ≠ s.cg.tk → v.team k = s.team k) ∧
        (∀ b, b < p ∨ p + n ≤ b ∨ held = false → mread v.ct.tmem b = mread s.ct.tmem b) ∧
        (held = true → mreadN v.ct.tmem p n = elem (s.opnd d 64) 64 l % 2 ^ widthOf w) ∧
        ∀ tm g, v.holdsResv l tm g = false)) ∧
  (∀ (s : State) (pa n x : Nat) (tagged : Bool) (who : Option Writer), isHost pa = false →
    ∀ k, ∀ r ∈ ((s.pwrite pa n x tagged who).group k).resv, r.2.tm = true ∨ r.2.granule ≠ pa / 64) ∧
  (∀ (gk l : Nat) (r : Reservation) (s : State), (s.group gk).resv = [(l, r)] →
    (4096 ≤ r.age → ∃ u, exec (.reservationLapse gk l) s = .next u ∧ u.elsewhere = s.elsewhere ∧
      u.group gk = { s.group gk with resv := [] } ∧ ∀ k, k ≠ gk → u.group k = s.group k) ∧
    (r.age < 4096 → exec (.reservationLapse gk l) s = .next s))

namespace Sys2Proof.Machine

/-- An arrival object of target `t` takes the amount `x` (R260): ARRIVED and GENERATION. -/
def arriveOnce (t x : Nat) (o : Nat × Nat) : Nat × Nat := if t ≤ o.1 + x then (0, (o.2 + 1) % 2 ^ 16) else (o.1 + x, o.2)

/-- An arbiter of a cluster serves `n` more lines of a class now: the class has no limit, or as much is left and no earlier line
waits (R90). -/
def lineRoom (s : State) (cl n k : Nat) : Prop :=
  nget 0 (s.budget cl).limit k = 0 ∨
    (n ≤ nget 0 (s.budget cl).left k ∧ ∀ w ∈ s.waiters, clusterOf w.core = cl → ∀ d ∈ w.due, d.cls ≠ k)

/-- Every group keeps its registers and everything else but reservations. -/
def groupsKept (s v : State) : Prop := ∀ k, (v.group k).kept = (s.group k).kept ∧ (v.group k).regs = (s.group k).regs

end Sys2Proof.Machine

/-- R258, R260-R263. -/
def Obligations.SynchronisationWords : Prop :=
  (∀ (c : BitVec 1) (sc : BitVec 3) (o : BitVec 2) (d a : BitVec 6) (s : State), s.ready = true → sc.toNat ≤ 4 →
    let core := coreOf s.cur.gk
    let lanes := lanesOf s.cur.act
    let addr : Nat → Dword := fun l => BitVec.ofNat 64 (elem (s.opnd a 64) 64 l)
    let lane : BitVec 6 → Nat → Nat := fun r l => elem (s.opnd r 64) 64 l
    let acq := o.getLsbD 0
    (∃ v, exec (.fence c sc o) s = .next (finish c v) ∧ { v with caches := s.caches } = s ∧
      (∀ k, k ≠ core → v.cache k = s.cache k) ∧
      (v.cache core).gd = (s.cache core).gd + (if acq ∧ 2 ≤ sc.toNat then 1 else 0) ∧
      (v.cache core).gv = (s.cache core).gv + (if acq ∧ 3 ≤ sc.toNat then 1 else 0) ∧
      ∀ x ∈ (v.cache core).l1, x ∈ (s.cache core).l1) ∧
    (∀ pa : Nat → Nat, (∀ l ∈ lanes, ∃ y, s.checkElem s.agent arriveAsk (addr l) = .ok y ∧ y.pa = pa l) →
      (s.serveLanes arriveAsk a).1 = true →
      ∃ v, exec (.arrive c sc o d a) s = .next (finish c v) ∧ v.writeAside = s.writeAside ∧ v.cur.aside = s.cur.aside ∧ groupsKept s v ∧
        (∀ b, (∀ l ∈ lanes, b < pa l + 4 ∨ pa l + 10 ≤ b) → v.byteAt b = s.byteAt b) ∧
        ∀ l ∈ lanes, (v.pread (pa l + 4) 4, v.pread (pa l + 8) 2) =
          (lanes.filter (fun k => pa k = pa l)).foldl (fun x k => arriveOnce (s.pread (pa l) 4) (lane d k % 2 ^ 32) x)
            (s.pread (pa l + 4) 4, s.pread (pa l + 8) 2)) ∧
    (∀ pa : Nat → Nat, s.cur.got = [] → s.cur.svc.due = [] →
      let asked := lanes.flatMap fun l => s.wordLines s.agent [(awaitAsk, addr l)]
      (∀ l ∈ lanes, ∃ y, s.checkElem s.agent awaitAsk (addr l) = .ok y ∧ y.pa = pa l) →
      (∀ p ∈ asked, s.frameBusy s.cur.svc.ticket core p = false) →
      (∀ k, lineRoom s (clusterOf core) asked.length k) →
      let done : Nat → Prop := fun l => (s.pread (pa l + 8) 2 + 2 ^ 16 - lane d l % 2 ^ 16) % 2 ^ 16 < 2 ^ 15 ∨ s.pread (pa l + 11) 1 ≠ 0
      ((∀ l ∈ lanes, done l) → ∃ v, exec (.await c sc o d a) s = .next (finish c v) ∧
        LanesServed d 0 (fun l => s.pread (pa l + 8) 4) 0 { s with cur := v.cur } v ∧
        { v.cur.aside with got := [] } = s.cur.aside ∧ ∀ b, v.byteAt b = s.byteAt b) ∧
      ((∃ l ∈ lanes, ¬done l) → ∃ v, exec (.await c sc o d a) s = .next (finish c v) ∧ v.cur.blocked = some .await ∧
        v.cur.act = s.cur.act ∧ v.accessAside = s.accessAside ∧ v.groups = s.groups ∧ (∀ b, v.byteAt b = s.byteAt b) ∧
        ∀ l, ((∃ x ∈ v.cur.got, x.1 = l) ↔ l ∈ lanes ∧ done l) ∧
          (l ∈ lanes → done l → nget 0 v.cur.got l = s.pread (pa l + 8) 4))) ∧
    (let tags := readTags s.cur.src a
     (∃ img, exec (.tagq c d a) s = .next (finish c (s.mapRegs (writeV d s.cur.act img 0))) ∧
       ∀ l, l < 32 → elem img 64 l = if tags.getLsbD l then 1 else 0) ∧
     (d.toNat < 0x38 → exec (.untag c d) s = .next (finish c (s.mapRegs fun r =>
       { r with vtags := nput r.vtags d.toNat (nget 0 r.vtags d.toNat &&& ~~~s.cur.act) }))))) ∧
  (∀ (c : BitVec 1) (sc : BitVec 3) (o : BitVec 2) (s : State), s.ready = true → s.cur.arrived = true →
    exec (.bar c sc o) s = .next (finish c (s.mapCur fun x => { x with bar := s.cg.barArrived }))) ∧
  (∀ (sc : BitVec 3) (o : BitVec 2) (s : State), s.plainEnd = true → s.cur.arrived = false →
    let last := ∀ k ∈ s.ct.gks, k ≠ s.cur.gk → (s.group k).live = true → (s.group k).barArrived = true
    (last → ∃ u, exec (.bar 0 sc o) s = .next u ∧ (∀ k, (u.group k).regs = (s.group k).regs) ∧
      (∀ k ∈ s.ct.gks, (u.group k).barArrived = false ∧ ∀ e ∈ (u.group k).frontier, e.barWait = false) ∧
      ∀ l, s.cur.act.getLsbD l = true → LaneAt u s.cur.gk l s.cur.npc) ∧
    (¬last → ∃ u, exec (.bar 0 sc o) s = .next u ∧ u.elsewhere = s.elsewhere ∧ (∀ k, k ≠ s.cur.gk → u.group k = s.group k) ∧
      u.cg.regs = s.cg.regs ∧ u.cg.barArrived = true ∧
      ∃ e ∈ u.cg.frontier, e.mask = s.cur.act ∧ e.pc = s.cur.npc ∧ e.barWait = true)) ∧
  (∀ (tk : Nat) (s : State),
    let live := s.liveGroups tk
    ((∃ k ∈ live, (s.group k).barArrived = true) → (∀ k ∈ live, (s.group k).barArrived = true) →
      ∃ u, exec (.barComplete tk) s = .next u ∧ (∀ k, (u.group k).regs = (s.group k).regs) ∧
        ∀ k ∈ (s.team tk).gks, (u.group k).barArrived = false ∧ ∀ e ∈ (u.group k).frontier, e.barWait = false) ∧
    ((∃ k ∈ live, (s.group k).barArrived = false) → exec (.barComplete tk) s = .next s))

/-- R136-R138, R142-R144, R259. -/
def Obligations.PublishingWords : Prop :=
  ∀ (c : BitVec 1) (sc : BitVec 3) (o : BitVec 2) (d a : BitVec 6) (s : State), s.ready = true →
    let lanes := lanesOf s.cur.act
    let addr : Nat → Dword := fun l => BitVec.ofNat 64 (elem (s.opnd a 64) 64 l)
    let lane : Nat → Nat := fun l => elem (s.opnd d 64) 64 l
    (∀ pa : Nat → Nat, (∀ l ∈ lanes, ∃ y, s.checkElem s.agent ldrefAsk (addr l) = .ok y ∧ y.pa = pa l) →
      (s.serveLanes ldrefAsk a).1 = true →
      ∃ v, exec (.ldref c sc o d a) s = .next (finish c v) ∧ (∀ b, v.byteAt b = s.byteAt b) ∧
        LanesServed d lanes.length (fun l => s.pread (pa l) 8) (maskOf fun l => s.cur.act.getLsbD l &&
          (tagRT (s.tagOf (pa l))).getLsbD (pa l / 8 % 8)) s v) ∧
    (∀ (l : Nat) (y : Xlat), lanes = [l] → s.checkElem s.agent strefAsk (addr l) = .ok y → s.strefHeld s.agent (addr l) = false →
      s.strefFail s.agent (addr l) (lane l) l = none → (s.serveStref d a).1 = true →
      ∃ v, exec (.stref c sc o d a) s = .next (finish c v) ∧ v.writeAside = s.writeAside ∧ v.cur.aside = s.cur.aside ∧
        groupsKept s v ∧ (∀ b, b < y.pa ∨ y.pa + 8 ≤ b → v.byteAt b = s.byteAt b) ∧ v.pread y.pa 8 = lane l ∧
        (isHost y.pa = false → (tagRT (v.tagOf y.pa)).getLsbD (y.pa / 8 % 8) = true)) ∧
    (s.cur.walked = false → (∀ l ∈ lanes, s.pubFail s.agent (addr l) (lane l) l = none) →
      exec (.pub c sc d a) s = .next (finish c ((s.mapCur fun x =>
        { x with walks := lanes.map fun l => (l, addr l, BitVec.ofNat 64 (lane l)), walkFails := [] }).block .pub))) ∧
    (s.cur.walked = true → s.cur.walkFails = [] → exec (.pub c sc d a) s = .next (finish c s)) ∧
    (∀ (l : Nat) (tgt root : Dword) (y : Xlat) (x : Nat → Xlat), badRef root.toNat = false → s.checkElem s.agent pubAsk tgt = .ok y →
      (∀ k, nget 0 (s.budget (clusterOf s.agent.core)).limit k = 0) →
      (∀ n p, s.frameBusy n s.agent.core p = false) → s.writeBlocked y.pa 8 true = false →
      (∀ k, k < refLines root.toNat → s.access s.agent.fn s.agent.pasid (refLine root.toNat k) 0 false false = .ok (x k) ∧
        s.poisoned (x k).pa = false) →
      let stored (v : State) : Prop := groupsKept s v ∧ v.pread y.pa 8 = root.toNat ∧
        (∀ b, b < y.pa ∨ y.pa + 8 ≤ b → v.byteAt b = s.byteAt b) ∧
        (isHost y.pa = false → (tagRT (v.tagOf y.pa)).getLsbD (y.pa / 8 % 8) = true)
      ((∀ k, k < refLines root.toNat →
          isHost (x k).pa = true ∨ ((x k).cid = none ∨ tagP (s.tagOf (x k).pa) = true) ∧ tagV (s.tagOf (x k).pa) = false) →
        ∃ v, State.walkOn s.agent (l, tgt, root) 3 .start s = (.ended none, v) ∧ stored v) ∧
      (refLines root.toNat = 1 → isHost (x 0).pa = false → (x 0).cid.isSome = true → (x 0).cid = s.agent.cid →
        s.tagOf (x 0).pa &&& 0x09FF = 0 → (x 0).pa / 64 ≠ y.pa / 64 →
        ∃ v, State.walkOn s.agent (l, tgt, root) 3 .start s = (.ended none, v) ∧ stored v ∧
          v.tagOf (x 0).pa = s.tagOf (x 0).pa ||| 0x0100)) ∧
    (s.cgrid.cgen = true → xpubRangeBad (s.sreg d) (s.sreg a) = false →
      ∀ pa : Nat → Nat, (∀ i, i < (s.sreg a).toNat / 64 →
        ∃ y, s.access s.agent.fn s.agent.pasid (s.sreg d + BitVec.ofNat 64 (64 * i)) 1 true false = .ok y ∧ y.pa = pa i ∧
          isHost (pa i) = false ∧ s.poisoned (pa i) = false ∧
          s.escape s.agent y { kind := 1, n := 64, cached := false, write := true, tagged := false, noHost := false } = none) →
      (s.serveLines s.agent false s.cur.wpc.toNat (s.rangePAs s.agent 1 (lineVas (s.sreg d) (s.sreg a).toNat))).1 = true →
      ∃ v, exec (.xpub c sc d a) s = .next (finish c v) ∧ v.cur.aside = s.cur.aside ∧ v.groups = s.groups ∧
        (∀ b, v.byteAt b = s.byteAt b) ∧ (∀ i, i < (s.sreg a).toNat / 64 → tagCS (v.tagOf (pa i)) = 2) ∧
        ∀ b, (∀ i, i < (s.sreg a).toNat / 64 → b / 64 ≠ pa i / 64) → v.tagOf b = s.tagOf b)

/-! ## Engines -/

/-- R273-R277, R292-R296. The order of an `xnbmv`'s causes is the model's choice (log entry 169). -/
def Obligations.EngineWords : Prop :=
  ∀ (c : BitVec 1) (a : BitVec 6) (n : BitVec 9) (cnt : BitVec 5) (k : BitVec 4) (s : State), s.ready = true →
    let o := (s.sreg a).toNat
    let core := coreOf s.cur.gk
    let raw := BitVec.ofNat 512 (mreadN s.ct.tmem o 64)
    let failed : Nat → State := fun x => addFails (uniformFail s x) s
    let inRange : Prop := o % 64 = 0 ∧ o + 64 ≤ s.cgrid.tmsize
    let tileStream : Prop := s.cgrid.tsoff ≠ 0
    (∀ r ∈ [(Instr.xcpy c a, false, copyMalformed s.tmSize (s.cgrid.tsoff != 0) s.mezz.isSome raw),
            (Instr.xnbmv c a, true, nearMalformed s.tmSize raw)],
      let (i, near, malformed) := r
      (¬inRange → exec i s = .next (finish c (failed 0x100))) ∧
      (inRange → malformed = true → exec i s = .next (finish c (failed 0x101))) ∧
      (inRange → malformed = false → near = true → s.mezz ≠ none → exec i s = .next (finish c (failed 0x102))) ∧
      (inRange → malformed = false → (near = true → s.mezz = none) → s.engineFree core near = false →
        exec i s = .next (finish c (s.block .home))) ∧
      (inRange → malformed = false → (near = true → s.mezz = none) → s.engineFree core near = true →
        ∃ v, exec i s = .next (finish c v) ∧ { v with reqs := s.reqs, nextReq := s.nextReq } = s ∧ v.nextReq = s.nextReq + 1 ∧
          (∀ j, j ≠ s.nextReq → nget Req.reset v.reqs j = nget Req.reset s.reqs j) ∧
          let q := nget Req.reset v.reqs s.nextReq
          q.raw = raw ∧ q.nearBank = near ∧ q.core = core ∧ q.tk = s.cg.tk ∧ q.gk = s.cur.gk ∧ q.cid = s.ct.cid ∧
            q.closed = false ∧ q.fault = none ∧ q.bytes = 0 ∧ q.row = 0 ∧ q.off = 0 ∧ q.flags = 0)) ∧
    (∀ r ∈ [(Instr.xwait c n, WaitKind.xwait, (s.reqs.filter fun q => q.2.gk == s.cur.gk).length),
            (Instr.lwait c n, WaitKind.lwait,
              (s.grids.filter fun g => g.2.present && g.2.parent == some (s.ct.grid, s.ct.id)).length)],
      (r.2.2 ≤ n.toNat → exec r.1 s = .next (finish c s)) ∧
      (n.toNat < r.2.2 → exec r.1 s = .next (finish c (s.block r.2.1)))) ∧
    (let leads : Prop := s.leader s.cg.tk = some s.cur.gk
     (¬leads → exec (.launch c a) s = .next (finish c (failed 0x106))) ∧
     (leads → 10 ≤ s.cgrid.depth → exec (.launch c a) s = .next (finish c (failed 0x104))) ∧
     (leads → s.cgrid.depth < 10 →
       (s.cur.answer = some 0 → exec (.launch c a) s = .next (finish c s)) ∧
       (∀ x, x ≠ 0 → s.cur.answer = some x → exec (.launch c a) s = .next (finish c (failed x))) ∧
       (s.cur.answer = none → exec (.launch c a) s = .next (finish c (s.block .launch))))) ∧
    (¬tileStream → ∀ i ∈ [Instr.nbarArrive c cnt k, .nbarWait c a k, .tstart c a], exec i s = .next (finish c (failed 0x0CA))) ∧
    (tileStream →
      let t := s.tile core
      let b := s.nbar core k.toNat
      let reached : Prop := (b.gen - (s.sreg a).setWidth 16).toNat < 2 ^ 15
      (b.brk = true → exec (.nbarArrive c cnt k) s = .next (finish c (failed 0x0E7))) ∧
      (b.brk = false → b.cv = true → b.cnt ≠ cnt.toNat → exec (.nbarArrive c cnt k) s = .next (finish c (failed 0x0E6))) ∧
      (b.brk = false → (b.cv = true → b.cnt = cnt.toNat) →
        ∃ v, exec (.nbarArrive c cnt k) s = .next (finish c v) ∧ { v with tiles := s.tiles } = s ∧
          (∀ j, j ≠ core → v.tile j = s.tile j) ∧ { v.tile core with nb := t.nb } = t ∧
          (∀ j, j ≠ k.toNat → v.nbar core j = s.nbar core j) ∧
          v.nbar core k.toNat = if b.arr + 1 = cnt.toNat + 1 then { gen := b.gen + 1, arr := 0, cnt := cnt.toNat, cv := false, brk := false }
            else { gen := b.gen, arr := b.arr + 1, cnt := cnt.toNat, cv := true, brk := false }) ∧
      (s.cur.broken = true → exec (.nbarWait c a k) s = .next (finish c (failed 0x0E7))) ∧
      (s.cur.broken = false → reached → exec (.nbarWait c a k) s = .next (finish c s)) ∧
      (s.cur.broken = false → ¬reached → b.brk = true → exec (.nbarWait c a k) s = .next (finish c (failed 0x0E7))) ∧
      (s.cur.broken = false → ¬reached → b.brk = false → exec (.nbarWait c a k) s = .next (finish c (s.block .nbar))) ∧
      (t.startable = false → exec (.tstart c a) s = .next (finish c (failed 0x109))) ∧
      (t.startable = true → o % 16 ≠ 0 ∨ 0x400000 ≤ o → exec (.tstart c a) s = .next (finish c (failed 0x101))) ∧
      (t.startable = true → o % 16 = 0 → o < 0x400000 →
        ∃ v, exec (.tstart c a) s = .next (finish c v) ∧ { v with tiles := s.tiles } = s ∧ (∀ j, j ≠ core → v.tile j = s.tile j) ∧
          { v.tile core with pc := t.pc, run := t.run, loop := t.loop, nb := t.nb } = t ∧
          (v.tile core).pc = s.cgrid.hdr + s.sreg a ∧ (v.tile core).run = .fetching ∧ (v.tile core).loop = none ∧
          ∀ x ∈ (v.tile core).nb, x.2.brk = false))

/-- R43, R120, R283, R286, R288-R290, R340. -/
def Obligations.EngineEvents : Prop :=
  ∀ (n : Nat) (s : State),
    let q := nget Req.reset s.reqs n
    let ag := s.reqAgent n q
    let kind := rqKind q.raw
    let u := unitLen q.raw q.row q.off
    let dst := dstAddr q.raw q.row + q.off
    let stops : Instr → Nat → Dword → Prop := fun i c va =>
      ∃ v, exec i s = .next v ∧ { v.accessAside with reqs := s.reqs } = s.accessAside ∧ v.groups = s.groups ∧
        (∀ b, v.byteAt b = s.byteAt b) ∧ (nget Req.reset v.reqs n).closed = true ∧
        ∃ r, (nget Req.reset v.reqs n).fault = some r ∧ r.cause = c ∧ r.va = va
    let fullCopy : Prop := q.closed = false ∧ q.nearBank = false ∧ q.sent = false ∧ (kind < 3 ∨ kind = 5 ∨ kind = 6)
    let noPort : Prop := kind = 6 ∧ (q.down = true ∨ s.peerPort n (rqPdev q.raw) = none)
    (fullCopy → noPort → stops (.copyUnitDeliver n) 0x112 (BitVec.ofNat 64 dst)) ∧
    (fullCopy → ¬noPort →
      (∀ c va kd b s2, unitBytes ag q q.row q.off u s = .fault c va kd b s2 → stops (.copyUnitDeliver n) c va) ∧
      (∀ s2, unitBytes ag q q.row q.off u s = .wait s2 → exec (.copyUnitDeliver n) s = .next s2) ∧
      (∀ x fl s1, unitBytes ag q q.row q.off u s = .ok (x, fl) s1 →
        let next := q.advance u (dataBytes q.raw q.off u) fl
        (kind = 0 →
          (2 ≤ rqCty q.raw ∨ q.off ≠ 0 → writeScales ag q s1 = .ok () s1) ∧
          (rqCty q.raw < 2 → q.off = 0 →
            let k := rqExt q.raw / 32
            let scd := rqScd q.raw + q.row * k
            ∀ sc s3, engRead ag false (k / 64 + 2) (BitVec.ofNat 64 (rawField q.raw 0x18 8 + q.row * k)) k s1 = .ok sc s3 →
              ∃ s2, writeScales ag q s1 = .ok () s2 ∧ mreadN (s2.team q.tk).tmem scd k = sc % 256 ^ k ∧
                ∀ b, b < scd ∨ scd + k ≤ b → mread (s2.team q.tk).tmem b = mread (s.team q.tk).tmem b) ∧
          (∀ c va kd b s2, writeScales ag q s1 = .fault c va kd b s2 → stops (.copyUnitDeliver n) c va) ∧
          (∀ s2, writeScales ag q s1 = .ok () s2 →
            ∃ v, exec (.copyUnitDeliver n) s = .next v ∧ nget Req.reset v.reqs n = next ∧ (∀ b, v.byteAt b = s.byteAt b) ∧
              (∀ j, j ≠ q.tk → v.team j = s.team j) ∧ mreadN (v.team q.tk).tmem dst u = x % 256 ^ u ∧
              ∀ b, b < dst ∨ dst + u ≤ b → mread (v.team q.tk).tmem b = mread (s2.team q.tk).tmem b)) ∧
        (kind = 1 ∨ kind = 2 ∨ kind = 5 →
          (∀ c va kd b s2, s1.engLine ag (BitVec.ofNat 64 dst) u true false = .fault c va kd b s2 →
            stops (.copyUnitDeliver n) c va) ∧
          (∀ y s2, s1.engLine ag (BitVec.ofNat 64 dst) u true false = .ok y s2 →
            ∃ v, exec (.copyUnitDeliver n) s = .next v ∧ nget Req.reset v.reqs n = next ∧ v.teams = s.teams ∧
              v.pread y.pa u = x % 256 ^ u ∧ ∀ b, b < y.pa ∨ y.pa + u ≤ b → v.byteAt b = s.byteAt b)) ∧
        (kind = 6 →
          ∃ v, exec (.copyUnitDeliver n) s = .next v ∧ nget Req.reset v.reqs n = { q with sent := true, svc := Svc.reset } ∧
            v.peerOut = s.peerOut ++ [(n, dst, x)] ∧ v.teams = s.teams ∧ ∀ b, v.byteAt b = s.byteAt b))) ∧
    (q.sent = true → q.closed = false →
      (∃ v, exec (.peerLineAck n true) s = .next v ∧ nget Req.reset v.reqs n = ({ q with sent := false } : Req).advance u u 0 ∧
        ∀ x ∈ v.peerOut, x.1 ≠ n) ∧
      (∃ v, exec (.peerLineAck n false) s = .next v ∧ (nget Req.reset v.reqs n).closed = true ∧
        (∃ r, (nget Req.reset v.reqs n).fault = some r ∧ r.cause = 0x113) ∧ ∀ x ∈ v.peerOut, x.1 ≠ n)) ∧
    (q.closed = false → q.nearBank = false → kind = 3 → (nget [] (s.tile q.core).sq (rqSq q.raw)).length < 8 →
      (∀ c va kd b s2, streamBytes ag q 514 (512 * q.row) 512 s = .fault c va kd b s2 → stops (.metadataEntryPush n) c va) ∧
      ∀ x s1, streamBytes ag q 514 (512 * q.row) 512 s = .ok x s1 →
        ∃ v, exec (.metadataEntryPush n) s = .next v ∧ (∀ b, v.byteAt b = s.byteAt b) ∧
          nget [] (v.tile q.core).sq (rqSq q.raw) = nget [] (s.tile q.core).sq (rqSq q.raw) ++ [BitVec.ofNat 4096 x] ∧
          (nget Req.reset v.reqs n).row = q.row + 1 ∧ (nget Req.reset v.reqs n).bytes = q.bytes + 512) ∧
    (q.closed = false → q.nearBank = false → kind = 4 →
      ((s.tile q.core).table.any fun k => k.issued && taskReadsBook k (rqCb q.raw)) = false →
      (∀ c va kd b s2, srcBytes ag q 0 0 32 s = .fault c va kd b s2 → stops (.codebookWrite n) c va) ∧
      ∀ x s1, srcBytes ag q 0 0 32 s = .ok x s1 →
        ∃ v, exec (.codebookWrite n) s = .next v ∧ (∀ b, v.byteAt b = s.byteAt b) ∧
          nget 0 (v.tile q.core).cb (rqCb q.raw) = BitVec.ofNat 256 x ∧
          (∀ j, j ≠ rqCb q.raw → nget 0 (v.tile q.core).cb j = nget 0 (s.tile q.core).cb j) ∧
          nget Req.reset v.reqs n = { q with bytes := 32, closed := true, svc := Svc.reset }) ∧
    (q.closed = false → q.nearBank = true → q.checked = false →
      let stack := match s.access ag.fn ag.pasid (BitVec.ofNat 64 (rawField q.raw 8 8)) 4 false false with
        | .ok x => stackOf x.pa
        | .error _ => 0
      ∀ book s1, (nbFmt q.raw = 0 → engRead ag false 2 (BitVec.ofNat 64 (rawField q.raw 0x30 8)) 32 s = .ok book s1) →
        (nbFmt q.raw ≠ 0 → book = 0 ∧ s1 = s) →
        (nbLines ag stack s1 (nbVas q.raw) = none →
          ∃ v, exec (.nearBankTranslate n) s = .next v ∧ { v.accessAside with reqs := s.reqs } = s.accessAside ∧
            (∀ b, v.byteAt b = s.byteAt b) ∧
            let p := nget Req.reset v.reqs n
            p.checked = true ∧ p.closed = false ∧ p.book = BitVec.ofNat 256 book ∧
              p.a = mreadN (s.team q.tk).tmem (rawField q.raw 0x18 4) (nbABytes q.raw)) ∧
        (∀ c va kd s2, nbLines ag stack s1 (nbVas q.raw) = some (c, va, kd, s2) → stops (.nearBankTranslate n) c va)) ∧
    (q.closed = false → q.nearBank = true → q.checked = true →
      let rows := min (64 / nbOut q.raw) (nbRows q.raw - q.row)
      let len := rows * nbOut q.raw
      let at_ := rawField q.raw 0x20 8 + q.row * nbOut q.raw
      let goesOn : State → Prop := fun v =>
        (nget Req.reset v.reqs n).row = q.row + rows ∧ (nget Req.reset v.reqs n).bytes = q.bytes + len ∧
          ((nget Req.reset v.reqs n).closed = true ↔ nbRows q.raw ≤ q.row + rows)
      (∀ c va kd b s2, nbUnit ag q q.row rows s = .fault c va kd b s2 → stops (.nearBankRowDeliver n) c va) ∧
      ∀ x fl s1, nbUnit ag q q.row rows s = .ok (x, fl) s1 →
        (nbGlobal q.raw = false →
          ∃ v, exec (.nearBankRowDeliver n) s = .next v ∧ (∀ b, v.byteAt b = s.byteAt b) ∧
            mreadN (v.team q.tk).tmem at_ len = x % 256 ^ len ∧
            (∀ b, b < at_ ∨ at_ + len ≤ b → mread (v.team q.tk).tmem b = mread (s.team q.tk).tmem b) ∧ goesOn v) ∧
        (nbGlobal q.raw = true → ∀ y s2, s1.engLine ag (BitVec.ofNat 64 at_) len true false = .ok y s2 →
          ∃ v, exec (.nearBankRowDeliver n) s = .next v ∧ v.teams = s.teams ∧ v.pread y.pa len = x % 256 ^ len ∧
            (∀ b, b < y.pa ∨ y.pa + len ≤ b → v.byteAt b = s.byteAt b) ∧ goesOn v)) ∧
    (q.closed = true → (∃ x ∈ s.reqs, x.1 = n) →
      let va := BitVec.ofNat 64 q.aova
      (∀ pa s1, s.objectAt ag va = .ok pa s1 → pa % 16 = 0 →
        let flags := s.pread (pa + 10) 1 ||| q.flags.toNat
        let arrived := s.pread (pa + 4) 4
        let gen := s.pread (pa + 8) 2
        ∃ v, exec (.arrivalObjectUpdate n) s = .next v ∧ v.reqs = ndel s.reqs n ∧
          v.recs = s.recs ++ q.fault.toList ∧ v.pread (pa + 10) 1 = flags ∧ v.pread pa 4 = s.pread pa 4 ∧
          (q.fault = none → (v.pread (pa + 4) 4, v.pread (pa + 8) 2) = arriveOnce (s.pread pa 4) q.bytes (arrived, gen) ∧
            v.pread (pa + 11) 1 = s.pread (pa + 11) 1) ∧
          (q.fault ≠ none → v.pread (pa + 4) 4 = (arrived + q.bytes) % 2 ^ 32 ∧ v.pread (pa + 8) 2 = gen ∧ v.pread (pa + 11) 1 = 0x80) ∧
          ∀ b, b < pa + 4 ∨ pa + 12 ≤ b → v.byteAt b = s.byteAt b) ∧
      (∀ s1, s.objectAt ag va = .wait s1 → exec (.arrivalObjectUpdate n) s = .next s1) ∧
      (∀ s2, s.objectAt ag va = .bad s2 → ∃ v, exec (.arrivalObjectUpdate n) s = .next v ∧ v.reqs = ndel s.reqs n ∧
        (∀ b, v.byteAt b = s.byteAt b) ∧
        ∃ r, v.recs = s.recs ++ q.fault.toList ++ [r] ∧ r.cause = 0x111 ∧ r.va = va ∧ r.s2 = s2))

/-! ## The tile sequencer -/

namespace Sys2Proof.Machine

/-- A descriptor has no invalid or reserved value and no misaligned offset (R297, R298). -/
def slotFieldsOk (d : BitVec 256) : Prop :=
  slotType d < 6 ∧ slotField d 0x11 1 < 64 ∧ slotScope d < 5 ∧ slotRk d ≠ 3 ∧ slotRdy d / 4 % 4 = 0 ∧ slotRdy d / 2 ^ 61 = 0 ∧
    (slotRk d ≠ 1 → slotNb d = 0) ∧ (slotRk d ≠ 2 → slotRdy d / 2 ^ 8 % 2 ^ 53 = 0) ∧
    slotBase d % 16 = 0 ∧ slotPitch d % 16 = 0 ∧ slotScb d % 16 = 0 ∧ typeRowBits (slotType d) (slotCols d) ≤ 8 * slotPitch d

/-- Tile and scales of a descriptor lie in the declared team memory (R298). -/
def slotInRange (tm : Nat) (d : BitVec 256) : Prop :=
  8 * (slotBase d + slotRows d * slotPitch d) + typeRowBits (slotType d) (slotCols d) ≤ 8 * (tm + slotPitch d) ∧
    (slotType d = 0 ∨ slotType d = 1 ∨ slotType d = 5 → 32 * slotScb d + slotRows d * slotCols d ≤ 32 * tm)

/-- Both operands of a multiply are wide enough (R304, R305). -/
def wide (w : Nat) (x y : BitVec 256) : Prop := w ≤ slotCols x ∧ w ≤ slotCols y

/-- The task words: what enters the table, the slots named, and the conditions of R304-R308 on them and the pass index. -/
noncomputable def taskRows (s : State) (t : Tile) (n m : BitVec 5) (r c : BitVec 2) (i : BitVec 1) (k : BitVec 6) (q : BitVec 2) (k4 : BitVec 4)
    (b3 : BitVec 3) (o : BitVec 14) (bar : BitVec 4) : List (Instr × TileOp × List Nat × Prop) :=
  let x := nget 0 t.slots n.toNat
  let y := nget 0 t.slots m.toNat
  let pass := match t.loop with | some l => l.pass | none => 0
  let ks (k : Nat) : Nat := if i = 1 then k + pass else k
  let tile (types : List Nat) : Prop := slotType x ∈ types ∧ slotRows x = 64 ∧ slotCols x = 128
  [(.tmma n m r c i k, .tmma n m r c i k, [n.toNat, m.toNat], slotRows x = 64 ∧ slotRows y = 128 ∧
      (slotType x < 2 ∧ slotType y < 2 ∧ s.mezz = none ∧ wide (32 * (ks k.toNat + 1)) x y ∨
       slotType x = 2 ∧ slotType y = 2 ∧ wide (16 * (ks k.toNat + 1)) x y)),
   (.tmmas n m r c i q k4, .tmmas n m r c i q k4, [n.toNat, m.toNat], s.mezz = none ∧ slotType x = 5 ∧ slotRows x = 64 ∧
      slotType y < 2 ∧ slotRows y = 128 ∧ wide (64 * (ks k4.toNat + 1)) x y),
   (.tzero r c, .tzero r c, [], True), (.tscale n r c, .tscale n r c, [n.toNat], True),
   (.tcvt n r c, .tcvt n r c, [n.toNat], tile [2, 3] ∨ s.mezz = none ∧ tile [0, 4]),
   (.tacc n r c, .tacc n r c, [n.toNat], tile [2, 3]),
   (.tarriveBarrier bar n, .tarriveBarrier bar n, [], True),
   (.tarriveObject n, .tarriveObject n, [n.toNat], slotRk x = 2), (.tcbk b3 o, .tcbk b3 o, [], 32 * o.toNat + 32 ≤ s.seqTm)]

end Sys2Proof.Machine

/-- R297-R300, R303-R309. That `tloop` takes a word it cannot read as legal is the model's choice (log entry 172). -/
def Obligations.TileWords : Prop :=
  ∀ (n m : BitVec 5) (r c : BitVec 2) (i : BitVec 1) (k : BitVec 6) (q : BitVec 2) (k4 : BitVec 4) (b3 : BitVec 3) (o : BitVec 14)
    (bar : BitVec 4) (g : BitVec 16) (cnt : BitVec 9) (len : BitVec 8) (s : State),
    let core := s.cur.core
    let t := s.tile core
    let becomes : State → Tile → Prop := fun v x => { v with tiles := s.tiles } = s ∧ (∀ j, j ≠ core → v.tile j = s.tile j) ∧ v.tile core = x
    let stopped : Nat → Host.Outcome State Fault Refusal := fun x => .next (s.seqStop core x t.pc 0)
    let bound : List Nat → Prop := fun l => ∀ x ∈ l, t.bound.getLsbD x = true
    (∀ row ∈ taskRows s t n m r c i k q k4 b3 o bar,
      let (w, op, names, ok) := row
      (32 ≤ t.table.length → exec w s = .next s) ∧
      (t.table.length < 32 → ¬bound names → exec w s = stopped 0x0E2) ∧
      (t.table.length < 32 → bound names → ¬ok → exec w s = stopped (if w = .tcbk b3 o then 0x0E1 else 0x0E2)) ∧
      (t.table.length < 32 → bound names → ok →
        ∃ v x, exec w s = .next v ∧ becomes v { t.advance with table := t.table ++ [x], next := t.next + 1 } ∧
          x.num = t.next ∧ x.word = op ∧ x.pc = t.pc ∧ x.slots = names.map (fun y => nget 0 t.slots y) ∧
          x.ready = names.map (fun _ => false) ∧ x.pass = (match t.loop with | some l => l.pass | none => 0) ∧ x.issued = false)) ∧
    (let off := 32 * o.toNat
     let d := BitVec.ofNat 256 (mreadN (s.team t.tk).tmem off 32)
     (s.seqTm < off + 32 → exec (.tslot n o) s = stopped 0x0E1) ∧
     (off + 32 ≤ s.seqTm → ¬slotFieldsOk d → exec (.tslot n o) s = stopped 0x0E0) ∧
     (off + 32 ≤ s.seqTm → slotFieldsOk d → ¬slotInRange s.seqTm d → exec (.tslot n o) s = stopped 0x0E1) ∧
     (off + 32 ≤ s.seqTm → slotFieldsOk d → slotInRange s.seqTm d →
       ∃ v, exec (.tslot n o) s = .next v ∧
         becomes v { t.advance with slots := nput t.slots n.toNat d, bound := t.bound ||| (1#32 <<< n.toNat) })) ∧
    (let reached : Prop := ((s.nbar core bar.toNat).gen - g).toNat < 2 ^ 15
     (reached → ∃ v, exec (.twait bar g) s = .next v ∧ becomes v t.advance) ∧ (¬reached → exec (.twait bar g) s = .next s)) ∧
    (let at_ : Nat → Dword := fun j => t.pc + BitVec.ofNat 64 (4 * (j + 1))
     let legal : Prop := t.loop = none ∧ ∀ j, j < len.toNat + 1 → ∀ raw, s.codeWord (s.seqAgent core) (at_ j) = some raw →
       raw / 2 ^ 26 % 16 = 14 → raw / 2 ^ 21 % 32 ≠ 9 ∧ raw / 2 ^ 21 % 32 ≠ 10
     (legal → ∃ v, exec (.tloop cnt len) s = .next v ∧ becomes v { t with
       pc := t.pc + 4, loop := some { first := t.pc + 4, len := len.toNat + 1, count := cnt.toNat + 1, pass := 0 } }) ∧
     (¬legal → exec (.tloop cnt len) s = stopped 0x0E4)) ∧
    (∃ v, exec .tend s = .next v ∧ becomes v { t with run := .ended, loop := none }) ∧
    (t.loop = none → t.advance = { t with pc := t.pc + 4 }) ∧
    (∀ l, t.loop = some l →
      let last := l.first + BitVec.ofNat 64 (4 * (l.len - 1))
      (t.pc ≠ last → t.advance = { t with pc := t.pc + 4 }) ∧
      (t.pc = last → l.pass + 1 < l.count → t.advance = { t with pc := l.first, loop := some { l with pass := l.pass + 1 } }) ∧
      (t.pc = last → l.count ≤ l.pass + 1 → t.advance = { t with pc := t.pc + 4, loop := none }))

/-- R82, R84, R86, R301-R308, R310, R392. That a task reads its operands when it retires is the model's choice (log entry 37). -/
def Obligations.TileTasks : Prop :=
  ∀ (core n : Nat) (k : Task) (s : State), let t := s.tile core
    t.table.find? (fun x => x.num == n) = some k → (∀ x ∈ t.table, x.num = n → x = k) →
    let level := (nget Bank.reset s.seqBanks core).level
    let price := match k.word with
      | .tmma _ _ _ _ _ _ => 320 | .tmmas _ _ _ _ _ _ _ => 340 | .tzero _ _ => 8 | .tcbk _ _ => 8 | .tacc _ _ _ => 16
      | .tscale _ _ _ => 24 | .tcvt _ _ _ => 32 | .tarriveBarrier _ _ => 2 | .tarriveObject _ => 2
    let saved := (nget Bank.reset s.seqBanks core).saving
    let payable : Task → Prop := fun x => t.candidate x = true ∧ taskPrice x.word ≤ level ∧ ∀ y, saved = some y → y.unit = x.num
    let mayIssue : Prop := t.owned = true ∧ (nget Bank.reset s.seqBanks core).issuedAt ≠ some (s.clockOf core) ∧
      s.liveGroups t.tk ≠ [] ∧ (s.team t.tk).draining = none
    let ag := { s.seqAgent core with who := .sender (.task core n) }
    let picked : Prop := mayIssue ∧ payable k ∧ ∀ x ∈ t.table.takeWhile (fun x => x.num != n), ¬payable x
    let stops : Nat → Dword → Prop := fun c va =>
      ∃ v, exec (.tileTaskIssue core n) s = .next v ∧ (v.tile core).run = .stopped ∧ (∀ x ∈ (v.tile core).table, x.num ≠ n) ∧
        ∃ r ∈ v.recs, r.cause = c ∧ r.va = va ∧ r.pc = some k.pc
    (picked →
      (isArrive k = false →
        ∃ v, exec (.tileTaskIssue core n) s = .next v ∧ (nget Bank.reset v.seqBanks core).level = level - price ∧
          (v.tile core).acc = t.acc ∧ v.mem = s.mem ∧
          (∃ x ∈ (v.tile core).table, x.num = n ∧ x.issued = true ∧ x.word = k.word ∧ x.slots = k.slots ∧ x.pass = k.pass ∧
            x.books = k.slots.map (fun d => nget 0 t.cb (slotBook d)) ∧
            ∀ q, taskQueue k = some q → nget [] t.sq q = x.entry :: nget [] (v.tile core).sq q) ∧
          (v.tile core).table.length = t.table.length) ∧
      (∀ b c, k.word = .tarriveBarrier b c → ∀ y, (s.nbar core b.toNat).arrive (c.toNat + 1) = some y →
        ∃ v, exec (.tileTaskIssue core n) s = .next v ∧ (nget Bank.reset v.seqBanks core).level = level - price ∧
          v.nbar core b.toNat = y ∧ ∀ x ∈ (v.tile core).table, x.num ≠ n) ∧
      (∀ b c, k.word = .tarriveBarrier b c → (s.nbar core b.toNat).arrive (c.toNat + 1) = none → stops 0x0E6 0) ∧
      (∀ d, k.word = .tarriveObject d →
        (∀ s1, s.objectAt ag (slotAova (k.slot 0)) = .wait s1 → ∃ v, exec (.tileTaskIssue core n) s = .next v ∧
          { v with seqBanks := s1.seqBanks } = s1 ∧ (nget Bank.reset v.seqBanks core).level = level) ∧
        ∀ b, s.objectAt ag (slotAova (k.slot 0)) = .bad b → stops 0x0E5 (slotAova (k.slot 0))) ∧
      (∀ d pa s1, k.word = .tarriveObject d → s.objectAt ag (slotAova (k.slot 0)) = .ok pa s1 → pa % 16 = 0 →
        ∃ v, exec (.tileTaskIssue core n) s = .next v ∧ (v.tile core).flags = 0 ∧ (∀ x ∈ (v.tile core).table, x.num ≠ n) ∧
          v.pread (pa + 10) 1 = s.pread (pa + 10) 1 ||| t.flags.toNat ∧
          (v.pread (pa + 4) 4, v.pread (pa + 8) 2) = arriveOnce (s.pread pa 4) 1 (s.pread (pa + 4) 4, s.pread (pa + 8) 2))) ∧
    (¬picked → exec (.tileTaskIssue core n) s = .next s) ∧
    (k.issued = true → (∀ x ∈ t.table.takeWhile (fun x => x.num != n), conflicts x k = false) →
      let mem := (s.team t.tk).tmem
      let d := k.slot 0
      let old : BitVec 2 → BitVec 2 → Nat → Nat → Nat := fun r c i j =>
        (nget 0 t.acc ((64 * r.toNat + i) * 256 + (64 * c.toNat + j))).toNat
      let gives : BitVec 2 → BitVec 2 → (Nat → Nat → Nat → Nat) → State → Prop := fun r c f v =>
        (∀ i j, i < 64 → j < 128 → (nget 0 (v.tile core).acc ((64 * r.toNat + i) * 256 + (64 * c.toNat + j))).toNat =
          f i j (old r c i j) % 2 ^ 32) ∧
        (∀ a, (¬∃ i j, i < 64 ∧ j < 128 ∧ a = (64 * r.toNat + i) * 256 + (64 * c.toNat + j)) →
          nget 0 (v.tile core).acc a = nget 0 t.acc a) ∧ v.team t.tk = s.team t.tk
      ∃ v, exec (.tileTaskRetire core n) s = .next v ∧ (∀ x ∈ (v.tile core).table, x.num ≠ n) ∧ v.mem = s.mem ∧
        (∀ j, j ≠ core → v.tile j = s.tile j) ∧
        match k.word with
        | .tzero r c => gives r c (fun _ _ _ => 0) v
        | .tscale _ r c => gives r c (fun _ _ x => (scaleTo .f32 x (slotTsc d)).1) v
        | .tacc _ r c => gives r c (fun i j x => (accAdd x (slotElem mem d 0 i j)).1) v
        | .tmma _ _ r c u w => gives r c (fun i j x =>
            let p := densePairs mem d (k.slot 1) (k.books.getD 0 0) (k.books.getD 1 0) (ksOf w.toNat u.toNat k.pass) i j
            (accBlock x p.1 p.2.1 p.2.2).1) v
        | .tmmas _ _ r c u _ w => gives r c (fun i j x =>
            let ks := ksOf w.toNat u.toNat k.pass
            let p := fun b => sparsePairs mem d (k.slot 1) (k.books.getD 1 0) k.entry ks b i j
            let y := (accBlock x (p (2 * ks)).1 (p (2 * ks)).2.1 (p (2 * ks)).2.2).1
            (accBlock y (p (2 * ks + 1)).1 (p (2 * ks + 1)).2.1 (p (2 * ks + 1)).2.2).1) v
        | .tcvt _ r c => (v.tile core).acc = t.acc ∧
            let f := cvtFmt (slotType d)
            (16 * f.bits ≤ slotPitch d → ∀ i j, i < 64 → j < 128 →
              mreadN (v.team t.tk).tmem (slotBase d + i * slotPitch d + j * (f.bits / 8)) (f.bits / 8) =
                (scaleTo f (old r c i j) (slotTsc d)).1)
        | .tcbk b _ => nget 0 (v.tile core).cb b.toNat = k.data ∧ (v.tile core).acc = t.acc
        | _ => True) ∧
    (k.issued = false → exec (.tileTaskRetire core n) s = .next s)

/-! ## Waiting bundles and the issue stage -/

/-- The only stop of the machine. -/
def Obligations.StopsOnlyAtTheWindow : Prop :=
  (∀ (i : Instr) (s : State), (∃ u, exec i s = .next u) ∨
    (exec i s = .fault .deviceWindow ∧ ∃ f, i = .rv64gcInstruction f)) ∧
  ∀ s : State, (∃ u, step s = .next u) ∨ step s = .fault .deviceWindow

/-- R138, R145, R237, R261, R268, R274, R276, R294, R317, R392. -/
def Obligations.WaitEnds : Prop :=
  ∀ (gk idx : Nat) (e : Entry) (s : State), (s.group gk).frontier[idx]? = some e →
    let plain : Prop := e.mask ≠ 0 ∧ e.owner = false ∧ (s.group gk).landings = []
    let drains : Prop := (s.team (s.group gk).tk).draining ≠ none
    (∀ p w i, e.pend = some p → p.words = [i] → decodeGroup w = .ok i →
      ∀ r ∈ [(Instr.memoryAccessPerformed gk idx, [WaitKind.home, .acc]), (.awaitEnd gk idx, [.await]), (.xwaitEnd gk idx, [.xwait]),
             (.nbarWaitEnd gk idx, [.nbar]), (.lwaitEnd gk idx, [.lwait]), (.clockComplete gk idx, [.clock])],
        let held : Prop := drains ∧ r.1 ∈ [Instr.awaitEnd gk idx, .xwaitEnd gk idx, .nbarWaitEnd gk idx, .lwaitEnd gk idx]
        (p.kind ∈ r.2 → ¬held → ∃ u, exec r.1 s = .next u ∧ exec i (s.reopened gk idx e p) = .next u) ∧
        (p.kind ∉ r.2 ∨ held → exec r.1 s = .next s)) ∧
    (∀ p n k (a : BitVec 6), e.pend = some p → plain → ¬drains → p.replay = none → p.fails = [] →
      let t := s.team (s.group gk).tk
      let b := s.nbar (coreOf gk) k
      ∀ r ∈ [(Instr.xwaitEnd gk idx, WaitKind.xwait, Instr.xwait 0 n, s.groupReqs gk ≤ n.toNat),
             (.lwaitEnd gk idx, .lwait, .lwait 0 n, s.childCount t.grid t.id ≤ n.toNat),
             (.nbarWaitEnd gk idx, .nbar, .nbarWait 0 a (BitVec.ofNat 4 k), k < 16 ∧ (s.grid t.grid).tsoff ≠ 0 ∧ p.broken = false ∧
               (b.gen - (nget 0 p.src.s a.toNat).setWidth 16).toNat < 2 ^ 15)],
        p.kind = r.2.1 → p.words = [r.2.2.1] → r.2.2.2 →
          ∃ u, exec r.1 s = .next u ∧ (u.group gk).regs = (s.group gk).regs ∧ u.elsewhere = s.elsewhere ∧
            ∀ l, e.mask.getLsbD l = true → LaneAt u gk l p.npc) ∧
    (∀ p d k, e.pend = some p → plain → p.replay = none → p.kind = .clock → p.words = [.clock d k] →
      (∀ f ∈ (s.group gk).inFlight, f.mask &&& e.mask = 0) →
        ∃ u, exec (.clockComplete gk idx) s = .next u ∧ (∀ l, e.mask.getLsbD l = true → LaneAt u gk l p.npc) ∧
          nget 0 (u.group gk).regs.s d.toNat =
            if k = 1 then BitVec.ofNat 64 s.time else (nget Cluster.reset s.clusters (gk / 64 / 8)).clock) ∧
    (∀ p w ws, e.pend = some p → p.kind = .pub → p.walks = w :: ws →
      let cid := (s.team (s.group gk).tk).cid
      (cid ≠ none → (∃ k g f p', (k, g) ∈ s.groups ∧ (s.team g.tk).cid = cid ∧ f ∈ g.frontier ∧ f.pend = some p' ∧
          p'.kind = .pub ∧ p'.walks ≠ [] ∧ p'.turn < p.turn) → exec (.walk gk idx) s = .next s) ∧
      (s.walkTurn gk p = false → exec (.walk gk idx) s = .next s) ∧
      (s.walkTurn gk p = true → ∀ g s1,
        State.walkOn { s.groupAgent gk with who := .port } w (if Config.walkWhole s.epoch = true then 3 else 1) p.stage
          (s.mapCur fun c => { c with svc := p.svc }) = (g, s1) →
        ((∀ f, g ≠ .ended f) → ∃ u, exec (.walk gk idx) s = .next u ∧ (∀ b, u.byteAt b = s1.byteAt b) ∧ u.tags = s1.tags ∧
          (u.group gk).frontier = (s1.group gk).frontier.set idx { e with pend := some { p with stage := g, svc := s1.cur.svc } }) ∧
        (∀ f, g = .ended f → ws ≠ [] → ∃ u, exec (.walk gk idx) s = .next u ∧ (∀ b, u.byteAt b = s1.byteAt b) ∧
          (u.group gk).frontier = (s1.group gk).frontier.set idx { e with pend := some { p with
            walks := ws, fails := p.fails ++ f.toList, stage := .start, svc := Svc.reset } }) ∧
        (g = .ended none → ws = [] → plain → p.replay = none → p.fails = [] →
          ∀ sc d a, p.words = [.pub 0 sc d a] →
            ∃ u, exec (.walk gk idx) s = .next u ∧ (∀ b, u.byteAt b = s1.byteAt b) ∧ u.tags = s1.tags ∧
              ∀ l, e.mask.getLsbD l = true → LaneAt u gk l p.npc))) ∧
    (e.held = false → e.pend = none → e.barWait = false → e.sleep = 0 →
      (s.fetchAt (s.fetcher gk e.pc) e.pc = .wait →
        ∃ u, exec (.instructionFetch gk idx) s = .next u ∧ u.groups = s.groups ∧ u.teams = s.teams ∧ (∀ b, u.byteAt b = s.byteAt b) ∧
          u.recs = s.recs ∧ ∃ h ∈ u.held, h.1 = .group gk e.pc.toNat) ∧
      (∀ ws, s.fetchAt (s.fetcher gk e.pc) e.pc = .words ws →
        ∃ u, exec (.instructionFetch gk idx) s = .next u ∧ u.groups = s.groups ∧ u.teams = s.teams ∧ (∀ b, u.byteAt b = s.byteAt b) ∧
          u.recs = s.recs ∧
          ∀ x, s.access (s.fetcher gk e.pc).fn (s.fetcher gk e.pc).pasid e.pc 3 false false = .ok x →
            ∃ l ∈ (u.cache (coreOf gk)).ic, l.1 = x.pa / 64) ∧
      (∀ c s2, e.mask ≠ 0 → s.fetchAt (s.fetcher gk e.pc) e.pc = .fault c s2 →
        ∃ u r, exec (.instructionFetch gk idx) s = .next u ∧ u.recs = s.recs ++ [r] ∧ r.cause = c ∧ r.lanes = e.mask ∧
          r.pc = some e.pc ∧ r.va = e.pc ∧ r.park = parkable c ∧ (u.group gk).regs = (s.group gk).regs)) ∧
    (∀ n, ∃ u, exec (.loadDataReturn gk n) s = .next u ∧ u.elsewhere = s.elsewhere ∧ (∀ k, k ≠ gk → u.group k = s.group k) ∧
      u.group gk = { s.group gk with inFlight := (s.group gk).inFlight.eraseIdx n })

namespace Sys2Proof.Machine

/-- One register field of a word cannot be used, for a reason of check 3 (R20, R21, R179, R187). -/
def misused (g : Grid) (u : RegUse) (reason : Nat) : Prop :=
  let landings := if g.ld = 0 then 0 else if g.ld ≤ 32 then 1 else 2
  let landing : Prop := u.code = 55 ∧ 1 ≤ landings ∨ u.code = 53 ∧ landings = 2
  u.vec = false ∧ reason = 1 ∧ g.ns ≤ u.code ∨
  u.vec = true ∧
    (reason = 0 ∧ u.code < 54 ∧ ¬landing ∧ g.nv < u.code + (if landings = 2 then 4 else 3) ∨ reason = 2 ∧ landing ∨
     reason = 3 ∧ 0x38 ≤ u.code ∧ u.code < 0x3E ∧ u.write = true ∨ reason = 4 ∧ u.code = 0x3F ∧ u.write = true)

/-- The pair rule of `amocas` (R182). -/
def badPair (g : Grid) (w : Word) : Prop :=
  let d := (fld w 10 6).toNat
  majorOf w = 12 ∧ fld w 21 5 = 7 ∧ (d % 2 = 1 ∨ 55 ≤ d ∨ misused g ⟨true, d + 1, false, true⟩ 0)

/-- A word at position `pos` of its packet breaks a packet rule, by its reason (R65, R176, R187). -/
def packetRule (bundle before : List Word) (pos : Nat) (w : Word) (reason : Nat) : Prop :=
  reason = 0 ∧ pos = 3 ∧ w.getLsbD 31 = true ∨
  reason = 1 ∧ pipeOf w ≠ none ∧ (∃ v ∈ before, pipeOf v = pipeOf w) ∨
  reason = 2 ∧ w.getLsbD 31 = true ∧ (majorOf w = 11 ∨ majorOf w = 15 ∧ fld w 21 5 ≠ 0) ∨
  reason = 3 ∧ majorOf w ∈ [9, 10, 12, 13] ∧ ∃ v ∈ bundle, namesLatch v = true

end Sys2Proof.Machine

/-- R20, R47, R65, R68, R85, R176, R182, R185-R187, R275. That packet rules are tested by reason number is the model's choice (log
entry 42). -/
def Obligations.IssueStage : Prop :=
  (∀ (g : Grid) (mezz : Bool) (bundle before : List Word) (pos : Nat) (w : Word),
    let bad := wordBad g mezz bundle before pos w
    let m := majorOf w
    let passes : Prop := (∀ u ∈ regUses w, ∀ n, ¬misused g u n) ∧ ¬badPair g w
    let packet : Prop := (∀ n, packetRule bundle before pos w n → (∀ k, k < n → ¬packetRule bundle before pos w k) →
        bad = some (0x030 + m, n)) ∧ ((∀ n, ¬packetRule bundle before pos w n) → bad = none)
    (isNop w = true → packet) ∧
    (isNop w = false →
      (∀ e, decodeGroup w = .error e →
        bad = some (match e with | .wrongStream => 0x008 | .unassigned k => k | .reservedField k => 0x010 + k, 0)) ∧
      (∀ i, decodeGroup w = .ok i →
        (mezz = true → mezzBarred w = true → bad = some (0x010 + m, 0)) ∧
        (mezz = false ∨ mezzBarred w = false →
          (∀ p u r n, regUses w = p ++ u :: r → (∀ x ∈ p, ∀ k, ¬misused g x k) → (p ≠ [] → ¬badPair g w) → misused g u n →
            bad = some (0x020 + m, n)) ∧
          (∀ u r, regUses w = u :: r → (∀ k, ¬misused g u k) → badPair g w → bad = some (0x020 + m, 5)) ∧
          (passes → packet))))) ∧
  (∀ (g : Grid) (mezz : Bool) (bundle before p r : List Word) (w : Word) (pos : Nat) (b : Bad),
    (∀ i x, p[i]? = some x → wordBad g mezz bundle (before ++ p.take i) (pos + i) x = none) →
    (wordBad g mezz bundle (before ++ p) (pos + p.length) w = some b → bundleBad g mezz bundle before (p ++ w :: r) pos = some b) ∧
    bundleBad g mezz bundle before p pos = none) ∧
  (∀ (gk qk idx : Nat) (e : Entry) (ws : List Word) (c r : Nat) (s : State), (s.group gk).frontier[idx]? = some e → e.mask ≠ 0 →
    e.held = false → e.barWait = false → e.sleep = 0 → e.pend = none → (∀ f ∈ (s.group gk).frontier, f.owner = false) →
    s.fetchAt (s.fetcher gk e.pc) e.pc = .words ws → c < 0x040 →
    let words := bundleWords (s.group gk) e ws
    bundleBad (s.grid (s.team (s.group gk).tk).grid) s.mezz.isSome words [] words (e.pc.toNat / 4 % 4) = some (c, r) →
    ∃ fs, s.verdict gk e = .bad fs ∧ Candidate.price (idx, e, s.verdict gk e) = 0 ∧
      ∃ u x, s.perform qk (.bad gk idx e fs) = .next u ∧ u.recs = s.recs ++ [x] ∧ x.cause = c ∧ x.sz = r ∧ x.lanes = e.mask ∧
        x.pc = some e.pc ∧ x.park = false ∧ (u.group gk).regs = (s.group gk).regs ∧ (∀ b, u.byteAt b = s.byteAt b) ∧
        ∀ l, e.mask.getLsbD l = true → LaneGone u gk l) ∧
  (∀ a b : Entry, ahead a b = true ↔ match a.promoted, b.promoted with
    | some x, some y => x < y
    | some _, none => True
    | none, some _ => False
    | none, none => b.prio.toNat < a.prio.toNat ∨ a.prio = b.prio ∧ a.pc.toNat < b.pc.toNat) ∧
  (∀ (gk idx : Nat) (e : Entry) (s : State), (s.group gk).frontier[idx]? = some e →
    ∃ u, exec (.fairnessPromotion gk idx) s = .next u ∧ u.elsewhere = s.elsewhere ∧ (u.group gk).regs = (s.group gk).regs ∧
      (u.group gk).frontier[idx]? = some (if 2048 ≤ e.count ∧ e.promoted = none then
        { e with promoted := some (s.quad (gk / 16)).cycle } else e) ∧
      ∀ j, j ≠ idx → (u.group gk).frontier[j]? = (s.group gk).frontier[j]?) ∧
  (∀ (core quad : Nat) (s : State),
    let qk := core * 4 + quad
    let b := (s.quad qk).bank
    ((s.quad qk).hold ≠ none → exec (.savingEntry core quad) s = .next s) ∧
    ((s.quad qk).hold = none →
      (∀ gk i e vd rest vs, s.readyViews qk = (gk, (i, e, vd) :: rest) :: vs → b.starve = 256 → b.saving = none →
        ∃ u, exec (.savingEntry core quad) s = .next u ∧ { u with quads := s.quads } = s ∧
          (u.quad qk).bank.saving = some { price := (match vd with | .ok bd => bd.price | _ => 0), unit := gk, admission := (s.group gk).admission, pc := e.pc, mask := e.mask } ∧ (u.quad qk).bank.savepi = b.savepi + 1 ∧
          (u.quad qk).bank.level = b.level) ∧
      (b.starve ≠ 256 → ∃ u, exec (.savingEntry core quad) s = .next u ∧ u.quad qk = s.quad qk ∧ { u with quads := s.quads } = s))) ∧
  (∀ (core : Nat) (k : Task) (s : State),
    let b := nget Bank.reset s.seqBanks core
    (s.tile core).table.find? (s.tile core).candidate = some k →
      ∃ u, exec (.sequencerSavingEntry core) s = .next u ∧ { u with seqBanks := s.seqBanks } = s ∧
        nget Bank.reset u.seqBanks core =
          (if b.starve = 256 ∧ b.saving = none then { b with saving := some { price := taskPrice k.word, unit := k.num, admission := 0, pc := k.pc, mask := 0 } } else b)) ∧
  (∀ (gk idx : Nat) (e : Entry) (p : Pend) (a : BitVec 6) (s : State), (s.group gk).frontier[idx]? = some e → e.pend = some p →
    p.kind = .launch → p.words = [.launch 0 a] →
    let t := s.team (s.group gk).tk
    let g := s.grid t.grid
    let asked := s.accept (ioAgent g.fn g.pasid g.tenant g.queue (.launch gk e.pc.toNat)) (nget 0 p.src.s a.toNat)
    (255 ≤ s.childCount t.grid t.id → exec (.launchDecided gk idx) s = .next s) ∧
    (s.childCount t.grid t.id < 255 →
      (asked.1 = .wait → exec (.launchDecided gk idx) s = .next asked.2) ∧
      (∀ c v, asked.1 = .refused c v → ∃ u, exec (.launchDecided gk idx) s = .next u ∧
        exec (.launch 0 a) (asked.2.reopened gk idx e { p with answer := some c }) = .next u) ∧
      (∀ child, asked.1 = .ok child → ∃ u s1, exec (.launchDecided gk idx) s = .next u ∧
        s1 = (asked.2.addGrid { child with depth := g.depth + 1, queue := g.queue, tenant := g.tenant, fn := g.fn, pasid := g.pasid,
                                           parent := some (t.grid, t.id) }).2 ∧
        exec (.launch 0 a) (s1.reopened gk idx e { p with answer := some 0 }) = .next u)))

/-! ## Policy engines and firmware cores -/

/-- R356, R357, R361. -/
def Obligations.PolicyWords : Prop :=
  (∀ (d a b : BitVec 4) (n : BitVec 18) (o : BitVec 17) (f l c : BitVec 8) (x : Decision) (s : State),
    let k := s.cur.unit
    let A := x.reg a
    let B := x.reg b
    let only (y : Decision) (u : State) : Prop :=
      { u with engines := s.engines } = s ∧ u.engine k = { s.engine k with run := some y } ∧ ∀ j, j ≠ k → u.engine j = s.engine j
    let at256 : Nat := (A.toNat + o.toNat) % 256 / 8 * 8
    let at1024 : Nat := windowBase k x + (A.toNat + o.toNat) % 1024 / 8 * 8
    let z : State := { s with free := s.free + 1 }
    (s.engine k).run = some x →
      (∀ r ∈ ([(.muovoLi d n, 1, n.signExtend 64), (.muovoMov d a, 1, A), (.muovoAdd d a b, 1, A + B), (.muovoSub d a b, 1, A - B),
               (.muovoMul d a b, 3, A * B), (.muovoAnd d a b, 1, A &&& B), (.muovoOr d a b, 1, A ||| B), (.muovoXor d a b, 1, A ^^^ B),
               (.muovoShl d a b, 1, A <<< (B.toNat % 64)), (.muovoShr d a b, 1, A >>> (B.toNat % 64)),
               (.muovoMin d a b, 1, BitVec.ofNat 64 (min A.toNat B.toNat)), (.muovoMax d a b, 1, BitVec.ofNat 64 (max A.toNat B.toNat)),
               (.muovoSlt d a b, 1, if A.toNat < B.toNat then 1 else 0), (.muovoSle d a b, 1, if A.toNat ≤ B.toNat then 1 else 0),
               (.muovoSeq d a b, 1, if A = B then 1 else 0), (.muovoSel d a b, 1, if x.reg d = 0 then B else A),
               (.muovoAddi d a n, 1, A + n.signExtend 64),
               (.muovoLda d a 0 o, 2, BitVec.ofNat 64 (mreadN x.scratch at256 8)),
               (.muovoLdp d a f, if f.toNat < 16 then 2 else if A.toNat < x.cands.length then 6 else 1,
                 BitVec.ofNat 64 (x.field k a f.toNat))] : List (Instr × Nat × Dword)),
        x.used + r.2.1 ≤ x.routine.allow → ∃ (u : State) (y : Decision), exec r.1 s = .next u ∧ only (y.next (x.pc + 1)) u ∧ y.reg d = r.2.2 ∧
          (∀ i, i ≠ d → y.reg i = x.reg i) ∧ { y with w := x.w, used := x.used } = x ∧ y.used = x.used + r.2.1) ∧
      (x.used + 6 ≤ x.routine.allow → ∃ (u : State) (y : Decision), exec (.muovoLdc d n) s = .next u ∧
        { u with engines := s.engines } = z ∧ u.engine k = { s.engine k with run := some (y.next (x.pc + 1)) } ∧ y.used = x.used + 6 ∧
        y.reg d = z.counter k x n.toNat ∧ (∀ i, i ≠ d → y.reg i = x.reg i) ∧ { y with w := x.w, used := x.used } = x) ∧
      (x.used + 1 ≤ x.routine.allow →
        (∃ u, exec .muovoNop s = .next u ∧ only ({ x with used := x.used + 1 }.next (x.pc + 1)) u) ∧
        (∃ (u : State) (y : Decision), exec (.muovoStdec a n) s = .next u ∧ only (y.next (x.pc + 1)) u ∧
          { y with regs := x.regs, used := x.used } = x ∧ y.used = x.used + 1 ∧
          ∀ i, nget 0 y.regs i = if i = n.toNat ∧ i < 6 then A.toNat % 2 ^ [7, 20, 14, 8, 4, 3].getD i 0 else nget 0 x.regs i) ∧
        (∃ (u : State) (y : Decision), exec (.muovoLoop l c) s = .next u ∧ only y u ∧
          if c = 0 then y = { x with used := x.used + 1 }.next (x.pc + l.toNat + 2)
          else { y with pc := x.pc, used := x.used, loops := x.loops } = x ∧ y.pc = x.pc + 1 ∧ y.used = x.used + 1 ∧
            y.loops = { first := x.pc + 1, len := l.toNat + 1, left := c.toNat } :: x.loops) ∧
        (∃ (u : State) (y : Decision), exec .muovoRet s = .next u ∧ only y u ∧ y.pc = x.routine.words.length ∧ y.regs = x.regs) ∧
        (∀ r ∈ ([(.muovoBf a n, !(A == 0)), (.muovoBt a n, A == 0)] : List (Instr × Bool)), r.2 = true →
          ∃ u, exec r.1 s = .next u ∧ only ({ x with used := x.used + 1 }.next (x.pc + 1)) u)) ∧
      (x.used + 2 ≤ x.routine.allow →
        (∀ r ∈ ([(.muovoBf a n, A == 0), (.muovoBt a n, !(A == 0)), (.muovoJf n, true)] : List (Instr × Bool)), r.2 = true →
          ∃ u, exec r.1 s = .next u ∧ only ({ x with used := x.used + 2 }.jump (x.pc + 1 + n.toNat)) u) ∧
        (∃ (u : State) (y : Decision), exec (.muovoSta d a 0 o) s = .next u ∧ only (y.next (x.pc + 1)) u ∧
          { y with scratch := x.scratch, used := x.used } = x ∧ y.used = x.used + 2 ∧
          y.scratch = mwriteN x.scratch at256 8 (x.reg d).toNat)) ∧
      (x.used + 40 ≤ x.routine.allow → ∃ cost, 4 ≤ cost ∧ cost ≤ 40 ∧
        (∃ (u : State) (y : Decision), exec (.muovoLda d a 1 o) s = .next u ∧ { u with engines := s.engines } = z ∧
          u.engine k = { s.engine k with run := some (y.next (x.pc + 1)) } ∧ y.used = x.used + cost ∧
          y.reg d = BitVec.ofNat 64 (mreadN s.atrium at1024 8) ∧ (∀ i, i ≠ d → y.reg i = x.reg i) ∧
          { y with w := x.w, used := x.used } = x) ∧
        (∃ u, exec (.muovoSta d a 1 o) s = .next u ∧ u.atrium = mwriteN s.atrium at1024 8 (x.reg d).toNat ∧
          { u with engines := s.engines, atrium := s.atrium, harts := s.harts } = z ∧
          u.engine k = { s.engine k with run := some ({ x with used := x.used + cost }.next (x.pc + 1)) })) ∧
      (∀ r ∈ ([(.muovoMul d a b, 3), (.muovoLdc d n, 6), (.muovoAdd d a b, 1), (.muovoStdec a n, 1), (.muovoJf n, 2), (.muovoRet, 1)]
              : List (Instr × Nat)), x.routine.allow < x.used + r.2 →
        ∃ (u : State) (y : Decision), exec r.1 s = .next u ∧ (u.engine k).run = some y ∧ y.pc = x.routine.words.length ∧
          y.regs = s.presets k x.raised x.cands ∧ u.atrium = s.atrium ∧
          (x.routine.retired = false → y.routine.retired = true ∧ (∀ z ∈ u.slots, z.2.num = x.routine.num → z.2.retired = true) ∧
            ∃ ring rc, nget [] u.ringWait ring = nget [] s.ringWait ring ++ [rc] ∧
              rc.status = 9 ∧ rc.cause = 0x8148 ∧ rc.type = 5 ∧ rc.detail = x.pc % 65536 + k * 65536 + x.raised.point.dp * 16777216 ∧
              rc.seq = x.routine.seq ∧ rc.aqi = x.routine.aqi) ∧
          (x.routine.retired = true → u.slots = s.slots ∧ u.ringWait = s.ringWait))) ∧
  (∀ (n : Nat) (x : Decision),
    (x.loops = [] → x.next n = { x with pc := n }) ∧
    (∀ l r, x.loops = l :: r → n ≠ l.first + l.len → x.next n = { x with pc := n }) ∧
    (∀ l r, x.loops = l :: r → n = l.first + l.len → 1 < l.left →
      x.next n = { x with pc := l.first, used := x.used + 1, loops := { l with left := l.left - 1 } :: r }) ∧
    (∀ l r, x.loops = l :: r → n = l.first + l.len → l.left ≤ 1 → x.next n = { x with loops := r }.next n) ∧
    (∀ l r, x.loops = l :: r → l.first ≤ n → n < l.first + l.len → x.jump n = { x with pc := n }) ∧
    (∀ l r, x.loops = l :: r → l.first + l.len ≤ n → x.jump n = { x with loops := r }.jump n) ∧
    (∀ k a f, x.field k a 0 = x.cands.length ∧ x.field k a 1 = x.arg ∧ x.field k a 2 = nget 0 x.routine.calls k ∧ x.field k a 3 = k ∧
      (16 ≤ f → x.field k a f = match x.cands[(x.reg a).toNat]? with
        | some c => c.fields.getD (f - 16) (2 ^ 64 - 1)
        | none => 2 ^ 64 - 1)))


/-- R395-R400. -/
def Obligations.FirmwareWords : Prop :=
  (∀ (d a b : BitVec 5) (s : State),
    let k := s.cur.unit
    let h := s.hart k
    let A := (h.reg a.toNat).toNat
    let B := (h.reg b.toNat).toNat
    let done (z : State) (v : Dword) (o : Out) : Prop := ∃ u, o = .next u ∧ { u with harts := z.harts, free := z.free } = z ∧
      (∀ j, j ≠ k → u.hart j = z.hart j) ∧ (u.hart k).pc = h.pc + 4 ∧
      ∀ i, (u.hart k).reg i = if i = d.toNat ∧ i ≠ 0 then v else h.reg i
    let failed (z : State) (i r : Nat) (o : Out) : Prop := ∃ u, o = .next u ∧ { u with harts := s.harts } = z ∧
      (∀ j, j ≠ k → u.hart j = s.hart j) ∧ (u.hart k).x = h.x ∧ (u.hart k).user = false ∧
      (u.hart k).pc = BitVec.ofNat 64 ((h.getCsr 0x305).toNat / 4 * 4) ∧ (u.hart k).getCsr 0x342 = BitVec.ofNat 64 (24 + i) ∧
      (u.hart k).getCsr 0x343 = BitVec.ofNat 64 (0x160 + 8 * i + r) ∧ (u.hart k).getCsr 0x341 = h.pc &&& ~~~1#64
    (let o := exec (.xhallBfx b a d) s
     let pos := B % 64
     let len := B / 64 % 128
     if B / 8192 ≠ 0 then failed s 1 2 o
     else if 64 < len then failed s 1 0 o
     else if 64 < pos + len then failed s 1 1 o
     else done s (BitVec.ofNat 64 (A / 2 ^ pos % 2 ^ len)) o) ∧
    (let o := exec (.rfetch b a d) s
     if 3 < A then failed s 0 0 o
     else if B % 64 ≠ 0 then failed s 0 1 o
     else if ¬(0x10000000 ≤ B ∧ B < 0x10140000) ∨ (B < 0x10100000 ∧ B % 0x40000 < 0x30000) then failed s 0 2 o
     else match nget [] s.hwRings A with
      | [] => done s 0 o
      | (x, bad) :: rest =>
        let s1 : State := { s with hwRings := nput s.hwRings A rest }
        (bad = true → failed s1 0 3 o) ∧
        (bad = false → h.pmpOk h.dataUser B 64 1 = true → ∃ z, done z (BitVec.ofNat 64 (rest.length + 1)) o ∧
          z.atrium = mwriteN s.atrium (B - 0x10000000) 64 x.toNat ∧ { z with atrium := s.atrium, harts := s.harts } = s1)) ∧
    (let o := exec (.swait b a d) s
     let off := A - 0x10000000
     let v := BitVec.ofNat 64 (mreadN s.atrium off 8)
     if A % 8 ≠ 0 then failed s 2 0 o
     else if ¬(0x10000000 ≤ A ∧ A < 0x10140000) then failed s 2 1 o
     else h.pmpOk h.dataUser A 8 0 = true →
      if off / 8 ∈ s.atriumBad then failed s 2 2 o
      else if v ≠ h.reg b.toNat then done s v o
      else if h.getCsr 0x344 &&& h.getCsr 0x304 ≠ 0 then done s (h.reg b.toNat) o
      else o = .next s) ∧
    (let o := exec (.disp a d) s
     let cmd : Option Nat := if 0x08000000 ≤ A ∧ A < 0x08200000 then some (mreadN s.sram (A - 0x08000000) 64)
       else if 0x10000000 ≤ A ∧ A < 0x10140000 then some (mreadN s.atrium (A - 0x10000000) 64) else none
     (A % 64 ≠ 0 ∨ cmd = none → failed s 3 0 o) ∧
     (∀ c, A % 64 = 0 → cmd = some c → h.pmpOk h.dataUser A 64 0 = true →
       let grid := BitVec.ofNat 32 (c / 2 ^ 32)
       let act := if c % 2 ^ 32 = 1 then s.abortTeam grid (c / 2 ^ 64 % 2 ^ 32) else s.abortGrid grid
       if (c % 2 ^ 32 ≠ 1 ∧ c % 2 ^ 32 ≠ 2) ∨ c / 2 ^ 96 ≠ 0 then failed s 3 1 o
       else match act with
        | none => done s 1 o
        | some z => z.hart k = h → z.cur.unit = k → done z 0 o))) ∧
  (∀ (f : Nat) (s : State), f < 4 → (s.hart f).held = false →
    let h := s.hart f
    let o := exec (.rv64gcInstruction f) s
    let trapped (irq : Bool) (cause : Nat) (tval : Dword) : Prop := ∃ u, o = .next u ∧ { u with harts := s.harts } = s ∧
      (∀ j, j ≠ f → u.hart j = s.hart j) ∧ (u.hart f).x = h.x ∧ (u.hart f).user = false ∧
      (u.hart f).getCsr 0x342 = BitVec.ofNat 64 (cause + if irq then 2 ^ 63 else 0) ∧ (u.hart f).getCsr 0x343 = tval ∧
      (u.hart f).getCsr 0x341 = h.pc &&& ~~~1#64 ∧ (u.hart f).status 3 1 = 0 ∧ (u.hart f).status 7 1 = h.status 3 1 ∧
      (u.hart f).status 11 2 = if h.user then 0 else 3
    (∀ i, h.nextIrq = some i → trapped true i 0) ∧
    (h.nextIrq = none →
      (∀ cause tval, s.rvFetch f h = .trap cause tval → trapped false cause tval) ∧
      (∀ s1, s.rvFetch f h = .wait s1 → o = .next s1) ∧
      (s.rvFetch f h = .ok 0 2 → trapped false 2 0) ∧
      (∀ (rd rs1 rs2 : BitVec 5) (imm : BitVec 12) (hi : BitVec 20) (w : Word),
        s.rvFetch f h = .ok w.toNat 4 →
        let A := h.reg rs1.toNat
        let does (v : Option Dword) (pc : Dword) : Prop := ∃ u, o = .next u ∧ { u with harts := s.harts, free := s.free } = s ∧
          (∀ j, j ≠ f → u.hart j = s.hart j) ∧ (u.hart f).pc = pc ∧ (u.hart f).user = h.user ∧ (u.hart f).f = h.f ∧
          ∀ i, (u.hart f).reg i = match v with | some x => if i = rd.toNat ∧ i ≠ 0 then x else h.reg i | none => h.reg i
        (w = imm ++ rs1 ++ (0#3 ++ rd ++ 0x13#7 : BitVec 15) → does (some (A + imm.signExtend 64)) (h.pc + 4)) ∧
        (w = 0#7 ++ rs2 ++ rs1 ++ (0#3 ++ rd ++ 0x33#7 : BitVec 15) → does (some (A + h.reg rs2.toNat)) (h.pc + 4)) ∧
        (w = hi ++ rd ++ 0x37#7 → does (some ((hi ++ 0#12).signExtend 64)) (h.pc + 4)) ∧
        (w = 0#7 ++ rs2 ++ rs1 ++ (0#3 ++ (8#5 : BitVec 5) ++ 0x63#7 : BitVec 15) →
          does none (if A = h.reg rs2.toNat then h.pc + 8 else h.pc + 4)) ∧
        (w = 0x00800#20 ++ rd ++ 0x6F#7 → does (some (h.pc + 4)) (h.pc + 8)) ∧
        (w = 0x340#12 ++ 0#5 ++ (2#3 ++ rd ++ 0x73#7 : BitVec 15) → h.user = false → does (some (h.getCsr 0x340)) (h.pc + 4)) ∧
        (w = imm ++ rs1 ++ (2#3 ++ rd ++ 0x03#7 : BitVec 15) →
          let va := (A + imm.signExtend 64).toNat
          va % 4 = 0 → h.pmpOk h.dataUser va 4 0 = true → 0x20000000 ≤ va → va < 0x30000000 → s.fwReg (va - 0x20000000) = none →
            does (some ((BitVec.ofNat 32 (Config.freeNat s.free)).signExtend 64)) (h.pc + 4)) ∧
        (w = imm.extractLsb' 5 7 ++ rs2 ++ rs1 ++ (2#3 ++ imm.extractLsb' 0 5 ++ 0x23#7 : BitVec 15) →
          let va := (A + imm.signExtend 64).toNat
          va % 4 = 0 → h.pmpOk h.dataUser va 4 1 = true → 0x20000000 ≤ va → va < 0x30000000 → s.fwReg (va - 0x20000000) = none →
            o = .fault .deviceWindow))) ∧
    (∀ d a b : BitVec 5, s.xhallAt f = some (0#7 ++ b ++ a ++ (2#3 ++ d ++ 0x0B#7 : BitVec 15)) →
      ∃ u, exec (.swaitEnd f none) s = .next u ∧ exec (.swait b a d) { s with cur := { s.cur with unit := f } } = .next u) ∧
    (∀ i, s.xhallAt f = none → 16 ≤ i → i < 64 → ∃ u, exec (.swaitEnd f (some i)) s = .next u ∧ { u with harts := s.harts } = s ∧
      (u.hart f).getCsr 0x344 = h.getCsr 0x344 ||| (1#64 <<< i)))


/-- R38, R114, R115, R346, R347, R350-R352, R357, R362, R364. That ENQ with an empty tenant mask keeps the written MASK, and that BLOCK
is raised again while a wait goes on, are the model's choices (log entries 54 and 64). -/
def Obligations.Decisions : Prop :=
  (∀ (k : Nat) (s : State),
    let e := s.engine k
    (∀ r ∈ ([(.enqDecision k, .enq), (.pickDecision k, .pick), (.tickDecision k, .tick), (.blockDecision k, .block),
             (.wakeDecision k, .wake), (.migrateDecision k, .migrate)] ++
            (if k = 20 then [(.hypPickDecision, .hypPick), (.hypTickDecision, .hypTick)] else []) : List (Instr × Point)),
      (∀ q rest, e.run = none → e.raised = q :: rest → q.point = r.2 → s.mustWait q = false →
        (q.point.needs = true → s.sample q = [] →
          ∃ u, exec r.1 s = .next u ∧ { u with engines := s.engines } = s ∧ u.engine k = { e with raised := rest } ∧
            ∀ j, j ≠ k → u.engine j = s.engine j) ∧
        (q.point.needs = false ∨ s.sample q ≠ [] →
          ∃ u d, exec r.1 s = .next u ∧ { u with engines := s.engines, slots := s.slots } = s ∧
            (u.engine k).raised = rest ∧ (u.engine k).run = some d ∧ (u.engine k).slice = e.slice ∧ (u.engine k).lastQueue = e.lastQueue ∧
            (∀ j, j ≠ k → u.engine j = s.engine j) ∧
            d.raised = q ∧ d.pc = 0 ∧ d.used = 0 ∧ d.w = [] ∧ d.scratch = [] ∧ d.loops = [] ∧ d.cands = s.sample q ∧
            d.regs = s.presets k q (s.sample q) ∧ d.arg = s.argOf k q ∧
            d.slot = (if q.point.hyp then 512 + q.point.dp else q.tenant * 8 + q.point.dp) ∧
            let x := nget Routine.reset s.slots d.slot
            d.routine = (if x.retired then { x with words := [] } else x) ∧
            (∀ n, n ≠ d.slot → nget Routine.reset u.slots n = nget Routine.reset s.slots n) ∧
            nget Routine.reset u.slots d.slot =
              if d.routine.words = [] then x else { x with calls := nput x.calls k (nget 0 x.calls k + 1) })) ∧
      (e.run ≠ none ∨ e.raised = [] ∨ (∃ q rest, e.raised = q :: rest ∧ (q.point ≠ r.2 ∨ s.mustWait q = true)) →
        exec r.1 s = .next s)) ∧
    (∀ t,
      let q : Raised := { point := .tick, tenant := t, cluster := k, grid := 0, team := 0, frame := 0, again := false }
      let due : Prop := k < 20 ∧ t < 64 ∧ (s.tenantMask t).getLsbD k = true ∧
        nget 0 e.tickAt t + nget 1000 e.slice t * 1000 ≤ s.time ∧ ∀ w ∈ e.raised, ¬(w.point = .tick ∧ w.tenant = t)
      (¬due → exec (.tenantTickExpiry k t) s = .next s) ∧
      (due → ∃ u more, exec (.tenantTickExpiry k t) s = .next u ∧ { u with engines := s.engines } = s ∧
        (u.engine k).raised = e.raised ++ q :: more ∧ (∀ w ∈ more, w.point = .wake ∧ w.tenant = t) ∧ (u.engine k).run = e.run ∧
        ∀ j, j ≠ k → u.engine j = s.engine j)) ∧
    (∀ d, k < 21 → e.run = some d → d.routine.words.length ≤ d.pc →
      ∃ u, takeTurn (.policy k) s = .next u ∧ (d.raised.point ∈ [.enq, .pick, .tick, .wake, .migrate, .hypPick] → (u.engine k).run = none) ∧
        (d.raised.point = .tick → { u with engines := s.engines, jobs := s.jobs } = s ∧
          nget 1000 (u.engine k).slice d.raised.tenant = max 10 (min 10000 (nget 1000 d.regs 2))) ∧
        (d.raised.point = .enq → (s.grid d.raised.grid).present = true →
          (u.grid d.raised.grid).mask = BitVec.ofNat 20 (nget 0xFFFFF d.regs 1) &&&
            (if s.tenantMask (s.grid d.raised.grid).tenant = 0 then 0xFFFFF else s.tenantMask (s.grid d.raised.grid).tenant) ∧ (u.grid d.raised.grid).prio = BitVec.ofNat 8 (nget 0 d.regs 3) ∧
          (u.grid d.raised.grid).enqueued = true) ∧
        (d.raised.point = .hypPick → ∀ c, d.cands[nget 127 d.regs 0]? = some c →
          nget none u.hyp.lastTenant d.raised.cluster = some c.tenant ∧
          ∃ q ∈ (u.engine d.raised.cluster).raised, q.point = .pick ∧ q.cluster = d.raised.cluster) ∧
        (d.raised.point = .block → nget 0 d.regs 0 % 2 = 0 → { u with engines := s.engines, jobs := s.jobs } = s) ∧
        (d.raised.point = .wake → nget 1 d.regs 0 % 2 = 0 → { u with engines := s.engines, jobs := s.jobs } = s) ∧
        (let idle : State := (s.setEngine k { e with run := none }).boundary k
         let home := nget 4 d.regs 5
         let f := d.raised.frame
         let moves : Prop := home < 4 ∧ s.homeDie (f * 65536) ≠ home ∧ (s.frame f).moving = none ∧ s.pinned f = false ∧
           (s.frames.filter fun y => y.2.moving == some home).length < 4
         let t := d.raised.tenant
         let new := BitVec.ofNat 20 (nget 0xFFFFF d.regs 1) &&& s.quota t
         let out : List Nat := s.leavers t (s.tenantMask t &&& ~~~new)
         let begun : List Nat := takeUnits s.freeSlots.length (s.evictUnits (s.unsaved out))
         let saves : Prop :=
           (∀ (i tk slot : Nat), begun[i]? = some tk → s.freeSlots[i]? = some slot → (u.team tk).draining = some (slot, false)) ∧
           (∀ tk ∈ begun, (s.grid (s.team tk).grid).coop = true → ∀ x ∈ s.unsaved out, (s.team x).grid = (s.team tk).grid → x ∈ begun) ∧
           ((s.unsaved out).length ≤ s.freeSlots.length → ∀ x ∈ s.unsaved out, x ∈ begun)
         (d.raised.point = .migrate → (¬moves → u = idle) ∧
           (moves → (u.frame f) = { s.frame f with moving := some home } ∧ (∀ j, j ≠ f → u.frame j = s.frame j) ∧
             (∀ b, u.byteAt b = s.byteAt b) ∧
             ∀ gk, (u.group gk).kept = (s.group gk).kept ∧ (u.group gk).regs = (s.group gk).regs ∧
               ∀ r, r ∈ (u.group gk).resv ↔ r ∈ (s.group gk).resv ∧ (r.2.tm = true ∨ r.2.granule / 1024 ≠ f))) ∧
         (d.raised.point = .block → nget 0 d.regs 0 % 2 = 1 →
           (∀ tk slot, s.residentTeam d.raised.grid d.raised.team = some tk → s.freeSlots.head? = some slot →
             (u.team tk).draining = some (slot, true) ∧ (∀ j, j ≠ tk → u.team j = s.team j) ∧ (u.engine k).run = none) ∧
           (s.residentTeam d.raised.grid d.raised.team ≠ none → s.freeSlots = [] → u = s)) ∧
         (d.raised.point = .wake → nget 1 d.regs 0 % 2 = 1 → ∀ slot, s.dormantSlot d.raised.grid d.raised.team = some slot →
           nget Saved.reset u.saved slot = { nget Saved.reset s.saved slot with dormant := false } ∧
             (∀ j, j ≠ slot → nget Saved.reset u.saved j = nget Saved.reset s.saved j) ∧ u.teams = s.teams ∧
             (u.grid d.raised.grid).prio = BitVec.ofNat 8 (nget (s.grid d.raised.grid).prio.toNat d.regs 3)) ∧
         (d.raised.point = .hypTick →
           (((s.evict out false).unsaved out = [] → (u.engine k).run = none ∧ nget 0 u.masks t = new ∧ saves ∧
              (∀ j, j ≠ t → nget 0 u.masks j = nget 0 s.masks j) ∧ ∀ j, j ∉ out → u.team j = s.team j) ∧
            ((s.evict out false).unsaved out ≠ [] → u.engines = s.engines ∧ u.masks = s.masks ∧ saves ∧
              ∀ j, j ∉ out → u.team j = s.team j))) ∧
         (d.raised.point = .pick → ∀ c, d.cands[nget 127 d.regs 0]? = some c →
           let cl := d.raised.cluster
           let g := idle.grid c.grid
           let target := nget 8 d.regs 4
           let cores := (idle.openCores cl g).filter fun x => decide (8 ≤ target) || x == cl * 8 + target
           let admitted (v : State) : Prop := { u with engines := v.engines } = v ∧
             nget none (u.engine k).lastQueue d.raised.tenant = some (c.fields.headD 0)
           let held : Prop := { u with engines := s.engines, jobs := s.jobs, pickHeld := s.pickHeld } = s ∧
             (d.raised.again = true → cl * 64 + d.raised.tenant ∈ u.pickHeld) ∧
             (d.raised.again = false → ∃ q ∈ (u.engine k).raised, q.point = .pick ∧ q.cluster = cl)
           (idle.isCandidate cl c.grid = false → held) ∧
           (idle.isCandidate cl c.grid = true →
             (g.coop = false →
               (∀ t core rest, idle.nextTeam c.grid cl = some t → cores = core :: rest → ∃ q0 ∈ idle.roomsAt core g,
                 admitted ({ idle with free := s.free + 1 }.admitTeam c.grid t core q0)) ∧
               (idle.nextTeam c.grid cl = none ∨ cores = [] → held)) ∧
             (g.coop = true → (∀ v, idle.admitCoop c.grid = some v → admitted v) ∧ (idle.admitCoop c.grid = none → held)))))) ∧
    (∀ q cs,
      (q.point = .enq → s.presets k q cs = [(1, 0xFFFFF), (3, 0)]) ∧ (q.point = .tick → s.presets k q cs = [(2, 1000)]) ∧
      (q.point = .hypTick → s.presets k q cs = [(1, (s.quota q.tenant).toNat)]) ∧ (q.point = .block → s.presets k q cs = [(0, 0)]) ∧
      (q.point = .wake → s.presets k q cs = [(0, 1)]) ∧ (q.point = .migrate → s.presets k q cs = [(5, 4)]))) ∧
  (∀ (last : Option Nat) (ns : List Nat),
    let i := roundRobin last ns
    match last with
    | none => i = 0
    | some x => ((∀ n ∈ ns, n ≤ x) → i = 0) ∧
      ((∃ n ∈ ns, x < n) → (∃ n, ns[i]? = some n ∧ x < n) ∧ ∀ j n, j < i → ns[j]? = some n → n ≤ x)) ∧
  (∀ s : State,
    let due : Prop := s.inRound = false ∧ s.hyp.roundAt + s.hyp.least.getD 1000 * 1000 ≤ s.time
    (¬due → exec .hypTickExpiry s = .next s) ∧
    (due → ∃ u, exec .hypTickExpiry s = .next u ∧ { u with engines := s.engines, hyp := s.hyp } = s ∧
      u.hyp = { s.hyp with roundAt := s.time, least := none } ∧ (∀ j, j ≠ 20 → u.engine j = s.engine j) ∧
      (u.engine 20).raised = (s.engine 20).raised ++ ((List.range 64).filter
        (fun t => s.aqis.any (fun a => a.2.entry.v && a.2.entry.tenant == t))).map
          (fun t => { point := .hypTick, tenant := t, cluster := 0, grid := 0, team := 0, frame := 0, again := false }))) ∧
  (∀ (tk : Nat) (s : State),
    let t := s.team tk
    let g := s.grid t.grid
    let k := tk / 64 / 8
    let q : Raised := { point := .block, tenant := g.tenant, cluster := k, grid := t.grid, team := t.id, frame := 0, again := false }
    let isIt (r : Raised) : Prop := r.point = .block ∧ r.grid = t.grid ∧ r.team = t.id
    let due : Prop := t.present = true ∧ t.draining = none ∧ g.coop = false ∧ 20000 ≤ t.waited ∧
      (∀ r ∈ (s.engine k).raised, ¬isIt r) ∧ ∀ d, (s.engine k).run = some d → ¬isIt d.raised
    (¬due → exec (.blockWaitTimeout tk) s = .next s) ∧
    (due → ∃ u, exec (.blockWaitTimeout tk) s = .next u ∧ { u with engines := s.engines } = s ∧
      u.engine k = { s.engine k with raised := (s.engine k).raised ++ [q] } ∧ ∀ j, j ≠ k → u.engine j = s.engine j))


/-! ## Tokens and budgets -/

/-- R72, R75-R79, R90, R92, R266, R292, R407, R408. The order of a ring cycle, when BDELAY counts a line, and the order of turns in a
cluster's cycle are the model's choices (log entries 48, 49 and 4). -/
def Obligations.TokenCycles : Prop :=
  (∀ (die : Nat) (s : State),
    let a := s.arcade die
    let flit (x : State) (i : Nat) : Flit := (x.arcade die).flits.getD i { fresh := 0, old := 0, nflit := 0 }
    let level (x : State) (core i : Nat) : Nat :=
      if i = 4 then (nget Bank.reset x.seqBanks core).level else (x.quad (core * 4 + i)).bank.level
    let total (x : State) : Nat := ((List.range 41).map (fun i => (flit x i).fresh + (flit x i).old)).sum +
      ((List.range 40).map (fun j => ((List.range 5).map (level x (die * 40 + j))).sum)).sum
    let acc := a.acc + if s.power.thr.getLsbD die then a.inj / 2 else a.inj
    (4 ≤ die → exec (.arcadeRingCycle die) s = .next s) ∧
    (die < 4 → ∃ u, exec (.arcadeRingCycle die) s = .next u ∧
      (u.arcade die).acc = acc % 65536 ∧ (u.arcade die).injTot = a.injTot + BitVec.ofNat 64 (acc / 65536) ∧
      (u.arcade die).expTot = a.expTot + BitVec.ofNat 64 (flit s 0).old ∧ (u.arcade die).inj = a.inj ∧
      flit u 1 = { fresh := acc / 65536, old := (flit s 0).fresh, nflit := acc / 65536 } ∧
      (∀ i, i < 40 → (flit u (i + 1)).nflit = if i = 0 then acc / 65536 else (flit s i).nflit) ∧
      (∀ i, 1 ≤ i → i ≤ 40 → let f := if i = 40 then flit u 0 else flit u (i + 1)
        f.old ≤ (flit s i).old ∧ f.fresh ≤ (flit s i).fresh ∧ (flit s i).fresh - f.fresh ≤ (flit s i).nflit / 40) ∧
      total u + (flit s 0).old = total s + acc / 65536 ∧
      (∀ core i, i < 5 → level s core i ≤ level u core i) ∧
      (∀ core i, i < 5 → core / 40 ≠ die → level u core i = level s core i) ∧
      (∀ q, ((u.quad q).bank).spent = ((s.quad q).bank).spent ∧ ((u.quad q).bank).saving = ((s.quad q).bank).saving) ∧
      nget 0 u.ringCycles die = nget 0 s.ringCycles die + 1 ∧ (∀ d, d ≠ die → nget 0 u.ringCycles d = nget 0 s.ringCycles d) ∧
      u.groups = s.groups ∧ (∀ b, u.byteAt b = s.byteAt b) ∧ (s.time = u.time → u.teams = s.teams ∧ u.rails = s.rails))) ∧
  (∀ (die : Nat) (x : BitVec 64) (s : State),
    let v := x.toNat % 2 ^ 19
    let b := max 60000 (min 450000 v)
    (4 ≤ die → exec (.gbudgetWrite die x) s = .next s) ∧
    (die < 4 → ∃ u, exec (.gbudgetWrite die x) s = .next u ∧
      { u with arcades := s.arcades, power := { u.power with pkov := s.power.pkov }, hwRings := s.hwRings } = s ∧
      u.arcade die = { s.arcade die with
        bud := b, clmp := decide (v < 60000 ∨ 450000 < v), inj := b * max 0x3800 (min 0x4800 (nget 0x4000 s.fuses.calf die)) / 64 } ∧
      (∀ d, d ≠ die → u.arcade d = s.arcade d) ∧
      (u.power.pkov = true ↔ 1440000 < ((List.range 4).map (fun d => (u.arcade d).bud)).sum) ∧
      (∀ k, k ≠ 2 → nget [] u.hwRings k = nget [] s.hwRings k) ∧
      (¬(u.power.pkov = true ∧ s.power.pkov = false) → u.hwRings = s.hwRings) ∧
      (u.power.pkov = true → s.power.pkov = false → (nget [] s.hwRings 2).length < 256 →
        ∃ e, nget [] u.hwRings 2 = nget [] s.hwRings 2 ++ [(e, false)] ∧ e.toNat / 2 ^ 64 % 256 = 10 ∧
          e.toNat % 2 ^ 64 = s.time % 2 ^ 64))) ∧
  (∀ s : State,
    (s.time / 1000 ≤ s.power.budgetAt / 1000 → exec .byteBudgetInterval s = .next s) ∧
    (s.power.budgetAt / 1000 < s.time / 1000 → ∃ u, exec .byteBudgetInterval s = .next u ∧
      { u with budgets := s.budgets, groups := s.groups, reqs := s.reqs, held := s.held, acct := s.acct, interval := s.interval,
               power := s.power } = s ∧ u.power = { s.power with budgetAt := s.time } ∧
      (∀ c, (u.budget c).limit = (s.budget c).limit) ∧
      ((s.groups.map (·.1)).Nodup → (s.reqs.map (·.1)).Nodup → (s.held.map (·.1)).Nodup → ∀ c, (u.budget c).delay = (s.budget c).delay +
        BitVec.ofNat 64 (((s.waiters.filter fun w => clusterOf w.core == c).map fun w => (w.due.filter fun d => !d.late).length).sum)) ∧
      ((∀ w ∈ s.waiters, w.due = []) → (∀ gk, u.group gk = s.group gk) ∧ (∀ n, nget Req.reset u.reqs n = nget Req.reset s.reqs n) ∧
        u.acct = s.acct ∧ u.interval = s.interval ∧ (∀ c, 20 ≤ c → u.budget c = s.budget c) ∧
        ∀ c, c < 20 → u.budget c = { s.budget c with left := (s.budget c).limit }))) ∧
  (∀ (c : Nat) (order : List Nat) (s : State),
    (c < 20 → (s.cluster c).run = true → ∃ (u : State) (cores : List Nat), takeTurn (.cluster c order) s = .next u ∧
      { u with clusters := s.clusters, schedule := s.schedule } = s ∧ u.cluster c = { s.cluster c with clock := (s.cluster c).clock + 1 } ∧
      (∀ j, j ≠ c → u.cluster j = s.cluster j) ∧ cores.Nodup ∧ (∀ k, k ∈ cores ↔ k / 8 = c) ∧
      (∀ p x y r, order = p ++ x :: r → y ∈ r → x ≠ y → x / 8 = c → y / 8 = c → y ∉ p → x ∉ p → ∃ i j : Nat, i < j ∧ cores[i]? = some x ∧ cores[j]? = some y) ∧
      u.schedule = (cores.flatMap fun k => [.quadrant k 0, .quadrant k 1, .quadrant k 2, .quadrant k 3, .sequencer k]) ++ s.schedule) ∧
    (20 ≤ c ∨ (s.cluster c).run = false → takeTurn (.cluster c order) s = .next s))


/-! ## Teams and grids -/

/-- R27-R29, R376, R380, R392, R400. -/
def Obligations.TeamsAndGrids : Prop :=
  ∀ s : State,
    let told (g : Group) : LaneMask := g.frontLanes
    let ended (cause tk : Nat) (u : State) : Prop :=
      (∀ gk ∈ (s.team tk).gks, (s.group gk).live = true →
        ∀ l, ((s.group gk).frontLanes ||| (s.group gk).parkedLanes).getLsbD l = true → LaneGone u gk l) ∧
      (∀ k, k ∉ (s.team tk).gks → u.group k = s.group k) ∧ (∀ b, u.byteAt b = s.byteAt b) ∧
      ∃ rs, u.recs = s.recs ++ rs ∧ (∀ r ∈ rs, r.cause = cause ∧ r.park = false) ∧
        ∀ gk ∈ (s.team tk).gks, (s.group gk).live = true → told (s.group gk) ≠ 0 →
          ∃ r ∈ rs, r.lanes = told (s.group gk) ∧ r.group = (s.group gk).gid
    let ring3 (u : State) : Prop := (nget [] s.hwRings 3).length < 256 →
      ∃ e es, nget [] u.hwRings 3 = nget [] s.hwRings 3 ++ (e, false) :: es
    (∀ grid team,
      (s.findTeam grid team = none → exec (.abortTeam grid team) s = .next s) ∧
      (∀ tk, s.findTeam grid team = some (.inl tk) →
        (s.liveGroups tk = [] → exec (.abortTeam grid team) s = .next s) ∧
        (s.liveGroups tk ≠ [] → ∃ u, exec (.abortTeam grid team) s = .next u ∧ u.teams = s.teams ∧ ended 0x146 tk u)) ∧
      (∀ slot, s.findTeam grid team = some (.inr slot) →
        ∃ u rs, exec (.abortTeam grid team) s = .next u ∧ u.recs = s.recs ++ rs ∧
          (∀ g ∈ (nget Saved.reset s.saved slot).groups, told g ≠ 0 →
            ∃ r ∈ rs, r.cause = 0x146 ∧ r.lanes = told g ∧ r.group = g.gid) ∧
          (∀ x ∈ u.saved, x.1 ≠ slot))) ∧
    (∀ grid,
      ((s.grid grid).present = false → exec (.abortGrid grid) s = .next s) ∧
      ((s.grid grid).present = true → ∃ u, exec (.abortGrid grid) s = .next u ∧ (u.grid grid).cancelled = true ∧
        (u.grid grid).fault = true ∧ ring3 u ∧
        ∀ tk ∈ s.allTeams, (s.team tk).grid = grid → ∀ gk ∈ (s.team tk).gks, (s.group gk).live = true →
          ∀ l, ((s.group gk).frontLanes ||| (s.group gk).parkedLanes).getLsbD l = true → LaneGone u gk l)) ∧
    (∀ tk,
      let t := s.team tk
      let g := s.grid t.grid
      let gs := t.gks.map s.group
      let limit := (s.reg g.fn 0x60).toNat % 65536
      let silent : Prop := t.present = true ∧ limit ≠ 0 ∧ limit * 1000000 ≤ t.silent ∧ s.silenceCounts tk = true
      (¬silent → exec (.watchdogExpiry tk) s = .next s) ∧
      (silent → ∃ u, exec (.watchdogExpiry tk) s = .next u ∧ ended 0x144 tk u ∧ ring3 u ∧ u.team tk = { t with silent := 0 }) ∧
      (s.teamOver tk = false → exec (.teamEnd tk) s = .next s) ∧
      (s.teamOver tk = true →
        let s0 := match t.cid with | some c => s.dropCloister (tk / 64) c | none => s
        (∀ s1, s0.exitAtHome t = .wait s1 → exec (.teamEnd tk) s = .next s1) ∧
        (∀ s1, s0.exitAtHome t = .ok s1 → ∃ u rs, exec (.teamEnd tk) s = .next u ∧ u.teams = ndel s.teams tk ∧
        u.recs = s.recs ++ rs ∧
        (∀ x ∈ gs, x.faultmask ≠ 0 → ∃ r ∈ rs, r.tmv = true ∧ r.lanes = x.faultmask ∧ r.group = x.gid ∧ r.grid = t.grid) ∧
        ((s.tile (tk / 64)).owned = true → (s.tile (tk / 64)).tk = tk → u.tile (tk / 64) = Tile.reset) ∧
        (endedByFault t gs = false → (u.grid t.grid).ended = g.ended + 1 ∧ (u.grid t.grid).fault = g.fault ∧
          ∀ id, id ≠ t.grid → u.grid id = s.grid id) ∧
        (endedByFault t gs = true → (u.grid t.grid).fault = true ∧
          ∀ id p, (s.grid id).present = true → (s.grid id).parent = some p → p.1 = t.grid → (u.grid id).cancelled = true))) ∧
      (∀ slot dormant,
        let due : Prop := t.draining = some (slot, dormant) ∧ t.present = true ∧ s.liveGroups tk ≠ [] ∧ s.drained tk = true
        (∀ s1, due → s.slotAtHome slot = .wait s1 → exec (.contextSaveComplete tk) s = .next s1) ∧
        (¬(∃ x d, t.draining = some (x, d) ∧ t.present = true ∧ s.liveGroups tk ≠ [] ∧ s.drained tk = true) →
          exec (.contextSaveComplete tk) s = .next s) ∧
        (∀ s1, due → s.slotAtHome slot = .ok s1 → (∃ x ∈ gs, ∃ e ∈ x.frontier, e.mask ≠ 0) → ∃ u, exec (.contextSaveComplete tk) s = .next u ∧ u.teams = ndel s.teams tk ∧
          let x := nget Saved.reset u.saved slot
          x.team = { t with draining := none, silent := 0, waited := 0 } ∧ x.dormant = dormant ∧ x.cluster = tk / 64 / 8 ∧
          x.since = s.time ∧ x.groups.map (·.gid) = gs.map (·.gid) ∧ x.groups.map (·.parked) = gs.map (·.parked) ∧
          (∀ k, k ≠ slot → nget Saved.reset u.saved k = nget Saved.reset s.saved k)))) ∧
    (∀ grid,
      let g := s.grid grid
      let due : Prop := g.present = true ∧ s.teamsOver grid = true ∧ s.childrenOf [grid] = [] ∧ ∀ r ∈ s.recs, r.grid ≠ grid
      let gone (more : List FaultRec) (u : State) : Prop := (u.grid grid).present = false ∧
        (∀ id, id ≠ grid → u.grid id = s.grid id) ∧
        ∀ n, g.job = some n → u.jobs = ndel s.jobs n ∧
          let j := nget Job.reset s.jobs n
          let k := j.entry.fn * 16 + j.entry.er
          (rawField j.raw 1 1 % 2 = 1 ∨ g.fault = true → ∃ r, nget [] u.ringWait k = nget [] s.ringWait k ++ [r] ∧
            r.status = (if g.fault then 1 else 0) ∧ r.evtag = g.evtag.toNat ∧ r.aqi = j.aqi ∧
            r.nflt = min (g.nflt + more.length) 0xFFFF ∧
            r.cause = (match g.firstCause.or (more.map (·.cause)).head? with | some c => 0x8000 + c % 512 | none => 0)) ∧
          (rawField j.raw 1 1 % 2 = 0 → g.fault = false → u.ringWait = s.ringWait)
      (¬due → exec (.gridRetire grid) s = .next s) ∧
      (due → g.doneva = 0 → ∃ u, exec (.gridRetire grid) s = .next u ∧ gone [] u ∧ u.recs = s.recs ∧ ∀ b, u.byteAt b = s.byteAt b) ∧
      (due → g.doneva ≠ 0 →
        (∀ s1, s.ioObject (s.gridAgent grid) g.doneva 5 = .wait s1 → exec (.gridRetire grid) s = .next s1 ∧ { s1 with bisnp := s.bisnp, held := s.held, nextTicket := s.nextTicket } = s) ∧
        (∀ pa s1, s.ioObject (s.gridAgent grid) g.doneva 5 = .ok pa s1 → ∃ u, exec (.gridRetire grid) s = .next u ∧ gone [] u ∧ u.recs = s.recs ∧
          ∀ b, u.byteAt b = (s1.objectUpdate pa 1 0 g.fault none).byteAt b) ∧
        (∀ c b, s.ioObject (s.gridAgent grid) g.doneva 5 = .bad c b →
          (g.mute = true → ∃ u, exec (.gridRetire grid) s = .next u ∧ gone [] u ∧ u.recs = s.recs) ∧
          (g.mute = false → ∃ u r, exec (.gridRetire grid) s = .next u ∧ gone (if s.written r then [r] else []) u ∧
            u.recs = s.recs ++ [r] ∧ r.cause = 0x111 ∧ r.va = g.doneva ∧ r.grid = grid ∧ r.s2 = b))))


/-! ## Host queues -/

/-- R326-R329, R333, R334, R336, R339. -/
def Obligations.PacketQueues : Prop :=
  (∀ (q : Nat) (s : State),
    let a := s.aqi q
    let e := a.entry
    let ring := e.fn * 16 + e.er
    let recorded (z u : State) (raw : BitVec 512) (status detail : Nat) (cause : Option Nat) : Prop :=
      if rawField raw 1 1 % 2 = 0 ∧ status = 0 then u.ringWait = z.ringWait
      else ∃ r, nget [] u.ringWait ring = nget [] z.ringWait ring ++ [r] ∧ r.status = status ∧ r.seq = rawField raw 8 4 ∧
        r.aqi = q ∧ r.time = z.time ∧ r.detail = detail % 2 ^ 32 ∧ r.cause = (match cause with | some c => 0x8000 + c % 512 | none => 0) ∧
        ∀ k, k ≠ ring → nget [] u.ringWait k = nget [] z.ringWait k
    let done (z u : State) (raw : BitVec 512) (status detail : Nat) (cause : Option Nat) : Prop :=
      { u with aqis := z.aqis, ringWait := z.ringWait } = z ∧ u.aqi q = { z.aqi q with queue := (z.aqi q).queue.drop 1, accepted := none } ∧
        (∀ p, p ≠ q → u.aqi p = z.aqi p) ∧ recorded z u raw status detail cause
    let faulted (u : State) (raw : BitVec 512) (c kind : Nat) (s2 : Bool) : Prop :=
      (u.aqi q).queue = a.queue.drop 1 ∧ ∃ r, recorded s u raw 1 0 (if s.written r then some c else none) ∧ u.recs = s.recs ++ [r] ∧
        r.cause = c ∧ r.kind = kind ∧ r.s2 = s2 ∧ r.team = q ∧ r.fn = e.fn ∧ r.va = BitVec.ofNat 64 (rawField raw 0x10 8)
    let started (u : State) (n : Nat) (raw : BitVec 512) : Prop := (u.aqi q).queue = a.queue.drop 1 ∧
      let j := nget Job.reset u.jobs n
      j.aqi = q ∧ j.entry = e ∧ j.raw = raw ∧ j.pos = 0 ∧ j.fault = none ∧ j.found = []
    let waits (z u : State) (h : HeadState) : Prop := { u with aqis := s.aqis } = z ∧ u.aqi q = { a with accepted := some h } ∧
      ∀ p, p ≠ q → u.aqi p = s.aqi p
    let ag (n : Nat) (raw : BitVec 512) : Agent := ioAgent e.fn (BitVec.ofNat 20 (rawField raw 4 4)) e.tenant q (.head n)
    let va (raw : BitVec 512) : Dword := BitVec.ofNat 64 (rawField raw 0x10 8)
    let pasidOk (raw : BitVec 512) : Bool := s.pasidOk e (BitVec.ofNat 20 (rawField raw 4 4))
    let passes (raw : BitVec 512) : Prop := a.accepted = none ∧ pasidOk raw = true ∧ s.mayAsk e raw = true
    let ready (raw : BitVec 512) : Prop := s.ringFull e.fn e.er = false ∧ (∀ x ∈ s.jobs, x.2.aqi = q → rawField x.2.raw 0 1 ≠ 4) ∧
      (rawField raw 1 1 / 4 % 2 = 1 → ∀ x ∈ s.jobs, x.2.aqi ≠ q)
    (a.queue = [] → exec (.badpkt q) s = .next s) ∧
    (∀ n raw rest, a.queue = (n, raw) :: rest →
      (packetOk raw = true → exec (.badpkt q) s = .next s) ∧
      (packetOk raw = false → ∃ u, exec (.badpkt q) s = .next u ∧ done s u raw 2 0 none)) ∧
    (∀ n, ∀ r ∈ ([(.launchPacket q, 1), (.signalPacket q, 3), (.waitPacket q, 4), (.policyLoad q, 5), (.faultReply q, 6)] ++
        (if (nget Job.reset s.jobs n).copying then [] else [(.copyPacket q n, 2)]) ++
        (if (nget Job.reset s.jobs n).publishing then [] else [(.publishCode q n, 7)]) : List (Instr × Nat)),
      ((∀ m raw rest, a.queue = (m, raw) :: rest → rawField raw 0 1 ≠ r.2 ∨ packetOk raw = false) → exec r.1 s = .next s) ∧
      (∀ m raw rest, a.queue = (m, raw) :: rest → rawField raw 0 1 = r.2 → packetOk raw = true → a.accepted = none →
        (pasidOk raw = false → ∃ u, exec r.1 s = .next u ∧ done s u raw 3 0 none) ∧
        (pasidOk raw = true → s.mayAsk e raw = false → ∃ u, exec r.1 s = .next u ∧ done s u raw 7 0 none))) ∧
    (∀ n, ∀ r ∈ ([(.signalPacket q, 3), (.waitPacket q, 4)] ++
        (if (nget Job.reset s.jobs n).copying then [] else [(.copyPacket q n, 2)]) ++
        (if (nget Job.reset s.jobs n).publishing then [] else [(.publishCode q n, 7)]) : List (Instr × Nat)),
      ∀ m raw, s.head q r.2 = some (m, raw) → passes raw ∨ a.accepted = some .plain →
        (¬ready raw → ∃ u, exec r.1 s = .next u ∧ waits s u .plain) ∧
        (ready raw → m = n → r.2 = 2 ∨ r.2 = 7 → ∃ u, exec r.1 s = .next u ∧ started u n raw ∧ u.ringWait = s.ringWait ∧ u.recs = s.recs)) ∧
    (∀ raw n, s.head q 3 = some (n, raw) → passes raw ∨ a.accepted = some .plain → ready raw →
      (∀ s1, s.ioObject (ag n raw) (va raw) 5 = .wait s1 → ∃ u, exec (.signalPacket q) s = .next u ∧ waits s1 u .plain) ∧
      (∀ pa s1, s.ioObject (ag n raw) (va raw) 5 = .ok pa s1 → ∃ u, exec (.signalPacket q) s = .next u ∧
        done (s1.arriveAt pa (rawField raw 0x18 4) none) u raw 0 0 none) ∧
      (∀ c b, s.ioObject (ag n raw) (va raw) 5 = .bad c b → ∃ u, exec (.signalPacket q) s = .next u ∧ faulted u raw c 5 b)) ∧
    (∀ raw n, s.head q 4 = some (n, raw) → passes raw ∨ a.accepted = some .plain → ready raw →
      (∀ s1, s.ioObject (ag n raw) (va raw) 4 = .wait s1 → ∃ u, exec (.waitPacket q) s = .next u ∧ waits s1 u .plain) ∧
      (∀ pa s1, s.ioObject (ag n raw) (va raw) 4 = .ok pa s1 → ∃ u, exec (.waitPacket q) s = .next u ∧
        { u with aqis := s.aqis, jobs := s.jobs } = s1 ∧ started u n raw) ∧
      (∀ c b, s.ioObject (ag n raw) (va raw) 4 = .bad c b → ∃ u, exec (.waitPacket q) s = .next u ∧ faulted u raw c 4 b)) ∧
    (∀ raw n, s.head q 1 = some (n, raw) →
      let asked := s.accept (ag n raw) (va raw)
      let z := if a.accepted = none then asked.2 else s
      (∀ g, a.accepted = some (.grid g) ∨ passes raw ∧ asked.1 = .ok g →
        (¬ready raw → ∃ u, exec (.launchPacket q) s = .next u ∧ waits z u (.grid g)) ∧
        (ready raw → ∃ u id, exec (.launchPacket q) s = .next u ∧ started u n raw ∧ (nget Job.reset u.jobs n).grid = some id ∧
          let x := u.grid id
          x.queue = q ∧ x.tenant = e.tenant ∧ x.fn = e.fn ∧ x.pasid = BitVec.ofNat 20 (rawField raw 4 4) ∧ x.depth = 0 ∧ x.job = some n ∧
          x.parent = g.parent ∧ x.hdr = g.hdr ∧ x.teams = g.teams ∧ ∀ k, k ≠ id → u.grid k = s.grid k)) ∧
      (∀ c v, passes raw → asked.1 = .refused c v → ∃ u, exec (.launchPacket q) s = .next u ∧ done asked.2 u raw 4 0 v) ∧
      (passes raw → asked.1 = .wait → exec (.launchPacket q) s = .next asked.2))) ∧
  (∀ (fn off size : Nat) (data : BitVec 512) (s : State),
    let a := s.aqi (off / 4096)
    let late : Prop := fn ∈ s.resetting
    let takes : Prop := size = 64 ∧ off % 64 = 0 ∧ off % 4096 < 0xF00 ∧ off / 4096 < 4096 ∧ a.entry.v = true ∧ a.entry.fn = fn ∧
      s.loading (off / 4096) = false ∧ (s.reg fn 8).getLsbD 0 = true ∧ s.boot.stage = 7 ∧ a.queue.length < 64
    (s.fnExists fn = false ∨ late → exec (.notifyWrite fn off size data) s = .next s) ∧
    (s.fnExists fn = true → ¬late → takes → ∃ u, exec (.notifyWrite fn off size data) s = .next u ∧
      { u with aqis := s.aqis, nextJob := s.nextJob } = s ∧ u.nextJob = s.nextJob + 1 ∧
      (∀ p, p ≠ off / 4096 → u.aqi p = s.aqi p) ∧ u.aqi (off / 4096) = { a with queue := a.queue ++ [(s.nextJob, data)] }) ∧
    (s.fnExists fn = true → ¬late → ¬takes → ∃ u, exec (.notifyWrite fn off size data) s = .next u ∧ { u with bar0 := s.bar0 } = s ∧
      u.reg fn 0x10 = BitVec.ofNat 64 (if (s.reg fn 0x10).toNat < 0xFFFFFFFF then (s.reg fn 0x10).toNat + 1 else (s.reg fn 0x10).toNat)) ∧
    (s.fnExists fn = true → s.boot.stage ≠ 15 → a.entry.v = true → a.entry.fn = fn → off % 4096 = 0xF00 →
      s.notifyWord fn off = 64 - a.queue.length) ∧
    (off % 4096 ≠ 0xF00 ∨ a.entry.v = false ∨ a.entry.fn ≠ fn → s.notifyWord fn off = 0)) ∧
  (∀ (n : Nat) (s : State),
    let j := nget Job.reset s.jobs n
    (rawField j.raw 0 1 ≠ 4 → exec (.waitConditionMet n) s = .next s) ∧
    (rawField j.raw 0 1 = 4 →
      ∀ pa s1, s.ioObject (ioAgent j.entry.fn (BitVec.ofNat 20 (rawField j.raw 4 4)) j.entry.tenant j.aqi (.job n))
          (BitVec.ofNat 64 (rawField j.raw 0x10 8)) 4 = .ok pa s1 →
        let w := s.pread (pa + 8) 4
        let met : Prop := (w % 65536 + 65536 - rawField j.raw 0x18 2) % 65536 < 32768 ∨ w / 2 ^ 24 ≠ 0
        (¬met → exec (.waitConditionMet n) s = .next s1) ∧
        (met → ∃ u, exec (.waitConditionMet n) s = .next u ∧ { u with jobs := s.jobs, ringWait := s.ringWait } = s1 ∧ u.jobs = ndel s.jobs n ∧
          (rawField j.raw 1 1 % 2 = 0 → w / 2 ^ 24 = 0 → u.ringWait = s.ringWait) ∧
          (rawField j.raw 1 1 % 2 = 1 ∨ w / 2 ^ 24 ≠ 0 → ∃ r, nget [] u.ringWait (j.entry.fn * 16 + j.entry.er) =
            nget [] s.ringWait (j.entry.fn * 16 + j.entry.er) ++ [r] ∧ r.status = if w / 2 ^ 24 = 0 then 0 else 1)))) ∧
  (∀ (fn ring vec : Nat) (x : BitVec 128) (s : State),
    let k := fn * 16 + ring
    let o := 0x100 + 0x20 * ring
    let head := (s.reg fn (o + 0x10)).toNat
    let m := min ((s.reg fn (o + 8)).toNat % 16) 9 + 7
    let at_ := (s.reg fn o).toNat / 4096 * 4096 + 32 * (head % 2 ^ m)
    (nget [] s.ringWait k = [] ∨ s.ringFull fn ring = true ∧ fn ∉ s.resetting → exec (.completionRecordWrite fn ring) s = .next s) ∧
    (∀ r rest, nget [] s.ringWait k = r :: rest → s.ringFull fn ring = false →
      (s.fnTarget fn at_ = none → ∃ u, exec (.completionRecordWrite fn ring) s = .next u ∧
        { u with ringWait := s.ringWait, bar0 := s.bar0 } = s ∧ nget [] u.ringWait k = rest ∧ (u.reg fn 0x28).getLsbD 31 = true) ∧
      (∀ pa, s.fnTarget fn at_ = some pa → isHost pa = true → ring < 16 → ∃ u, exec (.completionRecordWrite fn ring) s = .next u ∧
        nget [] u.ringWait k = rest ∧ u.hostMem = mwriteN s.hostMem (pa - 2 ^ 51) 32 (r.bytes (1 - head / 2 ^ m % 2)) ∧ u.mem = s.mem ∧
        u.reg fn (o + 0x10) = BitVec.ofNat 64 ((head + 1) % 2 ^ 32) ∧
        (¬(s.reg fn (o + 0xC)).getLsbD 31 = true → u.interrupts = s.interrupts ∧
          u.reg fn (o + 0x18) = BitVec.ofNat 64 (((s.reg fn (o + 0x18)).toNat + 1) % 2 ^ 32)))) ∧
    (let due : Prop := (s.reg fn (o + 0xC)).getLsbD 31 = true ∧ (s.reg fn (o + 8)).toNat / 2 ^ 16 % 2 ^ 12 ≠ 0 ∧ s.reg fn (o + 0x18) ≠ 0 ∧
        nget 0 s.ringSince k + (s.reg fn (o + 8)).toNat / 2 ^ 16 % 2 ^ 12 * 1000 ≤ s.time
      let irte := (nget 0 s.irTab ((s.reg fn (o + 0xC)).toNat % 2 ^ 11)).toNat
      (¬due → exec (.eventRingTimeTrigger fn ring) s = .next s) ∧
      (due → ring < 16 → ∃ u, exec (.eventRingTimeTrigger fn ring) s = .next u ∧
        { u with bar0 := s.bar0, pba := s.pba, interrupts := s.interrupts } = s ∧ u.reg fn (o + 0x18) = 0 ∧
        (irte % 2 = 1 → irte / 2 ^ 18 = 0 → irte / 2 % 64 = fn →
          let v := irte / 2 ^ 7 % 2 ^ 11
          if (s.msixEntry fn v).getLsbD 96 then nget false u.pba (fn * 2048 + v) = true ∧ u.interrupts = s.interrupts
          else u.interrupts = s.interrupts ++ [(fn, v)] ∧ u.pba = s.pba))) ∧
    (s.fnExists fn = false ∨ 2048 ≤ vec ∨ s.boot.stage = 15 → exec (.msixVectorUnmask fn vec x) s = .next s) ∧
    (s.fnExists fn = true → vec < 2048 → s.boot.stage ≠ 15 → ∃ u, exec (.msixVectorUnmask fn vec x) s = .next u ∧
      { u with msix := s.msix, pba := s.pba, interrupts := s.interrupts } = s ∧ u.msixEntry fn vec = x ∧
      (if x.getLsbD 96 = false ∧ nget false s.pba (fn * 2048 + vec) = true
       then u.interrupts = s.interrupts ++ [(fn, vec)] ∧ u.pba = ndel s.pba (fn * 2048 + vec)
       else u.interrupts = s.interrupts ∧ u.pba = s.pba)))


/-- R330-R332, R360. The model's own choices in it: the order in which POLICY-LOAD's checks are made (log entry 75), where the image of
a routine lies in the Atrium (66), and that a reply to a sub-group already answered is ignored (87). -/
def Obligations.PacketWork : Prop :=
  (∀ (q n : Nat) (s : State),
    let j := nget Job.reset s.jobs n
    let raw := j.raw
    let ag := ioAgent j.entry.fn (BitVec.ofNat 20 (rawField raw 4 4)) j.entry.tenant j.aqi (.job n)
    let addr (o : Nat) : Dword := BitVec.ofNat 64 (rawField raw o 8) + BitVec.ofNat 64 (64 * j.pos)
    let completed (z u : State) (status detail : Nat) (cause : Option Nat) : Prop := u.jobs = ndel s.jobs n ∧
      if rawField raw 1 1 % 2 = 0 ∧ status = 0 then u.ringWait = z.ringWait
      else ∃ r, nget [] u.ringWait (j.entry.fn * 16 + j.entry.er) = nget [] z.ringWait (j.entry.fn * 16 + j.entry.er) ++ [r] ∧
        r.status = status ∧ r.detail = detail % 2 ^ 32 ∧ r.cause = (match cause with | some c => 0x8000 + c % 512 | none => 0) ∧
        r.aqi = j.aqi ∧ r.seq = rawField raw 8 4
    (j.copying = true →
      (∀ x y s1 s2, s.engLine ag (addr 0x10) 64 false false = .ok x s1 →
        (s1.fillTlb ag.fn ag.pasid (addr 0x10)).engLine ag (addr 0x18) 64 true false = .ok y s2 → x.pa % 64 = 0 → y.pa % 64 = 0 → ∃ u, exec (.copyPacket q n) s = .next u ∧
          (∀ b, u.byteAt b = if y.pa ≤ b ∧ b < y.pa + 64 then s.byteAt (x.pa + (b - y.pa)) else s.byteAt b) ∧
          nget Job.reset u.jobs n = { j with pos := j.pos + 1 } ∧ u.aqis = s.aqis ∧ u.ringWait = s.ringWait ∧ u.recs = s.recs) ∧
      (∀ c va kd b s1 x s2, s.engLine ag (addr 0x10) 64 false false = .fault c va kd b s1 ∨
          s.engLine ag (addr 0x10) 64 false false = .ok x s2 ∧
            (s2.fillTlb ag.fn ag.pasid (addr 0x10)).engLine ag (addr 0x18) 64 true false = .fault c va kd b s1 →
        ∃ u r, exec (.copyPacket q n) s = .next u ∧ (∀ b, u.byteAt b = s.byteAt b) ∧ u.aqis = s.aqis ∧
          nget Job.reset u.jobs n = { j with fault := some r } ∧ r.cause = c ∧ r.va = va ∧ r.kind = kd ∧ r.s2 = b)) ∧
    (rawField raw 0 1 ≠ 2 ∨ j.copying = true → exec (.queueCopyComplete n) s = .next s) ∧
    (rawField raw 0 1 = 2 → j.copying = false → BitVec.ofNat 64 (rawField raw 0x28 8) = 0 →
      ∃ u, exec (.queueCopyComplete n) s = .next u ∧ u.recs = s.recs ++ j.fault.toList ∧ (∀ b, u.byteAt b = s.byteAt b) ∧
        completed s u (if j.fault.isSome || j.killed then 1 else 0) (64 * j.pos)
          ((j.fault.filter (s.tally ag.tenant 3 (64 * j.pos)).written).map (·.cause))) ∧
    (rawField raw 0 1 = 2 → j.copying = false → BitVec.ofNat 64 (rawField raw 0x28 8) ≠ 0 →
      let stopped := j.fault.isSome || j.killed
      let asked := s.ioObject ag (BitVec.ofNat 64 (rawField raw 0x28 8)) 5
      (∀ s1, asked = .wait s1 → exec (.queueCopyComplete n) s = .next s1) ∧
      (∀ pa s1, asked = .ok pa s1 → ∃ u, exec (.queueCopyComplete n) s = .next u ∧ u.recs = s.recs ++ j.fault.toList ∧ u.jobs = ndel s.jobs n ∧
        ∀ b, u.byteAt b = (s1.objectUpdate pa (64 * j.pos) 0 stopped none).byteAt b) ∧
      (∀ c b, asked = .bad c b → ∃ u r, exec (.queueCopyComplete n) s = .next u ∧ u.recs = s.recs ++ j.fault.toList ++ [r] ∧
        u.jobs = ndel s.jobs n ∧ r.cause = 0x111 ∧ r.va = BitVec.ofNat 64 (rawField raw 0x28 8) ∧ r.s2 = b ∧ ∀ b, u.byteAt b = s.byteAt b)) ∧
    (j.publishing = true →
      ∀ x, s.access ag.fn ag.pasid (addr 0x10) 5 true false = .ok x → s.poisoned x.pa = false → isHost x.pa = false →
        (s.escape ag x { kind := 5, n := 64, cached := false, write := true, tagged := false, noHost := false }) = none →
        (∀ s1, s.atHome ag (s.withNodes ag [addr 0x10] [x.pa]) = .wait s1 → exec (.publishCode q n) s = .next s1) ∧
        ∀ s1, s.atHome ag (s.withNodes ag [addr 0x10] [x.pa]) = .ok s1 → ∃ u, exec (.publishCode q n) s = .next u ∧
          tagCS (u.tagOf x.pa) = (if tagCS (s.tagOf x.pa) = 0 then 1 else tagCS (s.tagOf x.pa)) ∧ (∀ b, u.byteAt b = s.byteAt b) ∧
          nget Job.reset u.jobs n = { j with
            pos := j.pos + 1, found := if tagCS (s.tagOf x.pa) ≠ 2 then j.found ++ [x.pa] else j.found }) ∧
    (j.publishing = true → ∀ err, s.access ag.fn ag.pasid (addr 0x10) 5 true false = .error err →
      ∃ u r, exec (.publishCode q n) s = .next u ∧ { u with jobs := s.jobs } = s ∧ nget Job.reset u.jobs n = { j with fault := some r } ∧
        r.cause = class1 5 err.reason ∧ r.va = addr 0x10 ∧ r.kind = 5 ∧ r.s2 = err.s2) ∧
    (rawField raw 0 1 = 7 → j.publishing = false →
      (j.pos ≤ rawField raw 0x18 8 / 64 → ∃ u, exec (.publishCodeComplete n) s = .next u ∧
        (∀ c, u.cache c = if c < 160 then (s.cache c).codeStep else s.cache c) ∧
        nget Job.reset u.jobs n = { j with pos := rawField raw 0x18 8 / 64 + 1 } ∧ { u with jobs := s.jobs, caches := s.caches } = s) ∧
      (rawField raw 0x18 8 / 64 < j.pos →
        (∀ pa rest s1, j.found = pa :: rest → s.atHome ag [pa] = .wait s1 → exec (.publishCodeComplete n) s = .next s1) ∧
        (∀ pa rest s1, j.found = pa :: rest → s.atHome ag [pa] = .ok s1 → isHost pa = false →
          ∃ u, exec (.publishCodeComplete n) s = .next u ∧ tagCS (u.tagOf pa) = (if tagCS (s.tagOf pa) = 1 then 2 else tagCS (s.tagOf pa)) ∧
            nget Job.reset u.jobs n = { j with found := rest } ∧ { u with jobs := s.jobs, tags := s.tags } = s1) ∧
        (j.found = [] → ∃ u, exec (.publishCodeComplete n) s = .next u ∧ u.recs = s.recs ++ j.fault.toList ∧
          completed s u (if j.fault.isSome then 1 else 0) 0 ((j.fault.filter s.written).map (·.cause))))) ∧
    (rawField raw 0 1 = 5 → j.engines = [] → ∃ u, exec (.policyLoadInstalled n) s = .next u ∧
      { u with jobs := s.jobs, ringWait := s.ringWait } = s ∧ completed s u 0 0 none) ∧
    (¬(rawField raw 0 1 = 5 ∧ j.engines = []) → exec (.policyLoadInstalled n) s = .next s)) ∧
  (∀ (q n : Nat) (raw : BitVec 512) (s : State),
    let a := s.aqi q
    let e := a.entry
    let finished (z u : State) (status detail : Nat) (cause : Option Nat) : Prop := (u.aqi q).queue = (z.aqi q).queue.drop 1 ∧
      if rawField raw 1 1 % 2 = 0 ∧ status = 0 then u.ringWait = z.ringWait
      else ∃ r, nget [] u.ringWait ((z.aqi q).entry.fn * 16 + (z.aqi q).entry.er) =
          nget [] z.ringWait ((z.aqi q).entry.fn * 16 + (z.aqi q).entry.er) ++ [r] ∧
        r.status = status ∧ r.detail = detail % 2 ^ 32 ∧ r.cause = (match cause with | some c => 0x8000 + c % 512 | none => 0)
    let dp := rawField raw 0x1A 1
    let hyp : Bool := rawField raw 0x1B 1 == 1
    let slot := if hyp then 512 + dp else e.tenant * 8 + dp
    let ag := ioAgent e.fn (BitVec.ofNat 20 (rawField raw 4 4)) e.tenant q (.head n)
    let read := State.readImage ag (BitVec.ofNat 64 (rawField raw 0x10 8)) (rawField raw 0x18 2) 0 [] s
    let image := read.1
    let passes : Prop := a.accepted = none ∧ s.pasidOk e (BitVec.ofNat 20 (rawField raw 4 4)) = true ∧ s.mayAsk e raw = true
    let ready : Prop := s.startable q raw = true
    let waits (z u : State) (h : HeadState) : Prop := { u with aqis := s.aqis } = z ∧ u.aqi q = { a with accepted := some h }
    (s.head q 5 = some (n, raw) →
      let full : Prop := slot < 512 ∧ (nget Routine.reset s.slots slot).retired = true ∧ 192 ≤ s.filledSlots
      (passes → pointOf dp hyp = none → ∃ u, exec (.policyLoad q) s = .next u ∧ finished s u 5 0xFFFFFFFF none) ∧
      (∀ p, passes → pointOf dp hyp = some p →
        (image = none → exec (.policyLoad q) s = .next read.2) ∧
        (∀ i c, image = some (.error (i, c)) → ∃ u, exec (.policyLoad q) s = .next u ∧ finished s u 5 i (some c)) ∧
        (∀ ws, image = some (.ok ws) →
          (∀ i, firstBad p ws = some i → ∃ u, exec (.policyLoad q) s = .next u ∧ finished s u 5 i none ∧ u.slots = s.slots) ∧
          (firstBad p ws = none → 4096 < staticBound ws →
            ∃ u, exec (.policyLoad q) s = .next u ∧ finished s u 5 ws.length none ∧ u.slots = s.slots) ∧
          (firstBad p ws = none → staticBound ws ≤ 4096 → full →
            ∃ u, exec (.policyLoad q) s = .next u ∧ finished s u 5 0xFFFFFFFF none ∧ u.slots = s.slots))) ∧
      (∀ ws, a.accepted = some (.image ws) ∨ (passes ∧ image = some (.ok ws) ∧ ¬full ∧
          ∃ p, pointOf dp hyp = some p ∧ firstBad p ws = none ∧ staticBound ws ≤ 4096) →
        (¬ready → ∃ u, exec (.policyLoad q) s = .next u ∧ waits (if a.accepted = none then read.2.leave ag.who else s) u (.image ws)) ∧
        (ready → full → ∃ u, exec (.policyLoad q) s = .next u ∧ finished s u 5 0xFFFFFFFF none ∧ u.slots = s.slots) ∧
        (ready → ¬full → ∃ u, exec (.policyLoad q) s = .next u ∧
          (u.aqi q).queue = a.queue.drop 1 ∧ u.engines = s.engines ∧ u.ringWait = s.ringWait ∧
          (∀ k, k ≠ slot → nget Routine.reset u.slots k = nget Routine.reset s.slots k) ∧
          let r := nget Routine.reset u.slots slot
          r.words = ws ∧ r.allow = rawField raw 0x1C 2 ∧ r.retired = false ∧ r.aqi = q ∧ r.num = s.nextRoutine ∧
          (∀ place, r.place = some place → ws.length ≤ 256 → ∀ die i w, die < 4 → ws[i]? = some w →
            mreadN u.atrium (die * 0x40000 + place * 0x400 + 4 * i) 4 = w.toNat) ∧
          let j := nget Job.reset u.jobs n
          j.aqi = q ∧ j.raw = raw ∧ ∀ k, k ∈ j.engines ↔ (if hyp = true then k = 20 else k < 20) ∧ (s.engine k).run ≠ none))) ∧
    (s.head q 6 = some (n, raw) →
      let grid := BitVec.ofNat 32 (rawField raw 0x10 4)
      let team := rawField raw 0x14 4
      let group := rawField raw 0x18 1
      let cancel : LaneMask := BitVec.ofNat 32 (rawField raw 0x1C 4)
      let late : Prop := a.accepted = some .plain
      (s.findTeam grid team = none → (passes → ∃ u, exec (.faultReply q) s = .next u ∧ finished s u 8 0 none) ∧
        (late → ready → ∃ u, exec (.faultReply q) s = .next u ∧ finished s u 0 0 none)) ∧
      (∀ tk gk, s.findTeam grid team = some (.inl tk) → group < 32 → (s.team tk).gks[group]? = some gk →
        let ps := (s.group gk).parked.filter (·.reply.isNone)
        let no := (ps.filter (fun p => p.mask &&& cancel != 0)).length
        (ps = [] → (passes → ∃ u, exec (.faultReply q) s = .next u ∧ finished s u 8 0 none) ∧
          (late → ready → ∃ u, exec (.faultReply q) s = .next u ∧ finished s u 0 0 none)) ∧
        (ps ≠ [] → passes ∨ late → ¬ready → ∃ u, exec (.faultReply q) s = .next u ∧ waits s u .plain) ∧
        (ps ≠ [] → passes ∨ late → ready → (s.team tk).draining ≠ none → ∃ u, exec (.faultReply q) s = .next u ∧
          finished s u 0 ((ps.length - no) % 65536 + no % 65536 * 65536) none ∧
          u.group gk = { s.group gk with parked := (s.group gk).parked.map (fun p =>
            if p.reply = none then { p with reply := some (decide (p.mask &&& cancel = 0)) } else p) }) ∧
        (ps ≠ [] → passes ∨ late → ready → (s.team tk).draining = none → ∃ u, exec (.faultReply q) s = .next u ∧
          finished s u 0 ((ps.length - no) % 65536 + no % 65536 * 65536) none ∧
          ∀ p ∈ ps, p.mask &&& cancel ≠ 0 → ∀ l, p.mask.getLsbD l = true →
            (∀ x ∈ (s.group gk).parked, x.mask.getLsbD l = true → x = p) → LaneGone u gk l))))


/-- R318, R319, R321, R323, R325, R340, R342, R343. The model's own choices in it: a table outside HBM reads 0 (log entry 81); a 64-bit
register is written whole at its low offset (138); a host access to a poisoned line has no effect (90). -/
def Obligations.HostCommands : Prop :=
  ∀ s : State,
    let table (reg off n : Nat) : Nat :=
      let pa := (s.reg 0 reg).toNat % 2 ^ 52 / 65536 * 65536 + off
      if isHbm pa then s.pread pa n else 0
    let res (u : State) (k : Nat) : Prop := u.reg 0 0x2048 = BitVec.ofNat 64 (k * 256)
    (∀ q, (s.cfg ≠ none ∨ 4096 ≤ q → exec (.loadAqi q) s = .next s) ∧
      (s.cfg = none → q < 4096 → ∃ u, exec (.loadAqi q) s = .next u ∧ { u with cfg := none } = s ∧
        u.cfg = some { op := 1, kill := false, fn := 0, arg := q })) ∧
    (∀ fn, s.cfg = none → fn < 64 → ∃ u, exec (.invS2 fn) s = .next u ∧ { u with cfg := none } = s ∧
      u.cfg = some { op := 3, kill := false, fn := fn, arg := 0 }) ∧
    (∀ c, s.cfg = some c →
      (c.op = 1 → (s.aqi c.arg).queue = [] → s.jobsOf c.arg = [] →
        let e := aqiOf (table 0x2008 (16 * c.arg) 16)
        let taken : Prop := e.v = true ∧ ∃ a ∈ s.aqis, a.1 ≠ c.arg ∧ a.2.entry.v = true ∧ a.2.entry.tenant = e.tenant ∧ a.2.entry.fn ≠ e.fn
        ∃ u, exec .loadAqiComplete s = .next u ∧ u.cfg = none ∧ { u with cfg := s.cfg, aqis := s.aqis, bar0 := s.bar0 } = s ∧
          (taken → res u 2 ∧ u.aqis = s.aqis) ∧
          (¬taken → res u 0 ∧ u.aqi c.arg = { s.aqi c.arg with entry := e } ∧ ∀ q, q ≠ c.arg → u.aqi q = s.aqi q)) ∧
      (c.op = 1 → (s.aqi c.arg).queue ≠ [] ∨ s.jobsOf c.arg ≠ [] → exec .loadAqiComplete s = .next s) ∧
      (c.op = 3 → ∃ u, exec .invS2Complete s = .next u ∧ u.cfg = none ∧ res u 0 ∧ (∀ t ∈ u.tlb2, t.fn ≠ c.fn) ∧
        (∀ t ∈ s.tlb2, t.fn ≠ c.fn → t ∈ u.tlb2) ∧ nget 0 u.vfTab c.fn = BitVec.ofNat 128 (table 0x2010 (16 * c.fn) 16) ∧
        { u with cfg := s.cfg, bar0 := s.bar0, tlb2 := s.tlb2, vfTab := s.vfTab } = s) ∧
      (c.op = 2 → s.contextGrids c.fn (BitVec.ofNat 20 c.arg) = [] → (∀ j ∈ s.jobs, j.2.copyOf c.fn (BitVec.ofNat 20 c.arg) = false) →
        (∀ r ∈ s.reqs, ¬(r.2.base.fn = c.fn ∧ r.2.base.pasid = BitVec.ofNat 20 c.arg)) → ∀ fn,
        ∃ u, exec (.invPasidComplete false fn) s = .next u ∧ u.cfg = none ∧ res u 0 ∧
          (∀ t, t ∈ u.tlb1 ↔ t ∈ s.tlb1 ∧ ¬(t.fn = c.fn ∧ t.pasid = BitVec.ofNat 20 c.arg)) ∧
          { u with cfg := s.cfg, bar0 := s.bar0, tlb1 := s.tlb1 } = s)) ∧
    (∀ i, s.cfg = none →
      (i < 2048 → ∃ u, exec (.invIrte i) s = .next u ∧ res u 0 ∧ nget 0 u.irTab i = BitVec.ofNat 64 (table 0x2018 (8 * i) 8) ∧
        { u with irTab := s.irTab, bar0 := s.bar0 } = s) ∧
      (i < 1024 → ∃ u, exec (.loadPeer i) s = .next u ∧ res u 0 ∧ { u with peerTab := s.peerTab, bar0 := s.bar0 } = s ∧
        let x := table 0x2028 (16 * i) 16
        nget 0 u.peerTab i = if x / 2 ^ 19 % 2 ^ 13 = 0 ∧ x / 2 ^ 59 = 0 then BitVec.ofNat 128 x else 0) ∧
      (i < 64 →
        let raw := BitVec.ofNat 256 (table 0x2020 (32 * i) 32)
        let meets : Prop := ∃ (p x : PoolEntry) (j : Nat), poolOf raw = some p ∧ j < 64 ∧ j ≠ i ∧ s.pool j = some x ∧
          p.first < x.first + x.count ∧ x.first < p.first + p.count
        ∃ u v, exec (.loadPool i) s = .next v ∧ { u with pools := s.pools, bar0 := s.bar0 } = s ∧
          (meets → v = u ∧ res u 2 ∧ u.pools = s.pools) ∧ (¬meets → v = u.raisePicks ∧ res u 0 ∧ nget 0 u.pools i = raw))) ∧
    (∀ x : BitVec 64,
      let op := x.toNat % 16
      let bad : Prop := op = 0 ∨ 6 < op ∨ (op = 1 ∧ 4096 ≤ x.toNat / 2 ^ 32 % 2 ^ 20) ∨ (op = 4 ∧ 2048 ≤ x.toNat / 2 ^ 32 % 2 ^ 20) ∨
        (op = 5 ∧ 64 ≤ x.toNat / 2 ^ 32 % 2 ^ 20) ∨ (op = 6 ∧ 1024 ≤ x.toNat / 2 ^ 32 % 2 ^ 20)
      (s.cfg ≠ none ∨ ¬bad → exec (.cfgcmdBadOp x) s = .next s) ∧
      (s.cfg = none → bad → ∃ u, exec (.cfgcmdBadOp x) s = .next u ∧ { u with bar0 := s.bar0 } = s ∧ res u 1)) ∧
    (∀ (fn : Nat) (p : BitVec 20) (kill : Bool), s.cfg = none →
      ∃ u, exec (.invPasid false fn p kill) s = .next u ∧ u.cfg = some { op := 2, kill := kill, fn := fn, arg := p.toNat } ∧
        (kill = false → { u with cfg := none } = s) ∧
        (kill = true → (∀ id, (s.grid id).present = true → (s.grid id).fn = fn → (s.grid id).pasid = p → (u.grid id).cancelled = true) ∧
          ∀ n, (nget Job.reset s.jobs n).copyOf fn p = true → (nget Job.reset u.jobs n).killed = true)) ∧
    (∀ (fn ring : Nat) (base : Bool) (x : BitVec 64), s.fnExists fn = true →
      (ring < 16 → ∃ u, exec (.erctlWrite fn ring base x) s = .next u ∧ { u with bar0 := s.bar0 } = s ∧
        let o := 0x100 + 0x20 * ring
        u.reg fn (o + 0x10) = 0 ∧ u.reg fn (o + 0x14) = 0 ∧ u.reg fn (o + 0x18) = 0 ∧
        u.reg fn (if base then o else o + 8) = (if base then x else x &&& 0x0FFFFF0F) ∧
        u.reg fn (if base then o + 8 else o) = s.reg fn (if base then o + 8 else o)) ∧
      (∃ u, exec (.fqctlWrite fn base x) s = .next u ∧ { u with bar0 := s.bar0 } = s ∧ u.reg fn 0x30 = 0 ∧ u.reg fn 0x34 = 0 ∧
        (base = true → u.reg fn 0x20 = x ∧ u.reg fn 0x28 = s.reg fn 0x28) ∧
        (base = false → u.reg fn 0x20 = s.reg fn 0x20 ∧ (∀ i, i < 16 → (u.reg fn 0x28).getLsbD i = x.getLsbD i) ∧
          (u.reg fn 0x28).getLsbD 31 = ((s.reg fn 0x28).getLsbD 31 && !x.getLsbD 31))) ∧
      (∃ u, exec (.fdropRead fn) s = .next u ∧ { u with bar0 := s.bar0 } = s ∧ u.reg fn 0x10 = 0) ∧
      (∀ r ∈ ([(0x08, 3), (0x34, 0xFFFFFFFF), (0x50, 0xFFFFFFFFFFFFFFFF), (0x58, 0xFFFFF), (0x60, 0xFFFF)] : List (Nat × Dword)),
        ∃ u, exec (.registerWrite fn r.1 x) s = .next u ∧ { u with bar0 := s.bar0 } = s ∧ u.reg fn r.1 = x &&& r.2 ∧
          ∀ f o, f * 65536 + o ≠ fn * 65536 + r.1 → u.reg f o = s.reg f o) ∧
      exec (.registerWrite fn 0x28 x) s = exec (.fqctlWrite fn false x) s ∧
      (ring < 16 → exec (.registerWrite fn (0x108 + 0x20 * ring) x) s = exec (.erctlWrite fn ring false x) s)) ∧
    (∃ u, exec .irblkRead s = .next u ∧ { u with bar0 := s.bar0 } = s ∧ u.reg 0 0x2050 = 0) ∧
    (∀ r ∈ ([0x2008, 0x2010, 0x2018, 0x2020, 0x2028] : List Nat), ∀ x : BitVec 64, ∃ u, exec (.registerWrite 0 r x) s = .next u ∧
      { u with bar0 := s.bar0 } = s ∧ u.reg 0 r = x &&& 0x000FFFFFFFFFFFFF) ∧
    (∀ fn, s.fnExists fn = true → fn ≠ 0 →
      (s.resetting.contains fn = true → exec (.functionLevelReset fn) s = .next s) ∧
      (s.resetting.contains fn = false → ∃ u, exec (.functionLevelReset fn) s = .next u ∧
        (∀ r ∈ u.recs, r.fn = fn → (u.grid r.grid).mute = true) ∧
        (∀ id, (s.grid id).present = true → (s.grid id).fn = fn → (u.grid id).cancelled = true) ∧
        (∀ a ∈ s.aqis, a.2.entry.v = true → a.2.entry.fn = fn → (u.aqi a.1).queue = [] ∧ u.jobsOf a.1 = []) ∧
        ((∀ a ∈ s.aqis, a.2.entry.v = true → a.2.entry.fn = fn → (s.aqi a.1).queue = [] ∧ s.jobsOf a.1 = []) →
          s.ringsEmpty fn = true → u.resetting.contains fn = false) ∧
        (u.resetting.contains fn = false → (∀ o, o < 65536 → u.reg fn o = 0) ∧
          ∀ v, v < 2048 → (u.msixEntry fn v).getLsbD 96 = true ∧ nget false u.pba (fn * 2048 + v) = false))) ∧
    (∀ (h : Nat) (wr caching : Bool) (bytes : BitVec 64) (data : BitVec 512),
      let pa := h / 64 * 64 / 0xF80000000 * 2 ^ 36 + h / 64 * 64 % 0xF80000000
      let f := s.frame (pa / 65536)
      let open_ : Prop := h < 0x7C00000000 ∧ s.modules ≠ 0 ∧ s.boot.stage ≠ 15 ∧ s.poisoned pa = false
      let busy : Bool := s.frameBusy (s.heldSvc (.host pa)).ticket 161 pa
      let served : Prop := open_ ∧ busy = false
      let marked : Prop := tagV (s.tagOf pa) = true ∧ ∃ w b, w < 8 ∧ b < 8 ∧ (tagRT (s.tagOf pa)).getLsbD w = true ∧ bytes.getLsbD (8 * w + b) = true
      let e := exec (.hostCxlMemAccess h wr caching bytes data) s
      (h < 2 ^ 51 → ¬open_ → e = .next s) ∧
      (open_ → busy = true → ∃ u, e = .next u ∧ { u with held := s.held, nextTicket := s.nextTicket } = s ∧ (u.heldSvc (.host pa)).ticket ≠ none) ∧ (2 ^ 51 ≤ h → wr = false → e = .next s) ∧
      (2 ^ 51 ≤ h → wr = true → ∃ u, e = .next u ∧ { u with hostMem := s.hostMem } = s ∧
        let a := h / 64 * 64 - 2 ^ 51
        ∀ b, mread u.hostMem b = if a ≤ b ∧ b < a + 64 ∧ bytes.getLsbD (b - a) = true then BitVec.ofNat 8 (data.toNat / 2 ^ (8 * (b - a))) else mread s.hostMem b) ∧
      (served → wr = true → marked → ∃ u, e = .next u ∧ { u with held := s.held } = s) ∧
      (served → wr = true → ¬marked → ∃ u, e = .next u ∧
        ∀ b, u.byteAt b = if pa ≤ b ∧ b < pa + 64 ∧ bytes.getLsbD (b - pa) = true then data.toNat / 2 ^ (8 * (b - pa)) % 256 else s.byteAt b) ∧
      (served → wr = false → ∃ u, e = .next u ∧ (∀ b, u.byteAt b = s.byteAt b) ∧
        (u.frame (pa / 65536)).hostCached = (f.hostCached || caching))) ∧
    (∀ line, ∃ u, exec (.bisnpResponse line) s = .next u ∧ { u with bisnp := s.bisnp } = s ∧
      (∀ b ∈ u.bisnp, b.1 = line → b.2 = true) ∧ ∀ b, b.1 ≠ line → (b ∈ u.bisnp ↔ b ∈ s.bisnp)) ∧
    (∀ m, (m = 1 ∨ m = 2 → 6 ≤ s.boot.stage → ∃ u, exec (.hostPortTrained m) s = .next u ∧ u.modules = m ∧ { u with modules := s.modules } = s) ∧
      (s.boot.stage < 6 → exec (.hostPortTrained m) s = .next s)) ∧
    (∀ p, p < 18 →
      (s.mezz = none → ∃ u, exec (.scaleupPortTrained p) s = .next u ∧ u.ports = s.ports ||| (1#18 <<< p) ∧ { u with ports := s.ports } = s) ∧
      (s.mezz ≠ none → exec (.scaleupPortTrained p) s = .next s) ∧
      ∃ u, exec (.scaleupPortFailed p) s = .next u ∧ u.ports = s.ports &&& ~~~(1#18 <<< p) ∧
        ∀ n, let q := nget Req.reset s.reqs n
          (n, p) ∈ s.portOf → q.closed = false →
          (q.sent = true → (nget Req.reset u.reqs n).closed = true ∧
            (nget Req.reset u.reqs n).fault.map (·.cause) = some 0x112 ∧ ∀ x ∈ u.peerOut, x.1 ≠ n) ∧
          (q.sent = false → nget Req.reset u.reqs n = { q with down := true })) ∧
    (∀ n, let q := nget Req.reset s.reqs n
      (q.sent = false ∨ q.closed = true → exec (.peerRefused n) s = .next s) ∧
      (q.sent = true → q.closed = false → ∃ u r, exec (.peerRefused n) s = .next u ∧ { u with reqs := s.reqs, peerOut := s.peerOut } = s ∧
        nget Req.reset u.reqs n = { q with sent := false, closed := true, fault := some r, svc := Svc.reset } ∧ r.cause = 0x113 ∧
        ∀ x, x ∈ u.peerOut ↔ x ∈ s.peerOut ∧ x.1 ≠ n)) ∧
    (∀ (d : Nat) (va : BitVec 64) (size : Nat) (data : BitVec 512),
      let e := (nget 0 s.peerTab d).toNat
      let ag := ioAgent (e / 2 ^ 33 % 64) (BitVec.ofNat 20 (e / 2 ^ 39)) 0 0 (.peer d va.toNat)
      let run := exec (.peerLineInbound d va size data) s
      let fits : Prop := s.mezz = none ∧ s.ports ≠ 0 ∧ e / 2 ^ 32 % 2 = 1 ∧ size ≠ 0 ∧ va.toNat % 64 + size ≤ 64
      (¬fits → run = .next s) ∧
      (fits → (∀ c v k b t, s.engLine ag va size true false = .fault c v k b t → run = .next (t.leave ag.who)) ∧
        (∀ t, s.engLine ag va size true false = .wait t → run = .next t) ∧
        ∀ x t, s.engLine ag va size true false = .ok x t → x.pa % 64 = va.toNat % 64 → ∃ u, run = .next u ∧
          (∀ b, u.byteAt b = if x.pa ≤ b ∧ b < x.pa + size then data.toNat / 2 ^ (8 * (b - x.pa)) % 256 else s.byteAt b) ∧
          u.groups.map (fun g => (g.1, g.2.regs)) = s.groups.map (fun g => (g.1, g.2.regs))))


/-! ## Frames, power and accounting -/

/-- R115, R375, R387, R388, R411-R425. The model's own choices in it: errors of structures 0 to 5, 12, 13 and 15 count on a rail (log
entry 92); a review clears the count of its window (96); a thermal emergency is taken once until the sensor is cool again (98). -/
def Obligations.FleetEvents : Prop :=
  ∀ s : State,
    (∀ n, let f := s.frame n
      (f.moving = none → exec (.frameMoveComplete n) s = .next s) ∧
      (∀ d, f.moving = some d → ∃ u : State, exec (.frameMoveComplete n) s = .next u.raisePicks ∧ { u with frames := s.frames, l2 := s.l2 } = s ∧
        (∀ k, nget [] u.l2 k = (nget [] s.l2 k).filter (fun line => line / 1024 ≠ n)) ∧ u.frame n = { f with home := some d, moving := none, wcnt := [] } ∧ u.homeDie (n * 65536) = d ∧
        ∀ k, k ≠ n → u.frame k = s.frame k)) ∧
    (∀ x : BitVec 64,
      let n := x.toNat / 2 ^ 16 % 2 ^ 36
      let f := s.frame n
      (s.discarding ≠ none → exec (.discmd x) s = .next s) ∧
      (s.discarding = none → isHbm (n * 65536) = false → ∃ u, exec (.discmd x) s = .next u ∧ { u with bar0 := s.bar0 } = s ∧
        u.reg 0 0x2068 = 256) ∧
      (s.discarding = none → isHbm (n * 65536) = true → ∃ u, exec (.discmd x) s = .next u ∧ { u with discarding := none } = s ∧
        u.discarding = some n) ∧
      (isHbm (n * 65536) = true → ∃ u, exec (.homeq x) s = .next u ∧ { u with bar0 := s.bar0, free := s.free } = s ∧
        u.reg 0 0x2078 = BitVec.ofNat 64 (s.homeDie (n * 65536) + (if f.moving = none then 0 else 8) + (if f.disc then 16 else 0) +
          (if f.poison = [] then 0 else 32)))) ∧
    (∀ n, s.discarding = some n →
      ((s.frame n).moving ≠ none → exec .discardComplete s = .next s) ∧
      ((s.frame n).moving = none → isHbm (n * 65536) = true → ∃ u, exec .discardComplete s = .next u ∧ u.discarding = none ∧ u.reg 0 0x2068 = 0 ∧
        (∀ b, u.byteAt b = if b / 65536 = n then 0 else s.byteAt b) ∧ (∀ b, b / 65536 = n → u.tagOf b = 0 ∧ u.poisoned b = false) ∧
        ∀ k, k ≠ n → u.frame k = s.frame k)) ∧
    (∀ st core line, core < 160 →
      let r := railOf (core / 8)
      let counted : Bool := decide (st ≤ 5) || [12, 13, 15].contains st
      ∃ u, exec (.softErrorCorrectable st core line) s = .next u ∧ { u with caches := s.caches, rails := s.rails } = s ∧
        (counted = false → u.rails = s.rails) ∧
        (counted = true → u.rail r = { s.rail r with
          ce := (if (s.rail r).ce < 0xFFFFFFFF then (s.rail r).ce + 1 else (s.rail r).ce), window := (s.rail r).window + 1 })) ∧
    (∀ unit pa finder, isHbm pa = true → ∃ u, exec (.softErrorUncorrectable true 0 unit pa [] finder) s = .next u ∧ u.poisoned pa = true ∧
      u.teams = s.teams ∧ u.groups = s.groups ∧ u.rails = s.rails ∧
      ((nget [] s.hwRings 1).length < 256 → ∃ e, nget [] u.hwRings 1 = nget [] s.hwRings 1 ++ [(e, false)] ∧
        e.toNat / 2 ^ 64 % 256 = 1 ∧ e.toNat / 2 ^ 128 % 2 ^ 64 = pa % 2 ^ 64)) ∧
    (∀ st unit tk finder, st < 16 → st ≠ 8 → st ≠ 14 → unit < 160 → (s.team tk).present = true →
      let r := railOf (unit / 8)
      let counted : Bool := decide (st ≤ 5) || [12, 13, 15].contains st
      ∃ u, exec (.softErrorUncorrectable false st unit 0 [tk] finder) s = .next u ∧
        (∀ gk ∈ (s.team tk).gks, (s.group gk).live = true →
          (∀ l, ((s.group gk).frontLanes ||| (s.group gk).parkedLanes).getLsbD l = true → LaneGone u gk l)) ∧
        (∃ rs, u.recs = s.recs ++ rs ∧ ∀ x ∈ rs, x.cause = 0x150 + st) ∧
        (u.rail r).ue = (if counted ∧ (s.rail r).ue < 0xFFFFFFFF then (s.rail r).ue + 1 else (s.rail r).ue) ∧
        (counted = true → 0 < (s.rail r).trim → (u.rail r).trim = 0 ∧ (u.rail r).tdis = some (s.time + 86400000000000))) ∧
    (∀ c, let x := s.cluster c
      (∀ v : BitVec 64, c < 20 →
        (s.clusterBusy c = true → ∃ u, exec (.clctlPoolWrite c v) s = .next u ∧ { u with clusters := s.clusters } = s ∧
          u.cluster c = { x with pend := some (v.toNat % 4) }) ∧
        (s.clusterBusy c = false → ∃ u, exec (.clctlPoolWrite c v) s = .next u ∧ (u.cluster c).pool = v.toNat % 4 ∧ (u.cluster c).pend = none ∧
          (u.cluster c).cls = if s.mezz = none then v.toNat % 4 else x.cls)) ∧
      (x.pend = none ∨ s.clusterBusy c = true → exec (.poolTakesEffect c) s = .next s) ∧
      (∀ p, x.pend = some p → s.clusterBusy c = false → ∃ u, exec (.poolTakesEffect c) s = .next u ∧ (u.cluster c).pool = p ∧
        (u.cluster c).pend = none ∧ (u.cluster c).cls = if s.mezz = none then p else x.cls) ∧
      (∀ p, x.step = some p →
        let rail := s.rail (railOf c)
        (¬(x.run = true ∧ x.point < p) → rail.vmv < x.vote → exec (.frequencySwitch c) s = .next s) ∧
        ((x.run = true ∧ x.point < p) ∨ x.vote ≤ rail.vmv → ∃ u, exec (.frequencySwitch c) s = .next u ∧
          u.cluster c = { x with point := p, run := true, step := none, vote := s.voteFor c p rail.trim } ∧
          ∀ k, k ≠ c → u.cluster k = s.cluster k)) ∧
      (∀ t, c < 20 → t < 256 → ∃ u, exec (.thermalSensorChange c t) s = .next u ∧ (u.cluster c).temp = t ∧
        (u.cluster c).hotSince = (if 110 ≤ t then some (x.hotSince.getD s.time) else none) ∧
        (100 ≤ t → u.power.thr.getLsbD (c / 5) = true) ∧
        ((∀ k, k / 5 = c / 5 → k ≠ c → (s.cluster k).temp ≤ 95) → t ≤ 95 → u.power.thr.getLsbD (c / 5) = false)) ∧
      (∀ t, x.hotSince = some t → x.shut = false → t + 1000000 ≤ s.time → ∃ u, exec (.thermalEmergency c) s = .next u ∧
        (u.cluster c).emg = true ∧ (u.cluster c).shut = true ∧ ∃ rs, u.recs = s.recs ++ rs ∧ (∀ r ∈ rs, r.cause = 0x147) ∧
        ∀ j, j < 8 → ∀ tk ∈ s.coreTeams (c * 8 + j), ∀ gk ∈ (s.team tk).gks, (s.group gk).live = true →
          ∀ l, ((s.group gk).frontLanes ||| (s.group gk).parkedLanes).getLsbD l = true → LaneGone u gk l) ∧
      (x.hotSince = none ∨ x.shut = true → exec (.thermalEmergency c) s = .next s)) ∧
    ((s.time / 10000 ≤ s.power.sampleAt / 10000 → exec .stallSample s = .next s) ∧
      (s.power.sampleAt / 10000 < s.time / 10000 → ∃ u, exec .stallSample s = .next u ∧ u.power = { s.power with sampleAt := s.time } ∧
        ∀ c, c < 20 → let x := s.cluster c
          (u.cluster c).busy = 0 ∧ (u.cluster c).stalled = 0 ∧
          (x.run = false → (u.cluster c).sum = x.sum ∧ (u.cluster c).nsmp = x.nsmp) ∧
          (x.run = true → x.busy ≠ 0 →
            (x.stalled < x.busy → (u.cluster c).last = x.stalled * 256 / x.busy) ∧
            (x.state ≠ .idle → (u.cluster c).sum = x.sum + min 256 (x.stalled * 256 / x.busy) ∧ (u.cluster c).nsmp = x.nsmp + 1)))) ∧
    (∀ v : BitVec 64,
      (∃ u, exec (.optctlClr v) s = .next u ∧ { u with power := s.power } = s ∧
        u.power = { s.power with optEn := v.getLsbD 0, table := if v.getLsbD 1 then [] else s.power.table }) ∧
      (∃ u, exec (.accountingSnapshot v) s = .next u ∧ { u with power := s.power, acctSnap := s.acctSnap } = s ∧
        u.power.accSel = v.getLsbD 1 ∧ u.acctSnap = if v.getLsbD 0 then s.acct else s.acctSnap) ∧
      (∃ u, exec (.trimctlWrite v) s = .next u ∧ u.power.trimEn = (v.getLsbD 0 && s.mezz.isNone) ∧
        u.power.low = v.toNat / 256 % 256 ∧ u.power.high = v.toNat / 65536 % 256 ∧ u.power.tmax = min 100 (v.toNat / 2 ^ 24 % 256) ∧
        (v.getLsbD 0 = false → ∀ r, r < 12 → (u.rail r).trim = 0) ∧ (u.power.trimEn = true → u.rails = s.rails))) ∧
    (∀ r, let x := s.rail r
      (∀ t, x.hold = some t →
        (s.time < t → exec (.railHoldExpiry r) s = .next s) ∧
        (t ≤ s.time → ∃ u, exec (.railHoldExpiry r) s = .next u ∧ { u with rails := s.rails } = s ∧
          u.rail r = { x with hold := none, rampAt := s.time })) ∧
      (∀ t, x.tdis = some t →
        (s.time < t → exec (.trimDisableExpiry r) s = .next s) ∧
        (t ≤ s.time → ∃ u, exec (.trimDisableExpiry r) s = .next u ∧ { u with rails := s.rails } = s ∧ u.rail r = { x with tdis := none })) ∧
      (∀ d, d ≠ 0 → d ≤ 10 → x.rampAt + 100 * d ≤ s.time → x.tgt = x.vmv + d ∨ (x.vmv = x.tgt + d ∧ x.hold = none) →
        ∃ u, exec (.railReachesTarget r) s = .next u ∧ { u with rails := s.rails } = s ∧ u.rail r = { x with vmv := x.tgt, rampAt := s.time }) ∧
      (∀ ue : Bool, r < 12 → ∃ u, exec (.railErrorCountRead r ue) s = .next u ∧ { u with rails := s.rails } = s ∧
        u.rail r = (if ue then { x with ue := 0 } else { x with ce := 0 }) ∧ ∀ k, k ≠ r → u.rail k = s.rail k) ∧
      (s.time / 100000000 ≤ s.power.trimAt / 100000000 → exec .trimReview s = .next s) ∧
      (s.power.trimAt / 100000000 < s.time / 100000000 → r < 12 → ∃ u, exec .trimReview s = .next u ∧ u.power = { s.power with trimAt := s.time } ∧
        (u.rail r).window = 0 ∧
        (s.power.trimEn = false ∨ s.mezz ≠ none ∨ x.tdis ≠ none → (u.rail r).trim = x.trim) ∧
        (s.power.trimEn = true → s.mezz = none → x.tdis = none →
          (s.power.high ≤ x.window → (u.rail r).trim = x.trim - 10) ∧
          (x.window < s.power.high → ¬(x.window ≤ s.power.low ∧ x.trim + 5 ≤ s.power.tmax) → (u.rail r).trim = x.trim) ∧
          (x.window < s.power.high → x.window ≤ s.power.low → x.trim + 5 ≤ s.power.tmax →
            (u.rail r).trim = x.trim + 5 ∨ (u.rail r).trim = x.trim))))


/-! ## Boot and attestation -/

/-- R401-R406. The model's own choices in it: FW0 starts at pc 0 (log entry 103), FW1 to FW3 at 0x08000000 (104), digests are SHA-512
(106), the SPDM bits and error codes are those of DSP0274 (110), and so is the order of a connection; a request that finds an unread
reply is not taken (140). -/
def Obligations.BootAndAttestation : Prop :=
  ∀ s : State,
    let extended (i : Nat) (m : List Byte) (v : State) : BitVec 512 := sha512 (digestBytes (nget 0 v.boot.mreg i) ++ digestBytes (sha512 m))
    let b := s.boot
    (∃ u, exec .deviceReset s = .next u ∧ u.boot.stage = 1 ∧ u.boot.fail = 0 ∧ u.mem = s.mem ∧ u.hostMem = s.hostMem ∧ u.fuses = s.fuses ∧
      u.rom = s.rom ∧ u.flashA = s.flashA ∧ u.flashB = s.flashB ∧ u.groups = [] ∧ u.teams = [] ∧ u.grids = [] ∧ u.aqis = State.reset.aqis ∧
      u.bar0 = State.reset.bar0 ∧ u.mezz = none ∧
      nget 0 u.boot.mreg 0 = extended 0 ((List.range 0x80000).map (mread s.rom)) State.reset ∧
      (u.hart 0).held = false ∧ (u.hart 0).pc = 0) ∧
    (b.stage = 1 → ∃ u, exec .bootStageComplete s = .next u ∧ u.boot.stage = 2 ∧ u.boot.fail = b.fail ∧
      nget 0 u.boot.mreg 1 = extended 1 s.fuses.image s ∧
      (∀ d, d < 4 → (u.arcade d).inj = (s.arcade d).bud * max 0x3800 (min 0x4800 (nget 0x4000 s.fuses.calf d)) / 64) ∧
      (∀ r, r < 12 → (u.rail r).vmv = nget 0 s.fuses.vfloor (r / 3) ∧ (u.rail r).tgt = nget 0 s.fuses.vfloor (r / 3)) ∧ u.mem = s.mem) ∧
    (b.stage = 2 → ∃ u, exec .bootStageComplete s = .next u ∧ u.boot.stage = 3 ∧ u.mem = s.mem ∧
      (s.fuses.hbmOk = true → u.tags = [] ∧ u.boot.fail = b.fail) ∧ (s.fuses.hbmOk = false → u.boot.fail = 4 ∧ u.tags = s.tags)) ∧
    (b.stage = 3 → b.fail = 4 → exec .bootStageComplete s = .next s) ∧
    (b.stage = 3 → b.fail ≠ 4 →
      let taken (f : List Host.Cell) (fail : Nat) : Prop := ∃ u, exec .bootStageComplete s = .next u ∧ u.boot.stage = 4 ∧ u.boot.fail = fail ∧
        u.boot.fwver = imageVersion f % 65536 ∧ nget 0 u.boot.mreg 2 = extended 2 (slotBytes f 0 (0x450 + imageLen f)) s ∧
        (∀ i, i < imageLen f → mread u.sram i = mread f (0x450 + i)) ∧ (u.hart 0).held = false ∧ (u.hart 0).pc = 0x08000000 ∧ u.mem = s.mem
      (imageOk s.fuses s.flashA = true → taken s.flashA b.fail) ∧
      (imageOk s.fuses s.flashA = false → imageOk s.fuses s.flashB = true → taken s.flashB (if imageSound s.fuses s.flashA then 2 else b.fail)) ∧
      (imageOk s.fuses s.flashA = false → imageOk s.fuses s.flashB = false → ∃ u, exec .bootStageComplete s = .next u ∧
        u.boot.stage = 15 ∧ u.boot.fail = 1 ∧ u.harts = s.harts ∧ u.sram = s.sram)) ∧
    (b.stage = 4 → ∃ u, exec .bootStageComplete s = .next u ∧
      if s.fuses.dieOk = 0 then u.boot.stage = 15 ∧ u.boot.fail = 3
      else u.boot.stage = 5 ∧ u.boot.capValid = true ∧ u.boot.dieOk = s.fuses.dieOk ∧
        if b.mzreq = true ∨ s.fuses.mez = true ∨ s.fuses.dieOk ≠ 15#4 then
          ∃ d, u.mezz = some d ∧ d < 4 ∧ s.fuses.dieOk.getLsbD d = true ∧ (∀ e, e < d → s.fuses.dieOk.getLsbD e = false) ∧
            (∀ k, k < 5 → (u.cluster (5 * d + k)).cls = 3) ∧ u.ports = 0 ∧ u.power.trimEn = false ∧ ∀ r, r < 12 → (u.rail r).trim = 0
        else u.mezz = none) ∧
    (b.stage = 5 → ∃ u, exec .bootStageComplete s = .next u ∧ u.boot.stage = 6 ∧
      ∀ f, f = 1 ∨ f = 2 ∨ f = 3 → (u.hart f).held = false ∧ (u.hart f).pc = 0x08000000) ∧
    (b.stage = 6 → (s.modules = 0 → exec .bootStageComplete s = .next s) ∧
      (s.modules ≠ 0 → ∃ u, exec .bootStageComplete s = .next u ∧ u.boot = { b with stage := 7 } ∧
        u.bar0 = [] ∧ u.msix = [] ∧ u.pba = [] ∧ u.finv = [] ∧ u.cfg = none ∧ u.discarding = none ∧ u.acct = [] ∧ u.acctSnap = [] ∧
        (∀ d, d < 4 → (u.arcade d).bud = 340000 ∧ (u.arcade d).clmp = false) ∧
        u.power.trimEn = false ∧ u.power.low = 4 ∧ u.power.high = 16 ∧ u.power.tmax = 50 ∧ u.power.optEn = true ∧
        u.power.table = s.power.table ∧ u.mem = s.mem)) ∧
    (∀ (ver slot off len index : Nat) (asym hash meas signed : Bool) (nonce : BitVec 256),
      let chain := s.fuses.chain
      let answered (i : Instr) (told : Option (Nat × Nat)) (ok : SpdmReply → Prop) (next : SpdmStage) : Prop :=
        (s.takes = false → ∃ u, exec i s = .next u ∧ { u with free := s.free } = s) ∧
        (s.takes = true → ∃ u r, exec i s = .next u ∧ u.doe = some r ∧ ok r ∧ u.spdm = next ∧
          { u with doe := s.doe, spdm := s.spdm, hwRings := s.hwRings, free := s.free } = s ∧
          (told = none → u.hwRings = s.hwRings) ∧
          ∀ x, told = some x → (nget [] s.hwRings 0).length < 256 → ∃ (e : BitVec 512) (l : List (BitVec 512 × Bool)),
            nget [] u.hwRings 0 = nget [] s.hwRings 0 ++ (e, false) :: l ∧
            e.toNat % 256 = x.1 % 256 ∧ e.toNat / 256 % 256 = x.2 % 256)
      answered (.doeDiscovery index) none (fun r => r = if index < 2 then .discovery [index] else .discovery []) s.spdm ∧
      (∀ x ∈ ([(.getCapabilities 0x13, 0xE1, .version, fun r => r = .capabilities true true true false, .capabilities),
               (.negotiateAlgorithms 0x13 asym hash meas, 0xE3, .capabilities,
                 fun r => r = .algorithms (if asym then 0x40 else 0) (if hash then 0x4 else 0) (if meas then 0x8 else 0),
                 if asym && hash && meas then .ready else .capabilities),
               (.getDigests 0x13, 0x81, .ready, fun r => r = .digests (sha512 chain), .ready),
               (.getCertificate 0x13 slot off len, 0x82, .ready,
                 fun r => r = if slot = 0 ∧ off < chain.length then
                   .certificate ((chain.drop off).take len) (chain.length - off - ((chain.drop off).take len).length)
                 else .error 1, .ready),
               (.challenge 0x13 slot nonce, 0x83, .ready,
                 fun r => if slot = 0 then ∃ n sum sig, r = .challenge n (sha512 chain) sum sig else r = .error 1, .ready),
               (.getMeasurements 0x13 index signed slot nonce, 0xE0, .ready,
                 fun r => if index = 0 ∨ 5 < index ∨ (signed = true ∧ slot ≠ 0) then r = .error 1
                   else ∃ sig : Option Nat, r = .measurements [(index, nget 0 b.mreg (index - 1))] sig ∧ sig.isSome = signed, .ready)] :
               List (Instr × Nat × SpdmStage × (SpdmReply → Prop) × SpdmStage)),
        (s.spdm = x.2.2.1 → answered x.1 (some (0x13, x.2.1)) x.2.2.2.1 x.2.2.2.2) ∧
        (s.spdm ≠ x.2.2.1 → answered x.1 (some (0x13, x.2.1)) (fun r => r = .error 4) s.spdm)) ∧
      answered (.spdmUnsupportedRequest 0x13 index) (some (0x13, index)) (fun r => r = .error 7) s.spdm ∧
      (ver ≠ 0x13 → ∀ x ∈ ([(.getCapabilities ver, 0xE1), (.negotiateAlgorithms ver asym hash meas, 0xE3), (.getDigests ver, 0x81),
          (.getCertificate ver slot off len, 0x82), (.challenge ver slot nonce, 0x83), (.getMeasurements ver index signed slot nonce, 0xE0),
          (.spdmUnsupportedRequest ver index, index)] : List (Instr × Nat)),
        answered x.1 (some (ver, x.2)) (fun r => r = .error 1) s.spdm) ∧
      answered (.getVersion ver) (some (ver, 0x84)) (fun r => r = if ver = 0x10 then .version [0x13] else .error 1)
        (if ver = 0x10 then .version else s.spdm) ∧
      ∃ u, exec .doeAbort s = .next u ∧ u.doe = none ∧ { u with doe := s.doe } = s)


/-! ## Reset, encodings, the step -/

/-- R73-R79, R345, R364, R405, R411-R420, R424. The quota mask, the fuses and memory contents at reset are the model's choice (log). -/
def Obligations.ResetValues : Prop :=
  let s := State.reset
  (s.groups = [] ∧ s.teams = [] ∧ s.grids = [] ∧ s.jobs = [] ∧ s.reqs = [] ∧ s.recs = [] ∧ s.saved = [] ∧ s.held = [] ∧ s.exits = []) ∧
  (∀ d, (s.arcade d).flits = [] ∧ (s.arcade d).bud = 340000 ∧ (s.arcade d).inj = 340000 * 0x4000 / 64 ∧ (s.arcade d).clmp = false ∧
    (s.arcade d).injTot = 0 ∧ (s.arcade d).expTot = 0 ∧ Flit.empty = { fresh := 0, old := 0, nflit := 0 }) ∧
  (∀ q, (s.quad q).bank = { level := 0, starve := 0, oldest := none, saving := none, spent := 0, savcyc := 0, savepi := 0, issuedAt := none } ∧
    (s.quad q).hold = none) ∧
  (∀ c, (s.seqBank c).level = 0 ∧ nget 4 s.deals c = 4 ∧ (s.tile c).owned = false) ∧ s.time = 0 ∧
  (∀ n, (nget Routine.reset s.slots n).words = []) ∧ (∀ k, (s.engine k).run = none ∧ (s.engine k).raised = []) ∧
  (∀ t, t < 64 → s.tenantMask t = 0xFFFFF) ∧
  (∀ c, (s.cluster c).pool = 0 ∧ (s.cluster c).pend = none ∧ (s.cluster c).cls = 0 ∧ (s.cluster c).point = 0 ∧ (s.cluster c).emg = false ∧
    (s.cluster c).run = false ∧ (s.cluster c).step = none ∧ (s.cluster c).vote = 0 ∧ (s.cluster c).votes = false ∧ (s.cluster c).clock = 0) ∧
  (∀ r, (s.rail r).trim = 0 ∧ (s.rail r).hold = none) ∧
  (s.power.trimEn = false ∧ s.power.low = 4 ∧ s.power.high = 16 ∧ s.power.tmax = 50 ∧ s.power.table = []) ∧
  (∀ t j, nget 0 s.acct (t * 8 + j) = 0) ∧ (∀ i, nget 0 s.boot.mreg i = 0) ∧
  (∀ fn off, s.reg fn off = 0) ∧ (∀ a, s.byteAt a = 0) ∧ s.boot.stage = 0 ∧ (∀ f, (s.hart f).held = true)

/-- The invariant of `StepInvariant` holds at reset. -/
def Obligations.ResetInvariant : Prop := State.reset.canonical = true

/-- An invariant of the whole machine: no instruction, engine, walk, copy, packet, firmware access or fault queue write breaks it. -/
def Obligations.StepInvariant : Prop :=
  ∀ s t : State, s.canonical = true → step s = .next t → t.canonical = true

/-- R175-R184, R356, R395. -/
def Obligations.EncodeDecode : Prop :=
  (∀ (i : Instr) (w : Word), i.wf = true → encode i = some w →
    decodeGroup w = .ok i ∨ decodeTile w = .ok i ∨ decodeUdf w = some i ∨ decodeMuovo w = some i ∨ decodeXhall w = some i) ∧
  (∀ (i : Instr) (w : Word), decodeGroup w = .ok i → encode i = some (fieldWord w) ∧ i.wf = true ∧ majorOf w ≠ 14) ∧
  (∀ (i : Instr) (w : Word), decodeTile w = .ok i → encode i = some (w &&& 0x7FFFFFFF#32) ∧ i.wf = true ∧ majorOf w = 14) ∧
  (∀ (i : Instr) (w : Word), decodeMuovo w = some i → encode i = some w) ∧
  (∀ (i : Instr) (w : Word), decodeXhall w = some i → encode i = some w) ∧
  (∀ (i : Instr) (w : Word), decodeUdf w = some i → encode i = some w)

/-- R175-R184 and the tables of the major families. -/
def Obligations.DecodeWords : Prop :=
  (∀ p ∈ ([(0x00241083#32, .add 0 0 1 1 2 3), (0x04641083#32, .fma 0 0 1 1 2 3), (0x0C245103#32, .slideUp 0 0 1 5 4 3),
           (0x09805149#32, .quant 0 0 0 5 5 9), (0x10641087#32, .addsScalar 0 0 1 1 2 7), (0x180512FD#32, .addi 0 0 5 4 2 0xFD), (0x1C018328#32, .sadd 0 3 1 1 40),
           (0x20201000#32, .liS 0 4 0 0x1000), (0x248801A8#32, .ldtm 0 8 0 3 1 8), (0x284C2C6A#32, .stg 0 12 11 6 2 2),
           (0x2C080010#32, .bra 2 0x10), (0x2E48001D#32, .braAny 2 0x1D), (0x2CC00040#32, .call 0x40), (0x2DD182C0#32, .loop 1 6 11), (0x2D400000#32, .ret), (0x324D0C90#32, .await 0 3 1 3 9),
           (0x34040000#32, .xcpy 0 8), (0x3C238023#32, .rsys 7 0x23)] : List (Word × Instr)), decodeGroup p.1 = .ok p.2) ∧
  (∀ p ∈ ([(0x38040080#32, .tslot 4 0x80), (0x38200B03#32, .tmma 0 1 1 2 0 3), (0x39001800#32, .tarriveBarrier 0 3),
           (0x39203070#32, .tloop 3 7), (0x39400000#32, .tend)] : List (Word × Instr)), decodeTile p.1 = .ok p.2) ∧
  (∀ p ∈ ([(0x0483FFFF#32, .muovoLi 2 0x3FFFF), (0x55500014#32, .muovoLdp 5 4 0x14), (0x4190C000#32, .muovoSel 6 4 3),
           (0x580C0000#32, .muovoStdec 3 0), (0x6C000000#32, .muovoRet)] : List (Word × Instr)), decodeMuovo p.1 = some p.2) ∧
  (∀ p ∈ ([(0x00C5950B#32, .xhallBfx 12 11 10), (0x0073228B#32, .swait 7 6 5)] : List (Word × Instr)), decodeXhall p.1 = some p.2)

/-- The state in which a quadrant chooses in its cycle: fetches that must wait have taken their places. -/
def cycleView (core q : Nat) (s : State) : State :=
  let s := s.beginCycle (core * 4 + q)
  let s := if q = 0 then s.coreCycle core else s
  ((quadKeys (core * 4 + q)).foldl (fun s gk => if (s.group gk).present then s.askFetch gk else s) s).countStall (core * 4 + q)

/-- The number of the hold chain of a chosen bundle, with its line in the instruction cache and the fairness counts made. -/
def atIssue (core q gk idx : Nat) (e : Entry) (s : State) : Nat × State :=
  ((s.icFill (s.fetcher gk e.pc) e.pc).countFairness (core * 4 + q) (s.readyViews (core * 4 + q)) [(gk, idx)]).chainOf gk e

/-- The bundle of one word goes on the port in a cycle without hold, with the group's registers as they are. -/
def onPort (core q gk idx : Nat) (e : Entry) (i : Instr) (npc : Dword) (s : State) : State :=
  let c := atIssue core q gk idx e s
  c.2.openEntry gk idx e (c.2.group gk).regs [i] npc c.1

/-- What a cycle without hold does after its bundle: the group's age, the chain left open, the hold that may begin, the price. -/
def offPort (qk gk : Nat) (i : Issued) (s : State) : State :=
  let s := (s.stamp qk gk).openRuns gk [i]
  (s.setQuad qk { s.quad qk with hold := s.holdAfter gk i }).pay qk gk i.bundle.price

/-- R46, R83, R145, R185, R300, R317, R357, R395. -/
def Obligations.StepRunsDecoded : Prop :=
  (∀ (ag : Agent) (va : Dword) (x : Xlat) (s : State), canonical va = true → s.access ag.fn ag.pasid va 3 false false = .ok x →
    (s.cache ag.core).ic = [] → s.poisoned x.pa = false → s.escape ag x fetchAsk = none →
    (s.serveLines ag false 0 (s.nodeLines ag.fn ag.pasid va ++ [x.pa])).1 = true → tagCS (s.tagOf x.pa) = 2 →
      ∃ ws, s.fetchAt ag va = .words ws ∧ ws.length = 4 ∧
        ∀ k, k < 4 → ws[k]? = some (BitVec.ofNat 32 (s.pread (x.pa / 16 * 16 + 4 * k) 4))) ∧
  (∀ (gk : Nat) (e : Entry) (ws : List Word) (w : Word) (i : Instr) (s : State),
    e.held = false → e.barWait = false → e.sleep = 0 → e.pend = none → loopStall (s.group gk) e = false →
    s.fetchAt (s.fetcher gk e.pc) e.pc = .words ws → bundleWords (s.group gk) e ws = [w] →
    (isLoopWord w = true → e.owner = true ∨ (s.group gk).frontier.any (·.owner) = false) →
    bundleBad (s.grid (s.team (s.group gk).tk).grid) s.mezz.isSome [w] [] [w] (e.pc.toNat / 4 % 4) = none →
    decodeGroup w = .ok i → s.admits gk (s.group gk) e [w] [i] = true → wordReady (s.group gk) e.mask w = true →
      ∃ b, s.verdict gk e = .ok b ∧ b.words = [i] ∧ b.raws = [w] ∧ b.npc = e.pc + 4 ∧ b.price = priceOf w) ∧
  (∀ (core q gk idx : Nat) (e : Entry) (b : Bundle) (i : Instr) (r : List Turn) (s t : State), core < 160 → q < 4 →
    s.schedule = .quadrant core q :: r → (s.cluster (clusterOf core)).run = true → isEvent i = false →
    let v := cycleView core q { s with schedule := r }
    (v.quad (core * 4 + q)).hold = none → v.choose (core * 4 + q) (v.readyViews (core * 4 + q)) = .issue gk (idx, e, b) none →
    b.words = [i] → exec i (onPort core q gk idx e i b.npc v) = .next t →
      ∃ bk, let c := atIssue core q gk idx e v
        let u := offPort (core * 4 + q) gk ⟨e, b, c.1, 1, endsChain (entryLevels (c.2.group gk) e) b⟩ t
        step s = drained (.next (u.setQuad (core * 4 + q) { u.quad (core * 4 + q) with bank := bk })) ∧
        bk.level = (u.quad (core * 4 + q)).bank.level ∧ bk.spent = (u.quad (core * 4 + q)).bank.spent) ∧
  (∀ (core : Nat) (l : List Task) (ws : List Word) (i : Instr) (r : List Turn) (s v1 : State), core < 160 →
    s.schedule = .sequencer core :: r → (s.cluster (clusterOf core)).run = true →
    let v := { s with schedule := r }
    (v.tile core).owned = true → (v.liveGroups (v.tile core).tk).isEmpty = false → (v.team (v.tile core).tk).draining = none →
    State.testTasks core (v.tile core).table v = (.inl l, v1) →
    let u := (v1.setTile core { v.tile core with table := l }).seqIssue core
    let ag := { u.seqAgent core with who := .sender (.tile core (u.tile core).pc.toNat) }
    (u.tile core).run = .fetching → (u.tile core).table.length < 32 → u.fetchAt ag (u.tile core).pc = .words ws →
    let w := ws.getD ((u.tile core).pc.toNat % 16 / 4) 0
    decodeTile w = .ok i → chained w = false →
      step s = drained (exec i ((u.icFill ag (u.tile core).pc).mapCur (fun c => { c with core := core })))) ∧
  (∀ (k : Nat) (d : Decision) (w : Word) (i : Instr) (r : List Turn) (s : State), k < 21 → s.schedule = .policy k :: r →
    (s.engine k).run = some d → d.routine.words[d.pc]? = some w → decodeMuovo w = some i →
      step s = drained (exec i { s with schedule := r, cur := { s.cur with unit := k } })) ∧
  (∀ (f : Nat) (r : List Turn) (s : State), f < 4 → s.schedule = .firmware f :: r →
    let v := { s with schedule := r }
    (v.xhallAt f = none → step s = drained (exec (.rv64gcInstruction f) v)) ∧
    (∀ w i, v.xhallAt f = some w → (v.hart f).held = false → (v.hart f).nextIrq = none → decodeXhall w = some i →
      step s = drained (exec i { v with cur := { v.cur with unit := f } }))) ∧
  (∀ (i : Instr) (r : List Turn) (s : State), s.schedule = .event i :: r → isEvent i = true →
    step s = drained (exec i { s with schedule := r }))
end

