-- ==== Sys2Proof/Laws/Map.lean ====
section
/-! SUPPORT. What tables and byte memories do: read after write, and the canonical form that every write keeps. -/

namespace Sys2Proof.Machine

/-! ## Tables -/

@[simp] theorem nget_nil {α : Type} (d : α) (n : Nat) : nget d [] n = d := rfl

theorem nget_nput {α : Type} (d : α) (m : NMap α) (n k : Nat) (x : α) :
    nget d (nput m n x) k = if k = n then x else nget d m k := by
  induction m with
  | nil => simp only [nput, nget]; by_cases h : k = n <;> simp [h]; exact fun e => absurd e.symm h
  | cons a r ih =>
    obtain ⟨i, v⟩ := a
    simp only [nput]
    split
    · simp only [nget]; by_cases h : k = n
      · simp [h]
      · simp [h, Ne.symm h]
    · split
      · subst_vars; simp only [nget]; by_cases h : k = i
        · simp [h]
        · simp [h, Ne.symm h]
      · simp only [nget, ih]
        split <;> simp_all
        omega

@[simp] theorem nget_nput_same {α : Type} (d : α) (m : NMap α) (n : Nat) (x : α) : nget d (nput m n x) n = x := by
  simp [nget_nput]

theorem nget_nput_ne {α : Type} (d : α) (m : NMap α) {n k : Nat} (x : α) (h : k ≠ n) :
    nget d (nput m n x) k = nget d m k := by
  simp [nget_nput, h]

theorem nput_nput {α : Type} (m : NMap α) (n : Nat) (x y : α) : nput (nput m n x) n y = nput m n y := by
  induction m with
  | nil => simp [nput]
  | cons a r ih =>
    obtain ⟨i, v⟩ := a
    simp only [nput]
    split
    · simp [nput]
    · split
      · simp [nput]
      · simp only [nput, ih]; simp_all

theorem nget_filter {α : Type} (d : α) (m : NMap α) (p : Nat → Bool) (k : Nat) :
    nget d (m.filter (fun c => p c.1)) k = if p k then nget d m k else d := by
  induction m with
  | nil => simp
  | cons c r ih =>
    obtain ⟨i, v⟩ := c
    simp only [List.filter_cons]
    by_cases hi : i = k
    · subst hi
      by_cases hp : p i = true <;> simp [hp, nget, ih]
    · by_cases hp : p i = true <;> simp [hp, nget, hi, ih]

theorem nget_ndel {α : Type} (d : α) (m : NMap α) (n k : Nat) : nget d (ndel m n) k = if k = n then d else nget d m k := by
  rw [ndel, nget_filter d m (fun i => i != n)]
  by_cases h : k = n <;> simp [h]

@[simp] theorem nget_ndel_same {α : Type} (d : α) (m : NMap α) (n : Nat) : nget d (ndel m n) n = d := by
  simp [nget_ndel]

/-! ## Memories -/

/-- Every listed address lies at or above a bound. -/
def Above (b : Nat) (m : List Host.Cell) : Prop := ∀ c ∈ m, b ≤ c.1

theorem wf_cons (a : Nat) (x : Byte) (r : List Host.Cell) :
    Memory.wf ((a, x) :: r) = true ↔ x ≠ 0 ∧ Above (a + 1) r ∧ Memory.wf r = true := by
  induction r generalizing a x with
  | nil => simp [Memory.wf, Above]
  | cons c r ih =>
    obtain ⟨b, y⟩ := c
    rw [Memory.wf]
    simp only [Bool.and_eq_true, decide_eq_true_eq, bne_iff_ne, ne_eq]
    constructor
    · rintro ⟨⟨h, hx⟩, hw⟩
      refine ⟨hx, ?_, hw⟩
      obtain ⟨-, ha, -⟩ := (ih b y).1 hw
      intro c hc
      rcases List.mem_cons.1 hc with rfl | hc
      · exact h
      · have := ha c hc; omega
    · rintro ⟨hx, ha, hw⟩
      exact ⟨⟨ha (b, y) (by simp), hx⟩, hw⟩

theorem mread_filter (m : List Host.Cell) (p : Nat → Bool) (b : Nat) :
    mread (m.filter (fun c => p c.1)) b = if p b then mread m b else 0 := nget_filter 0 m p b

/-- What a byte reads as after a write. -/
theorem mread_mwrite (m : List Host.Cell) (a b : Nat) (x : Byte) :
    mread (mwrite m a x) b = if b = a then x else mread m b := by
  unfold mwrite
  split
  · rename_i hx
    rw [mread_filter m (fun k => k != a), hx]
    by_cases hb : b = a <;> simp [hb]
  · exact nget_nput 0 m a b x

theorem above_nput {m : List Host.Cell} {b a : Nat} (x : Byte) (h : Above b m) (hb : b ≤ a) : Above b (nput m a x) := by
  induction m with
  | nil => simpa [Above, nput] using hb
  | cons c r ih =>
    obtain ⟨k, v⟩ := c
    have hk : b ≤ k := h (k, v) (by simp)
    have hr : Above b r := fun c hc => h c (by simp [hc])
    simp only [nput]
    split
    · intro c hc
      rcases List.mem_cons.1 hc with rfl | hc
      · exact hb
      · exact h c hc
    · split
      · intro c hc
        rcases List.mem_cons.1 hc with rfl | hc
        · exact hb
        · exact hr c hc
      · intro c hc
        rcases List.mem_cons.1 hc with rfl | hc
        · exact hk
        · exact ih hr c hc

/-- Dropping bytes keeps the canonical form. -/
theorem filter_wf {m : List Host.Cell} (h : Memory.wf m = true) (p : Host.Cell → Bool) : Memory.wf (m.filter p) = true := by
  induction m with
  | nil => rfl
  | cons c r ih =>
    obtain ⟨k, v⟩ := c
    obtain ⟨hv, ha, hr⟩ := (wf_cons k v r).1 h
    simp only [List.filter_cons]
    split
    · exact (wf_cons _ _ _).2 ⟨hv, fun c hc => ha c (List.mem_filter.1 hc).1, ih hr⟩
    · exact ih hr

/-- A write keeps the canonical form. -/
theorem mwrite_wf {m : List Host.Cell} (h : Memory.wf m = true) (a : Nat) (x : Byte) : Memory.wf (mwrite m a x) = true := by
  unfold mwrite
  split
  · exact filter_wf h _
  · rename_i hx
    induction m with
    | nil => simpa [nput, Memory.wf] using hx
    | cons c r ih =>
      obtain ⟨k, v⟩ := c
      obtain ⟨hv, ha, hr⟩ := (wf_cons k v r).1 h
      simp only [nput]
      split
      · refine (wf_cons _ _ _).2 ⟨hx, ?_, h⟩
        intro c hc
        rcases List.mem_cons.1 hc with rfl | hc
        · assumption
        · have := ha c hc; omega
      · split
        · subst_vars
          exact (wf_cons _ _ _).2 ⟨hx, ha, hr⟩
        · exact (wf_cons _ _ _).2 ⟨hv, above_nput x ha (by omega), ih hr⟩

/-- A write of several bytes keeps the canonical form. -/
theorem mwriteN_wf {m : List Host.Cell} (h : Memory.wf m = true) (a n x : Nat) : Memory.wf (mwriteN m a n x) = true := by
  induction n generalizing m a x with
  | zero => exact h
  | succ n ih => exact ih (mwrite_wf h _ _) _ _

/-- Clearing bytes keeps the canonical form. -/
theorem mclear_wf {m : List Host.Cell} (h : Memory.wf m = true) (a n : Nat) : Memory.wf (mclear m a n) = true := filter_wf h _

/-- What a byte reads as after bytes were cleared. -/
theorem mread_mclear (m : List Host.Cell) (a n b : Nat) :
    mread (mclear m a n) b = if a ≤ b ∧ b < a + n then 0 else mread m b := by
  have h := mread_filter m (fun k => k < a || a + n ≤ k) b
  simp only [mclear]
  rw [h]
  by_cases hb : a ≤ b ∧ b < a + n
  · rw [if_pos hb]; simp; omega
  · rw [if_neg hb]; simp; omega

/-- What a byte reads as after `n` bytes of a number were written from an address. -/
theorem mread_mwriteN (m : List Host.Cell) (a n x b : Nat) :
    mread (mwriteN m a n x) b = if a ≤ b ∧ b < a + n then BitVec.ofNat 8 (x / 256 ^ (b - a)) else mread m b := by
  induction n generalizing m a x with
  | zero => simp only [mwriteN]; rw [if_neg (by omega)]
  | succ n ih =>
    rw [mwriteN, ih, mread_mwrite]
    by_cases hb : b = a
    · subst hb; simp
    · by_cases hr : a ≤ b ∧ b < a + (n + 1)
      · rw [if_pos (by omega), if_pos hr]
        obtain ⟨d, hd⟩ : ∃ d, b - a = d + 1 := ⟨b - a - 1, by omega⟩
        rw [hd, show b - (a + 1) = d by omega, pow_succ, Nat.mul_comm, Nat.div_div_eq_div_mul]
      · rw [if_neg (by omega), if_neg hb, if_neg hr]

/-- Bytes outside a write of several bytes keep their values. -/
theorem mread_mwriteN_outside (m : List Host.Cell) (a n x b : Nat) (hb : b < a ∨ a + n ≤ b) :
    mread (mwriteN m a n x) b = mread m b := by
  rw [mread_mwriteN, if_neg (by omega)]

/-- What `n` bytes read as. -/
theorem mreadN_lt (m : List Host.Cell) (a n : Nat) : mreadN m a n < 256 ^ n := by
  induction n generalizing a with
  | zero => simp [mreadN]
  | succ n ih =>
    have := ih (a + 1)
    have h2 := (mread m a).isLt
    rw [mreadN, pow_succ]; omega

theorem mreadN_congr (m m' : List Host.Cell) (a n : Nat) (h : ∀ b, a ≤ b → b < a + n → mread m b = mread m' b) :
    mreadN m a n = mreadN m' a n := by
  induction n generalizing a with
  | zero => rfl
  | succ n ih =>
    rw [mreadN, mreadN, h a (by omega) (by omega), ih (a + 1) (fun b h1 h2 => h b (by omega) (by omega))]

/-- A read of the bytes just written gives the number back. -/
theorem mreadN_mwriteN (m : List Host.Cell) (a n x : Nat) :
    mreadN (mwriteN m a n x) a n = x % 256 ^ n := by
  induction n generalizing m a x with
  | zero => simp [mreadN, Nat.mod_one]
  | succ n ih =>
    rw [mreadN, mwriteN, ih, mread_mwriteN_outside _ _ _ _ _ (by omega), mread_mwrite, if_pos rfl, BitVec.toNat_ofNat, Nat.pow_succ' (m := 256), Nat.mod_mul]

end Sys2Proof.Machine
end

