-- ==== Sys2Proof/Laws/Commit.lean ====
section
/-! SUPPORT. What the commit of a bundle can do to its group when no lane has failed. -/

namespace Sys2Proof.Machine

/-! ## Groups -/

/-- A group without its place in the program. -/
def Group.rest (g : Group) : Group := { g with frontier := [], landings := [], loops := [] }

theorem rest_arrive (h : Dword) (e : Entry) (g : Group) : (arrive h e g).rest = g.rest := rfl

theorem rest_foldl_arrive (h : Dword) (f : LaneMask × Dword → Entry) (l : List (LaneMask × Dword)) (g : Group) :
    (l.foldl (fun g x => arrive h (f x) g) g).rest = g.rest := by
  induction l generalizing g with
  | nil => rfl
  | cons a r ih => rw [List.foldl_cons, ih, rest_arrive]

theorem rest_release (h : Dword) (l : Landing) (g : Group) : (releaseLanding h l g).rest = g.rest := rfl

theorem rest_complete (h : Dword) (n : Nat) (g : Group) : (completeLandings h n g).rest = g.rest := by
  induction n generalizing g with
  | zero => rfl
  | succ n ih =>
    rw [completeLandings]
    split
    · rfl
    · rw [ih, rest_release]

theorem rest_settle (h : Dword) (g : Group) : (settle h g).rest = g.rest := rest_complete _ _ _

theorem rest_ownerCheck (g : Group) : (ownerCheck g).rest = g.rest := by
  unfold ownerCheck; split <;> rfl

theorem rest_endLanes_none (h : Dword) (g : Group) : endLanes h 0 g = g := by simp [endLanes]

/-- What lanes that end leave of their group: everything but parked lanes and reservations. -/
theorem rest_endLanes (h : Dword) (m : LaneMask) (g : Group) :
    { (endLanes h m g).rest with parked := [], resv := [] } = { g.rest with parked := [], resv := [] } := by
  unfold endLanes
  split
  · rfl
  · simp only
    rw [rest_settle]
    unfold Group.rest ownerCheck
    split <;> rfl

/-! ## States -/

theorem cg_setGroup (s : State) (g : Group) : (s.setGroup s.cur.gk g).cg = g := by simp [State.cg, State.group, State.setGroup]

theorem cg_mapCg (s : State) (f : Group → Group) : (s.mapCg f).cg = f s.cg := cg_setGroup _ _

theorem cur_mapCg (s : State) (f : Group → Group) : (s.mapCg f).cur = s.cur := rfl

theorem group_mapCg_ne (s : State) (f : Group → Group) {k : Nat} (h : k ≠ s.cur.gk) : (s.mapCg f).group k = s.group k := by
  simp [State.mapCg, State.setGroup, State.group, nget_nput, h]

theorem group_mapCur (s : State) (f : Cur → Cur) (k : Nat) : (s.mapCur f).group k = s.group k := rfl

theorem raiseFails_none (gk : Nat) (x : ParkContext) (s : State) : raiseFails gk x [] s = s := rfl

theorem mapCg_mapCg (s : State) (f g : Group → Group) : (s.mapCg f).mapCg g = s.mapCg (fun x => g (f x)) := by
  unfold State.mapCg
  rw [show (s.setGroup s.cur.gk (f s.cg)).cg = f s.cg from cg_setGroup _ _]
  simp [State.setGroup, nput_nput]

/-- A group with its registers' loop counters. -/
def Group.core (g : Group) : Group := { g.rest with parked := [], resv := [] }

theorem core_tail (h : Dword) (m : LaneMask) (l : List (LaneMask × Dword)) (f : LaneMask × Dword → Entry) (e : Entry)
    (g : Group) :
    (endLanes h m (l.foldl (fun g x => arrive h (f x) g) (arrive h e g))).core = g.core ∧
    (m = 0 → (endLanes h m (l.foldl (fun g x => arrive h (f x) g) (arrive h e g))).rest = g.rest) := by
  constructor
  · unfold Group.core
    rw [rest_endLanes, rest_foldl_arrive, rest_arrive]
  · intro hm
    rw [hm, rest_endLanes_none, rest_foldl_arrive, rest_arrive]

theorem core_prio (p q : BitVec 12) (m : LaneMask) (g : Group) :
    (if p.ult q then { g with landings := breakRule m p g.landings } else g).rest = g.rest := by split <;> rfl

theorem core_looped (s : State) :
    (loopedGroup s).rest = { s.cg.rest with regs := { s.cg.regs with
      lc := if s.cur.entry.owner || s.cur.newLoop.isSome then (passResult s).1 else s.cg.regs.lc } } := by
  unfold loopedGroup; split <;> rfl

/-- What the surviving lanes' going on leaves of their group. -/
theorem advance_group (s : State) :
    ∃ G lc, advanceLanes s = s.mapCg (fun _ => G) ∧
      G.core = { s.cg.core with regs := { s.cg.regs with lc := lc } } ∧
      (s.cur.entry.owner = false → lc = s.cg.regs.lc) ∧
      (s.cur.exited = 0 → G.rest = { s.cg.rest with regs := { s.cg.regs with lc := lc } }) := by
  unfold advanceLanes
  refine ⟨_, if s.cur.entry.owner || s.cur.newLoop.isSome then (passResult s).1 else s.cg.regs.lc, rfl, ?_, ?_, ?_⟩
  · simp only
    rw [(core_tail _ _ _ _ _ _).1, Group.core, core_prio, core_looped]
    rfl
  · intro h
    split
    · simp [passResult, h]
    · rfl
  · intro h
    simp only
    rw [(core_tail _ _ _ _ _ _).2 (by rw [h]; exact BitVec.and_zero), core_prio, core_looped]

/-- The group on the port after a commit without failures; nothing else has changed but the issue context. -/
theorem commit_clean (s : State) (hf : s.cur.fails = []) :
    ∃ G lc g, commitBundle s = (s.mapCg (fun _ => G)).mapCur g ∧ (∀ c, (g c).gk = c.gk ∧ (g c).seed = c.seed) ∧
      G.core = { s.cg.core with regs := { s.cg.regs with lc := lc } } ∧
      (s.cur.entry.owner = false → lc = s.cg.regs.lc) ∧
      (s.cur.exited = 0 → G.rest = { s.cg.rest with regs := { s.cg.regs with lc := lc } }) := by
  obtain ⟨G, lc, hG, h1, h2, h3⟩ := advance_group s
  unfold commitBundle
  simp only [hf, raiseFails_none, hG, mapCg_mapCg]
  refine ⟨_, lc, _, rfl, fun _ => ⟨rfl, rfl⟩, ?_, h2, ?_⟩
  · rw [← h1, Group.core, rest_settle, rest_ownerCheck]; rfl
  · intro h; rw [← h3 h, rest_settle, rest_ownerCheck]; rfl

end Sys2Proof.Machine
end

