-- ==== Sys2Proof/Laws/Image.lean ====
section
/-! SUPPORT. Elements of register images: what an image built from elements reads as, and lanes chosen from two images. -/

namespace Sys2Proof.Machine

theorem packNat_lt (w : Nat) (f : Nat → Nat) (n : Nat) : packNat w f n < 2 ^ (w * n) := by
  induction n with
  | zero => simp [packNat]
  | succ n ih =>
    rw [packNat, Nat.shiftLeft_eq, Nat.mul_succ, Nat.pow_add]
    have h : f n % 2 ^ w < 2 ^ w := Nat.mod_lt _ (by positivity)
    calc _ < 2 ^ (w * n) + f n % 2 ^ w * 2 ^ (w * n) := by omega
      _ = (f n % 2 ^ w + 1) * 2 ^ (w * n) := by ring
      _ ≤ 2 ^ w * 2 ^ (w * n) := Nat.mul_le_mul_right _ h
      _ = _ := by ring

theorem packNat_elem (w : Nat) (f : Nat → Nat) (n e : Nat) (h : e < n) :
    (packNat w f n >>> (w * e)) % 2 ^ w = f e % 2 ^ w := by
  induction n with
  | zero => omega
  | succ n ih =>
    rw [packNat, Nat.shiftRight_eq_div_pow, Nat.shiftLeft_eq]
    by_cases he : e = n
    · subst he
      rw [Nat.add_mul_div_right _ _ (by positivity), Nat.div_eq_of_lt (packNat_lt _ _ _), Nat.zero_add, Nat.mod_mod]
    · have hlt : e < n := by omega
      have : 2 ^ (w * n) = 2 ^ (w * e) * (2 ^ w * 2 ^ (w * (n - e - 1))) := by
        rw [← Nat.pow_add, ← Nat.pow_add]; congr 1
        obtain ⟨d, rfl⟩ : ∃ d, n = e + 1 + d := ⟨n - e - 1, by omega⟩
        rw [show e + 1 + d - e - 1 = d by omega]; ring
      rw [this, show f n % 2 ^ w * (2 ^ (w * e) * (2 ^ w * 2 ^ (w * (n - e - 1)))) =
        f n % 2 ^ w * 2 ^ (w * (n - e - 1)) * 2 ^ w * 2 ^ (w * e) by ring,
        Nat.add_mul_div_right _ _ (by positivity), Nat.add_mul_mod_self_right, ← Nat.shiftRight_eq_div_pow]
      exact ih hlt

/-- The widths of elements. -/
def goodWidth (w : Nat) : Prop := w = 8 ∨ w = 16 ∨ w = 32 ∨ w = 64

theorem elem_image {w : Nat} (hw : goodWidth w) (f : Nat → Nat) {e : Nat} (h : e < 2048 / w) :
    elem (image w f) w e = f e % 2 ^ w := by
  have hlt := packNat_lt w f (2048 / w)
  have h2 : w * (2048 / w) = 2048 := by rcases hw with rfl | rfl | rfl | rfl <;> rfl
  rw [h2] at hlt
  rw [elem, image, BitVec.toNat_ofNat, Nat.mod_eq_of_lt hlt, packNat_elem _ _ _ _ h]

theorem elem_lt (x : VReg) (w e : Nat) : elem x w e < 2 ^ w := Nat.mod_lt _ (by positivity)

theorem elem_testBit (x : VReg) (w e j : Nat) : (elem x w e).testBit j = (decide (j < w) && x.getLsbD (w * e + j)) := by
  rw [elem, Nat.testBit_mod_two_pow, Nat.testBit_shiftRight, BitVec.getLsbD]

theorem laneImage_bit (m : LaneMask) (i : Nat) (h : i < 2048) : (laneImage m).getLsbD i = m.getLsbD (i / 64) := by
  have he : i / 64 < 2048 / 64 := by omega
  have hj : i % 64 < 64 := Nat.mod_lt _ (by omega)
  have h1 := elem_testBit (laneImage m) 64 (i / 64) (i % 64)
  rw [Nat.div_add_mod, decide_eq_true hj, Bool.true_and] at h1
  rw [← h1, laneImage, elem_image (by simp [goodWidth]) _ he]
  by_cases hm : m.getLsbD (i / 64) = true
  · rw [if_pos hm, hm, Nat.mod_eq_of_lt (by omega), Nat.testBit_two_pow_sub_one, decide_eq_true hj]
  · simp only [Bool.not_eq_true] at hm
    simp [hm]

theorem lane_div {w e j : Nat} (hw : goodWidth w) (hj : j < w) : (w * e + j) / 64 = laneOf w e := by
  rw [laneOf]
  rcases hw with rfl | rfl | rfl | rfl <;> omega

theorem elem_index_lt {w e j : Nat} (hw : goodWidth w) (he : e < 2048 / w) (hj : j < w) : w * e + j < 2048 := by
  rcases hw with rfl | rfl | rfl | rfl <;> omega

/-- Lanes of a mask come from the new image, the others keep the old one. -/
theorem elem_mixLanes {w : Nat} (hw : goodWidth w) (m : LaneMask) (old new : VReg) {e : Nat} (h : e < 2048 / w) :
    elem (mixLanes m old new) w e = if m.getLsbD (laneOf w e) then elem new w e else elem old w e := by
  apply Nat.eq_of_testBit_eq
  intro j
  by_cases hj : j < w
  · have hi := elem_index_lt hw h hj
    have hl := lane_div (e := e) hw hj
    rw [elem_testBit, mixLanes, BitVec.getLsbD_or, BitVec.getLsbD_and, BitVec.getLsbD_and, BitVec.getLsbD_not,
      laneImage_bit _ _ hi, hl]
    by_cases hm : m.getLsbD (laneOf w e) = true
    · simp [hm, elem_testBit, hj]
    · simp only [Bool.not_eq_true] at hm
      simp [hm, elem_testBit, hj, hi]
  · split <;> simp [elem_testBit, hj]

/-- Lanes outside a mask hold 0. -/
theorem elem_masked {w : Nat} (hw : goodWidth w) (m : LaneMask) (x : VReg) {e : Nat} (h : e < 2048 / w) :
    elem (x &&& laneImage m) w e = if m.getLsbD (laneOf w e) then elem x w e else 0 := by
  apply Nat.eq_of_testBit_eq
  intro j
  by_cases hj : j < w
  · have hi := elem_index_lt hw h hj
    have hl := lane_div (e := e) hw hj
    rw [elem_testBit, BitVec.getLsbD_and, laneImage_bit _ _ hi, hl]
    by_cases hm : m.getLsbD (laneOf w e) = true
    · simp [hm, elem_testBit, hj]
    · simp only [Bool.not_eq_true] at hm
      simp [hm]
  · split <;> simp [elem_testBit, hj]

theorem ity_goodWidth (t : BitVec 3) : goodWidth (ity t).w := by
  have h : t.toNat % 4 = 0 ∨ t.toNat % 4 = 1 ∨ t.toNat % 4 = 2 ∨ t.toNat % 4 = 3 := by omega
  rcases h with h | h | h | h <;> simp [ity, goodWidth, h]

theorem widthOf_goodWidth (w : BitVec 2) : goodWidth (widthOf w) := by
  have h : w.toNat = 0 ∨ w.toNat = 1 ∨ w.toNat = 2 ∨ w.toNat = 3 := by omega
  rcases h with h | h | h | h <;> simp [widthOf, goodWidth, h]

theorem foldl_or_bit (act : LaneMask) (w : Nat) (f : Nat → BitVec 8) (i : Nat) (l : List Nat) (g0 : BitVec 8) :
    (l.foldl (fun g e => if act.getLsbD (laneOf w e) then g ||| f e else g) g0).getLsbD i = true ↔
      g0.getLsbD i = true ∨ ∃ e ∈ l, act.getLsbD (laneOf w e) = true ∧ (f e).getLsbD i = true := by
  induction l generalizing g0 with
  | nil => simp
  | cons a r ih =>
    rw [List.foldl_cons, ih]
    by_cases ha : act.getLsbD (laneOf w a) = true
    · simp only [ha, if_true, BitVec.getLsbD_or, Bool.or_eq_true, List.mem_cons, exists_eq_or_imp, true_and]
      tauto
    · simp only [ha, List.mem_cons, exists_eq_or_imp, false_and, false_or]
      simp

/-- The flags of element results are those of the elements of active lanes. -/
theorem emap_flags (w : Nat) (act : LaneMask) (f : Nat → Nat × BitVec 8) (i : Nat) :
    (emap w act f).2.getLsbD i = true ↔
      ∃ e, e < 2048 / w ∧ act.getLsbD (laneOf w e) = true ∧ (f e).2.getLsbD i = true := by
  rw [emap]
  simp only
  rw [foldl_or_bit act w (fun e => (f e).2)]
  simp [List.mem_range]

theorem elem_emap {w : Nat} (hw : goodWidth w) (act : LaneMask) (f : Nat → Nat × BitVec 8) {e : Nat} (h : e < 2048 / w) :
    elem (emap w act f).1 w e = (f e).1 % 2 ^ w := elem_image hw _ h

end Sys2Proof.Machine
end

