-- ==== Sys2Proof/Laws/State.lean ====
section
/-! SUPPORT. What each update of the state leaves alone, field by field, and what a read after it gives. -/

namespace Sys2Proof.Machine

/-! ## setGroup -/

@[simp] theorem State.setGroup_teams (s : State) (k : Nat) (x : Group) : (s.setGroup k x).teams = s.teams := rfl
@[simp] theorem State.setGroup_grids (s : State) (k : Nat) (x : Group) : (s.setGroup k x).grids = s.grids := rfl
@[simp] theorem State.setGroup_quads (s : State) (k : Nat) (x : Group) : (s.setGroup k x).quads = s.quads := rfl
@[simp] theorem State.setGroup_caches (s : State) (k : Nat) (x : Group) : (s.setGroup k x).caches = s.caches := rfl
@[simp] theorem State.setGroup_frames (s : State) (k : Nat) (x : Group) : (s.setGroup k x).frames = s.frames := rfl
@[simp] theorem State.setGroup_mem (s : State) (k : Nat) (x : Group) : (s.setGroup k x).mem = s.mem := rfl
@[simp] theorem State.setGroup_tags (s : State) (k : Nat) (x : Group) : (s.setGroup k x).tags = s.tags := rfl
@[simp] theorem State.setGroup_hostMem (s : State) (k : Nat) (x : Group) : (s.setGroup k x).hostMem = s.hostMem := rfl
@[simp] theorem State.setGroup_tiles (s : State) (k : Nat) (x : Group) : (s.setGroup k x).tiles = s.tiles := rfl
@[simp] theorem State.setGroup_seqBanks (s : State) (k : Nat) (x : Group) : (s.setGroup k x).seqBanks = s.seqBanks := rfl
@[simp] theorem State.setGroup_reqs (s : State) (k : Nat) (x : Group) : (s.setGroup k x).reqs = s.reqs := rfl
@[simp] theorem State.setGroup_engines (s : State) (k : Nat) (x : Group) : (s.setGroup k x).engines = s.engines := rfl
@[simp] theorem State.setGroup_bar0 (s : State) (k : Nat) (x : Group) : (s.setGroup k x).bar0 = s.bar0 := rfl
@[simp] theorem State.setGroup_harts (s : State) (k : Nat) (x : Group) : (s.setGroup k x).harts = s.harts := rfl
@[simp] theorem State.setGroup_clusters (s : State) (k : Nat) (x : Group) : (s.setGroup k x).clusters = s.clusters := rfl
@[simp] theorem State.setGroup_budgets (s : State) (k : Nat) (x : Group) : (s.setGroup k x).budgets = s.budgets := rfl
@[simp] theorem State.setGroup_recs (s : State) (k : Nat) (x : Group) : (s.setGroup k x).recs = s.recs := rfl
@[simp] theorem State.setGroup_cur (s : State) (k : Nat) (x : Group) : (s.setGroup k x).cur = s.cur := rfl
@[simp] theorem State.setGroup_free (s : State) (k : Nat) (x : Group) : (s.setGroup k x).free = s.free := rfl
@[simp] theorem State.setGroup_schedule (s : State) (k : Nat) (x : Group) : (s.setGroup k x).schedule = s.schedule := rfl
@[simp] theorem State.setGroup_group_same (s : State) (k : Nat) (x : Group) : (s.setGroup k x).group k = x := nget_nput_same _ _ _ _
theorem State.setGroup_group_ne (s : State) (k : Nat) (x : Group) {j : Nat} (h : j ≠ k) : (s.setGroup k x).group j = s.group j := nget_nput_ne _ _ _ h

@[simp] theorem State.setGroup_team (s : State) (k : Nat) (x : Group) (j : Nat) : (s.setGroup k x).team j = s.team j := rfl
@[simp] theorem State.setGroup_grid (s : State) (k : Nat) (x : Group) (j : BitVec 32) : (s.setGroup k x).grid j = s.grid j := rfl
@[simp] theorem State.setGroup_quad (s : State) (k : Nat) (x : Group) (j : Nat) : (s.setGroup k x).quad j = s.quad j := rfl
@[simp] theorem State.setGroup_cache (s : State) (k : Nat) (x : Group) (j : Nat) : (s.setGroup k x).cache j = s.cache j := rfl
@[simp] theorem State.setGroup_frame (s : State) (k : Nat) (x : Group) (j : Nat) : (s.setGroup k x).frame j = s.frame j := rfl
@[simp] theorem State.setGroup_tile (s : State) (k : Nat) (x : Group) (j : Nat) : (s.setGroup k x).tile j = s.tile j := rfl
@[simp] theorem State.setGroup_engine (s : State) (k : Nat) (x : Group) (j : Nat) : (s.setGroup k x).engine j = s.engine j := rfl

/-! ## setTeam -/

@[simp] theorem State.setTeam_groups (s : State) (k : Nat) (x : Team) : (s.setTeam k x).groups = s.groups := rfl
@[simp] theorem State.setTeam_grids (s : State) (k : Nat) (x : Team) : (s.setTeam k x).grids = s.grids := rfl
@[simp] theorem State.setTeam_quads (s : State) (k : Nat) (x : Team) : (s.setTeam k x).quads = s.quads := rfl
@[simp] theorem State.setTeam_caches (s : State) (k : Nat) (x : Team) : (s.setTeam k x).caches = s.caches := rfl
@[simp] theorem State.setTeam_frames (s : State) (k : Nat) (x : Team) : (s.setTeam k x).frames = s.frames := rfl
@[simp] theorem State.setTeam_mem (s : State) (k : Nat) (x : Team) : (s.setTeam k x).mem = s.mem := rfl
@[simp] theorem State.setTeam_tags (s : State) (k : Nat) (x : Team) : (s.setTeam k x).tags = s.tags := rfl
@[simp] theorem State.setTeam_hostMem (s : State) (k : Nat) (x : Team) : (s.setTeam k x).hostMem = s.hostMem := rfl
@[simp] theorem State.setTeam_tiles (s : State) (k : Nat) (x : Team) : (s.setTeam k x).tiles = s.tiles := rfl
@[simp] theorem State.setTeam_seqBanks (s : State) (k : Nat) (x : Team) : (s.setTeam k x).seqBanks = s.seqBanks := rfl
@[simp] theorem State.setTeam_reqs (s : State) (k : Nat) (x : Team) : (s.setTeam k x).reqs = s.reqs := rfl
@[simp] theorem State.setTeam_engines (s : State) (k : Nat) (x : Team) : (s.setTeam k x).engines = s.engines := rfl
@[simp] theorem State.setTeam_bar0 (s : State) (k : Nat) (x : Team) : (s.setTeam k x).bar0 = s.bar0 := rfl
@[simp] theorem State.setTeam_harts (s : State) (k : Nat) (x : Team) : (s.setTeam k x).harts = s.harts := rfl
@[simp] theorem State.setTeam_clusters (s : State) (k : Nat) (x : Team) : (s.setTeam k x).clusters = s.clusters := rfl
@[simp] theorem State.setTeam_budgets (s : State) (k : Nat) (x : Team) : (s.setTeam k x).budgets = s.budgets := rfl
@[simp] theorem State.setTeam_recs (s : State) (k : Nat) (x : Team) : (s.setTeam k x).recs = s.recs := rfl
@[simp] theorem State.setTeam_cur (s : State) (k : Nat) (x : Team) : (s.setTeam k x).cur = s.cur := rfl
@[simp] theorem State.setTeam_free (s : State) (k : Nat) (x : Team) : (s.setTeam k x).free = s.free := rfl
@[simp] theorem State.setTeam_schedule (s : State) (k : Nat) (x : Team) : (s.setTeam k x).schedule = s.schedule := rfl
@[simp] theorem State.setTeam_team_same (s : State) (k : Nat) (x : Team) : (s.setTeam k x).team k = x := nget_nput_same _ _ _ _
theorem State.setTeam_team_ne (s : State) (k : Nat) (x : Team) {j : Nat} (h : j ≠ k) : (s.setTeam k x).team j = s.team j := nget_nput_ne _ _ _ h

@[simp] theorem State.setTeam_group (s : State) (k : Nat) (x : Team) (j : Nat) : (s.setTeam k x).group j = s.group j := rfl
@[simp] theorem State.setTeam_grid (s : State) (k : Nat) (x : Team) (j : BitVec 32) : (s.setTeam k x).grid j = s.grid j := rfl
@[simp] theorem State.setTeam_quad (s : State) (k : Nat) (x : Team) (j : Nat) : (s.setTeam k x).quad j = s.quad j := rfl
@[simp] theorem State.setTeam_cache (s : State) (k : Nat) (x : Team) (j : Nat) : (s.setTeam k x).cache j = s.cache j := rfl
@[simp] theorem State.setTeam_frame (s : State) (k : Nat) (x : Team) (j : Nat) : (s.setTeam k x).frame j = s.frame j := rfl
@[simp] theorem State.setTeam_tile (s : State) (k : Nat) (x : Team) (j : Nat) : (s.setTeam k x).tile j = s.tile j := rfl
@[simp] theorem State.setTeam_engine (s : State) (k : Nat) (x : Team) (j : Nat) : (s.setTeam k x).engine j = s.engine j := rfl

/-! ## setGrid -/

@[simp] theorem State.setGrid_groups (s : State) (k : BitVec 32) (x : Grid) : (s.setGrid k x).groups = s.groups := rfl
@[simp] theorem State.setGrid_teams (s : State) (k : BitVec 32) (x : Grid) : (s.setGrid k x).teams = s.teams := rfl
@[simp] theorem State.setGrid_quads (s : State) (k : BitVec 32) (x : Grid) : (s.setGrid k x).quads = s.quads := rfl
@[simp] theorem State.setGrid_caches (s : State) (k : BitVec 32) (x : Grid) : (s.setGrid k x).caches = s.caches := rfl
@[simp] theorem State.setGrid_frames (s : State) (k : BitVec 32) (x : Grid) : (s.setGrid k x).frames = s.frames := rfl
@[simp] theorem State.setGrid_mem (s : State) (k : BitVec 32) (x : Grid) : (s.setGrid k x).mem = s.mem := rfl
@[simp] theorem State.setGrid_tags (s : State) (k : BitVec 32) (x : Grid) : (s.setGrid k x).tags = s.tags := rfl
@[simp] theorem State.setGrid_hostMem (s : State) (k : BitVec 32) (x : Grid) : (s.setGrid k x).hostMem = s.hostMem := rfl
@[simp] theorem State.setGrid_tiles (s : State) (k : BitVec 32) (x : Grid) : (s.setGrid k x).tiles = s.tiles := rfl
@[simp] theorem State.setGrid_seqBanks (s : State) (k : BitVec 32) (x : Grid) : (s.setGrid k x).seqBanks = s.seqBanks := rfl
@[simp] theorem State.setGrid_reqs (s : State) (k : BitVec 32) (x : Grid) : (s.setGrid k x).reqs = s.reqs := rfl
@[simp] theorem State.setGrid_engines (s : State) (k : BitVec 32) (x : Grid) : (s.setGrid k x).engines = s.engines := rfl
@[simp] theorem State.setGrid_bar0 (s : State) (k : BitVec 32) (x : Grid) : (s.setGrid k x).bar0 = s.bar0 := rfl
@[simp] theorem State.setGrid_harts (s : State) (k : BitVec 32) (x : Grid) : (s.setGrid k x).harts = s.harts := rfl
@[simp] theorem State.setGrid_clusters (s : State) (k : BitVec 32) (x : Grid) : (s.setGrid k x).clusters = s.clusters := rfl
@[simp] theorem State.setGrid_budgets (s : State) (k : BitVec 32) (x : Grid) : (s.setGrid k x).budgets = s.budgets := rfl
@[simp] theorem State.setGrid_recs (s : State) (k : BitVec 32) (x : Grid) : (s.setGrid k x).recs = s.recs := rfl
@[simp] theorem State.setGrid_cur (s : State) (k : BitVec 32) (x : Grid) : (s.setGrid k x).cur = s.cur := rfl
@[simp] theorem State.setGrid_free (s : State) (k : BitVec 32) (x : Grid) : (s.setGrid k x).free = s.free := rfl
@[simp] theorem State.setGrid_schedule (s : State) (k : BitVec 32) (x : Grid) : (s.setGrid k x).schedule = s.schedule := rfl
@[simp] theorem State.setGrid_grid_same (s : State) (k : BitVec 32) (x : Grid) : (s.setGrid k x).grid k = x := nget_nput_same _ _ _ _
theorem State.setGrid_grid_ne (s : State) (k : BitVec 32) (x : Grid) {j : BitVec 32} (h : j ≠ k) : (s.setGrid k x).grid j = s.grid j :=
  nget_nput_ne _ _ _ (fun e => h (BitVec.eq_of_toNat_eq e))

@[simp] theorem State.setGrid_group (s : State) (k : BitVec 32) (x : Grid) (j : Nat) : (s.setGrid k x).group j = s.group j := rfl
@[simp] theorem State.setGrid_team (s : State) (k : BitVec 32) (x : Grid) (j : Nat) : (s.setGrid k x).team j = s.team j := rfl
@[simp] theorem State.setGrid_quad (s : State) (k : BitVec 32) (x : Grid) (j : Nat) : (s.setGrid k x).quad j = s.quad j := rfl
@[simp] theorem State.setGrid_cache (s : State) (k : BitVec 32) (x : Grid) (j : Nat) : (s.setGrid k x).cache j = s.cache j := rfl
@[simp] theorem State.setGrid_frame (s : State) (k : BitVec 32) (x : Grid) (j : Nat) : (s.setGrid k x).frame j = s.frame j := rfl
@[simp] theorem State.setGrid_tile (s : State) (k : BitVec 32) (x : Grid) (j : Nat) : (s.setGrid k x).tile j = s.tile j := rfl
@[simp] theorem State.setGrid_engine (s : State) (k : BitVec 32) (x : Grid) (j : Nat) : (s.setGrid k x).engine j = s.engine j := rfl

/-! ## setQuad -/

@[simp] theorem State.setQuad_groups (s : State) (k : Nat) (x : Quad) : (s.setQuad k x).groups = s.groups := rfl
@[simp] theorem State.setQuad_teams (s : State) (k : Nat) (x : Quad) : (s.setQuad k x).teams = s.teams := rfl
@[simp] theorem State.setQuad_grids (s : State) (k : Nat) (x : Quad) : (s.setQuad k x).grids = s.grids := rfl
@[simp] theorem State.setQuad_caches (s : State) (k : Nat) (x : Quad) : (s.setQuad k x).caches = s.caches := rfl
@[simp] theorem State.setQuad_frames (s : State) (k : Nat) (x : Quad) : (s.setQuad k x).frames = s.frames := rfl
@[simp] theorem State.setQuad_mem (s : State) (k : Nat) (x : Quad) : (s.setQuad k x).mem = s.mem := rfl
@[simp] theorem State.setQuad_tags (s : State) (k : Nat) (x : Quad) : (s.setQuad k x).tags = s.tags := rfl
@[simp] theorem State.setQuad_hostMem (s : State) (k : Nat) (x : Quad) : (s.setQuad k x).hostMem = s.hostMem := rfl
@[simp] theorem State.setQuad_tiles (s : State) (k : Nat) (x : Quad) : (s.setQuad k x).tiles = s.tiles := rfl
@[simp] theorem State.setQuad_seqBanks (s : State) (k : Nat) (x : Quad) : (s.setQuad k x).seqBanks = s.seqBanks := rfl
@[simp] theorem State.setQuad_reqs (s : State) (k : Nat) (x : Quad) : (s.setQuad k x).reqs = s.reqs := rfl
@[simp] theorem State.setQuad_engines (s : State) (k : Nat) (x : Quad) : (s.setQuad k x).engines = s.engines := rfl
@[simp] theorem State.setQuad_bar0 (s : State) (k : Nat) (x : Quad) : (s.setQuad k x).bar0 = s.bar0 := rfl
@[simp] theorem State.setQuad_harts (s : State) (k : Nat) (x : Quad) : (s.setQuad k x).harts = s.harts := rfl
@[simp] theorem State.setQuad_clusters (s : State) (k : Nat) (x : Quad) : (s.setQuad k x).clusters = s.clusters := rfl
@[simp] theorem State.setQuad_budgets (s : State) (k : Nat) (x : Quad) : (s.setQuad k x).budgets = s.budgets := rfl
@[simp] theorem State.setQuad_recs (s : State) (k : Nat) (x : Quad) : (s.setQuad k x).recs = s.recs := rfl
@[simp] theorem State.setQuad_cur (s : State) (k : Nat) (x : Quad) : (s.setQuad k x).cur = s.cur := rfl
@[simp] theorem State.setQuad_free (s : State) (k : Nat) (x : Quad) : (s.setQuad k x).free = s.free := rfl
@[simp] theorem State.setQuad_schedule (s : State) (k : Nat) (x : Quad) : (s.setQuad k x).schedule = s.schedule := rfl
@[simp] theorem State.setQuad_quad_same (s : State) (k : Nat) (x : Quad) : (s.setQuad k x).quad k = x := nget_nput_same _ _ _ _
theorem State.setQuad_quad_ne (s : State) (k : Nat) (x : Quad) {j : Nat} (h : j ≠ k) : (s.setQuad k x).quad j = s.quad j := nget_nput_ne _ _ _ h

@[simp] theorem State.setQuad_group (s : State) (k : Nat) (x : Quad) (j : Nat) : (s.setQuad k x).group j = s.group j := rfl
@[simp] theorem State.setQuad_team (s : State) (k : Nat) (x : Quad) (j : Nat) : (s.setQuad k x).team j = s.team j := rfl
@[simp] theorem State.setQuad_grid (s : State) (k : Nat) (x : Quad) (j : BitVec 32) : (s.setQuad k x).grid j = s.grid j := rfl
@[simp] theorem State.setQuad_cache (s : State) (k : Nat) (x : Quad) (j : Nat) : (s.setQuad k x).cache j = s.cache j := rfl
@[simp] theorem State.setQuad_frame (s : State) (k : Nat) (x : Quad) (j : Nat) : (s.setQuad k x).frame j = s.frame j := rfl
@[simp] theorem State.setQuad_tile (s : State) (k : Nat) (x : Quad) (j : Nat) : (s.setQuad k x).tile j = s.tile j := rfl
@[simp] theorem State.setQuad_engine (s : State) (k : Nat) (x : Quad) (j : Nat) : (s.setQuad k x).engine j = s.engine j := rfl

/-! ## setCache -/

@[simp] theorem State.setCache_groups (s : State) (k : Nat) (x : Caches) : (s.setCache k x).groups = s.groups := rfl
@[simp] theorem State.setCache_teams (s : State) (k : Nat) (x : Caches) : (s.setCache k x).teams = s.teams := rfl
@[simp] theorem State.setCache_grids (s : State) (k : Nat) (x : Caches) : (s.setCache k x).grids = s.grids := rfl
@[simp] theorem State.setCache_quads (s : State) (k : Nat) (x : Caches) : (s.setCache k x).quads = s.quads := rfl
@[simp] theorem State.setCache_frames (s : State) (k : Nat) (x : Caches) : (s.setCache k x).frames = s.frames := rfl
@[simp] theorem State.setCache_mem (s : State) (k : Nat) (x : Caches) : (s.setCache k x).mem = s.mem := rfl
@[simp] theorem State.setCache_tags (s : State) (k : Nat) (x : Caches) : (s.setCache k x).tags = s.tags := rfl
@[simp] theorem State.setCache_hostMem (s : State) (k : Nat) (x : Caches) : (s.setCache k x).hostMem = s.hostMem := rfl
@[simp] theorem State.setCache_tiles (s : State) (k : Nat) (x : Caches) : (s.setCache k x).tiles = s.tiles := rfl
@[simp] theorem State.setCache_seqBanks (s : State) (k : Nat) (x : Caches) : (s.setCache k x).seqBanks = s.seqBanks := rfl
@[simp] theorem State.setCache_reqs (s : State) (k : Nat) (x : Caches) : (s.setCache k x).reqs = s.reqs := rfl
@[simp] theorem State.setCache_engines (s : State) (k : Nat) (x : Caches) : (s.setCache k x).engines = s.engines := rfl
@[simp] theorem State.setCache_bar0 (s : State) (k : Nat) (x : Caches) : (s.setCache k x).bar0 = s.bar0 := rfl
@[simp] theorem State.setCache_harts (s : State) (k : Nat) (x : Caches) : (s.setCache k x).harts = s.harts := rfl
@[simp] theorem State.setCache_clusters (s : State) (k : Nat) (x : Caches) : (s.setCache k x).clusters = s.clusters := rfl
@[simp] theorem State.setCache_budgets (s : State) (k : Nat) (x : Caches) : (s.setCache k x).budgets = s.budgets := rfl
@[simp] theorem State.setCache_recs (s : State) (k : Nat) (x : Caches) : (s.setCache k x).recs = s.recs := rfl
@[simp] theorem State.setCache_cur (s : State) (k : Nat) (x : Caches) : (s.setCache k x).cur = s.cur := rfl
@[simp] theorem State.setCache_free (s : State) (k : Nat) (x : Caches) : (s.setCache k x).free = s.free := rfl
@[simp] theorem State.setCache_schedule (s : State) (k : Nat) (x : Caches) : (s.setCache k x).schedule = s.schedule := rfl
@[simp] theorem State.setCache_cache_same (s : State) (k : Nat) (x : Caches) : (s.setCache k x).cache k = x := nget_nput_same _ _ _ _
theorem State.setCache_cache_ne (s : State) (k : Nat) (x : Caches) {j : Nat} (h : j ≠ k) : (s.setCache k x).cache j = s.cache j := nget_nput_ne _ _ _ h

@[simp] theorem State.setCache_group (s : State) (k : Nat) (x : Caches) (j : Nat) : (s.setCache k x).group j = s.group j := rfl
@[simp] theorem State.setCache_team (s : State) (k : Nat) (x : Caches) (j : Nat) : (s.setCache k x).team j = s.team j := rfl
@[simp] theorem State.setCache_grid (s : State) (k : Nat) (x : Caches) (j : BitVec 32) : (s.setCache k x).grid j = s.grid j := rfl
@[simp] theorem State.setCache_quad (s : State) (k : Nat) (x : Caches) (j : Nat) : (s.setCache k x).quad j = s.quad j := rfl
@[simp] theorem State.setCache_frame (s : State) (k : Nat) (x : Caches) (j : Nat) : (s.setCache k x).frame j = s.frame j := rfl
@[simp] theorem State.setCache_tile (s : State) (k : Nat) (x : Caches) (j : Nat) : (s.setCache k x).tile j = s.tile j := rfl
@[simp] theorem State.setCache_engine (s : State) (k : Nat) (x : Caches) (j : Nat) : (s.setCache k x).engine j = s.engine j := rfl

/-! ## setFrame -/

@[simp] theorem State.setFrame_groups (s : State) (k : Nat) (x : Frame) : (s.setFrame k x).groups = s.groups := rfl
@[simp] theorem State.setFrame_teams (s : State) (k : Nat) (x : Frame) : (s.setFrame k x).teams = s.teams := rfl
@[simp] theorem State.setFrame_grids (s : State) (k : Nat) (x : Frame) : (s.setFrame k x).grids = s.grids := rfl
@[simp] theorem State.setFrame_quads (s : State) (k : Nat) (x : Frame) : (s.setFrame k x).quads = s.quads := rfl
@[simp] theorem State.setFrame_caches (s : State) (k : Nat) (x : Frame) : (s.setFrame k x).caches = s.caches := rfl
@[simp] theorem State.setFrame_mem (s : State) (k : Nat) (x : Frame) : (s.setFrame k x).mem = s.mem := rfl
@[simp] theorem State.setFrame_tags (s : State) (k : Nat) (x : Frame) : (s.setFrame k x).tags = s.tags := rfl
@[simp] theorem State.setFrame_hostMem (s : State) (k : Nat) (x : Frame) : (s.setFrame k x).hostMem = s.hostMem := rfl
@[simp] theorem State.setFrame_tiles (s : State) (k : Nat) (x : Frame) : (s.setFrame k x).tiles = s.tiles := rfl
@[simp] theorem State.setFrame_seqBanks (s : State) (k : Nat) (x : Frame) : (s.setFrame k x).seqBanks = s.seqBanks := rfl
@[simp] theorem State.setFrame_reqs (s : State) (k : Nat) (x : Frame) : (s.setFrame k x).reqs = s.reqs := rfl
@[simp] theorem State.setFrame_engines (s : State) (k : Nat) (x : Frame) : (s.setFrame k x).engines = s.engines := rfl
@[simp] theorem State.setFrame_bar0 (s : State) (k : Nat) (x : Frame) : (s.setFrame k x).bar0 = s.bar0 := rfl
@[simp] theorem State.setFrame_harts (s : State) (k : Nat) (x : Frame) : (s.setFrame k x).harts = s.harts := rfl
@[simp] theorem State.setFrame_clusters (s : State) (k : Nat) (x : Frame) : (s.setFrame k x).clusters = s.clusters := rfl
@[simp] theorem State.setFrame_budgets (s : State) (k : Nat) (x : Frame) : (s.setFrame k x).budgets = s.budgets := rfl
@[simp] theorem State.setFrame_recs (s : State) (k : Nat) (x : Frame) : (s.setFrame k x).recs = s.recs := rfl
@[simp] theorem State.setFrame_cur (s : State) (k : Nat) (x : Frame) : (s.setFrame k x).cur = s.cur := rfl
@[simp] theorem State.setFrame_free (s : State) (k : Nat) (x : Frame) : (s.setFrame k x).free = s.free := rfl
@[simp] theorem State.setFrame_schedule (s : State) (k : Nat) (x : Frame) : (s.setFrame k x).schedule = s.schedule := rfl
@[simp] theorem State.setFrame_frame_same (s : State) (k : Nat) (x : Frame) : (s.setFrame k x).frame k = x := nget_nput_same _ _ _ _
theorem State.setFrame_frame_ne (s : State) (k : Nat) (x : Frame) {j : Nat} (h : j ≠ k) : (s.setFrame k x).frame j = s.frame j := nget_nput_ne _ _ _ h

@[simp] theorem State.setFrame_group (s : State) (k : Nat) (x : Frame) (j : Nat) : (s.setFrame k x).group j = s.group j := rfl
@[simp] theorem State.setFrame_team (s : State) (k : Nat) (x : Frame) (j : Nat) : (s.setFrame k x).team j = s.team j := rfl
@[simp] theorem State.setFrame_grid (s : State) (k : Nat) (x : Frame) (j : BitVec 32) : (s.setFrame k x).grid j = s.grid j := rfl
@[simp] theorem State.setFrame_quad (s : State) (k : Nat) (x : Frame) (j : Nat) : (s.setFrame k x).quad j = s.quad j := rfl
@[simp] theorem State.setFrame_cache (s : State) (k : Nat) (x : Frame) (j : Nat) : (s.setFrame k x).cache j = s.cache j := rfl
@[simp] theorem State.setFrame_tile (s : State) (k : Nat) (x : Frame) (j : Nat) : (s.setFrame k x).tile j = s.tile j := rfl
@[simp] theorem State.setFrame_engine (s : State) (k : Nat) (x : Frame) (j : Nat) : (s.setFrame k x).engine j = s.engine j := rfl

/-! ## setTile -/

@[simp] theorem State.setTile_groups (s : State) (k : Nat) (x : Tile) : (s.setTile k x).groups = s.groups := rfl
@[simp] theorem State.setTile_teams (s : State) (k : Nat) (x : Tile) : (s.setTile k x).teams = s.teams := rfl
@[simp] theorem State.setTile_grids (s : State) (k : Nat) (x : Tile) : (s.setTile k x).grids = s.grids := rfl
@[simp] theorem State.setTile_quads (s : State) (k : Nat) (x : Tile) : (s.setTile k x).quads = s.quads := rfl
@[simp] theorem State.setTile_caches (s : State) (k : Nat) (x : Tile) : (s.setTile k x).caches = s.caches := rfl
@[simp] theorem State.setTile_frames (s : State) (k : Nat) (x : Tile) : (s.setTile k x).frames = s.frames := rfl
@[simp] theorem State.setTile_mem (s : State) (k : Nat) (x : Tile) : (s.setTile k x).mem = s.mem := rfl
@[simp] theorem State.setTile_tags (s : State) (k : Nat) (x : Tile) : (s.setTile k x).tags = s.tags := rfl
@[simp] theorem State.setTile_hostMem (s : State) (k : Nat) (x : Tile) : (s.setTile k x).hostMem = s.hostMem := rfl
@[simp] theorem State.setTile_seqBanks (s : State) (k : Nat) (x : Tile) : (s.setTile k x).seqBanks = s.seqBanks := rfl
@[simp] theorem State.setTile_reqs (s : State) (k : Nat) (x : Tile) : (s.setTile k x).reqs = s.reqs := rfl
@[simp] theorem State.setTile_engines (s : State) (k : Nat) (x : Tile) : (s.setTile k x).engines = s.engines := rfl
@[simp] theorem State.setTile_bar0 (s : State) (k : Nat) (x : Tile) : (s.setTile k x).bar0 = s.bar0 := rfl
@[simp] theorem State.setTile_harts (s : State) (k : Nat) (x : Tile) : (s.setTile k x).harts = s.harts := rfl
@[simp] theorem State.setTile_clusters (s : State) (k : Nat) (x : Tile) : (s.setTile k x).clusters = s.clusters := rfl
@[simp] theorem State.setTile_budgets (s : State) (k : Nat) (x : Tile) : (s.setTile k x).budgets = s.budgets := rfl
@[simp] theorem State.setTile_recs (s : State) (k : Nat) (x : Tile) : (s.setTile k x).recs = s.recs := rfl
@[simp] theorem State.setTile_cur (s : State) (k : Nat) (x : Tile) : (s.setTile k x).cur = s.cur := rfl
@[simp] theorem State.setTile_free (s : State) (k : Nat) (x : Tile) : (s.setTile k x).free = s.free := rfl
@[simp] theorem State.setTile_schedule (s : State) (k : Nat) (x : Tile) : (s.setTile k x).schedule = s.schedule := rfl
@[simp] theorem State.setTile_tile_same (s : State) (k : Nat) (x : Tile) : (s.setTile k x).tile k = x := nget_nput_same _ _ _ _
theorem State.setTile_tile_ne (s : State) (k : Nat) (x : Tile) {j : Nat} (h : j ≠ k) : (s.setTile k x).tile j = s.tile j := nget_nput_ne _ _ _ h

@[simp] theorem State.setTile_group (s : State) (k : Nat) (x : Tile) (j : Nat) : (s.setTile k x).group j = s.group j := rfl
@[simp] theorem State.setTile_team (s : State) (k : Nat) (x : Tile) (j : Nat) : (s.setTile k x).team j = s.team j := rfl
@[simp] theorem State.setTile_grid (s : State) (k : Nat) (x : Tile) (j : BitVec 32) : (s.setTile k x).grid j = s.grid j := rfl
@[simp] theorem State.setTile_quad (s : State) (k : Nat) (x : Tile) (j : Nat) : (s.setTile k x).quad j = s.quad j := rfl
@[simp] theorem State.setTile_cache (s : State) (k : Nat) (x : Tile) (j : Nat) : (s.setTile k x).cache j = s.cache j := rfl
@[simp] theorem State.setTile_frame (s : State) (k : Nat) (x : Tile) (j : Nat) : (s.setTile k x).frame j = s.frame j := rfl
@[simp] theorem State.setTile_engine (s : State) (k : Nat) (x : Tile) (j : Nat) : (s.setTile k x).engine j = s.engine j := rfl

/-! ## setEngine -/

@[simp] theorem State.setEngine_groups (s : State) (k : Nat) (x : Engine) : (s.setEngine k x).groups = s.groups := rfl
@[simp] theorem State.setEngine_teams (s : State) (k : Nat) (x : Engine) : (s.setEngine k x).teams = s.teams := rfl
@[simp] theorem State.setEngine_grids (s : State) (k : Nat) (x : Engine) : (s.setEngine k x).grids = s.grids := rfl
@[simp] theorem State.setEngine_quads (s : State) (k : Nat) (x : Engine) : (s.setEngine k x).quads = s.quads := rfl
@[simp] theorem State.setEngine_caches (s : State) (k : Nat) (x : Engine) : (s.setEngine k x).caches = s.caches := rfl
@[simp] theorem State.setEngine_frames (s : State) (k : Nat) (x : Engine) : (s.setEngine k x).frames = s.frames := rfl
@[simp] theorem State.setEngine_mem (s : State) (k : Nat) (x : Engine) : (s.setEngine k x).mem = s.mem := rfl
@[simp] theorem State.setEngine_tags (s : State) (k : Nat) (x : Engine) : (s.setEngine k x).tags = s.tags := rfl
@[simp] theorem State.setEngine_hostMem (s : State) (k : Nat) (x : Engine) : (s.setEngine k x).hostMem = s.hostMem := rfl
@[simp] theorem State.setEngine_tiles (s : State) (k : Nat) (x : Engine) : (s.setEngine k x).tiles = s.tiles := rfl
@[simp] theorem State.setEngine_seqBanks (s : State) (k : Nat) (x : Engine) : (s.setEngine k x).seqBanks = s.seqBanks := rfl
@[simp] theorem State.setEngine_reqs (s : State) (k : Nat) (x : Engine) : (s.setEngine k x).reqs = s.reqs := rfl
@[simp] theorem State.setEngine_bar0 (s : State) (k : Nat) (x : Engine) : (s.setEngine k x).bar0 = s.bar0 := rfl
@[simp] theorem State.setEngine_harts (s : State) (k : Nat) (x : Engine) : (s.setEngine k x).harts = s.harts := rfl
@[simp] theorem State.setEngine_clusters (s : State) (k : Nat) (x : Engine) : (s.setEngine k x).clusters = s.clusters := rfl
@[simp] theorem State.setEngine_budgets (s : State) (k : Nat) (x : Engine) : (s.setEngine k x).budgets = s.budgets := rfl
@[simp] theorem State.setEngine_recs (s : State) (k : Nat) (x : Engine) : (s.setEngine k x).recs = s.recs := rfl
@[simp] theorem State.setEngine_cur (s : State) (k : Nat) (x : Engine) : (s.setEngine k x).cur = s.cur := rfl
@[simp] theorem State.setEngine_free (s : State) (k : Nat) (x : Engine) : (s.setEngine k x).free = s.free := rfl
@[simp] theorem State.setEngine_schedule (s : State) (k : Nat) (x : Engine) : (s.setEngine k x).schedule = s.schedule := rfl
@[simp] theorem State.setEngine_engine_same (s : State) (k : Nat) (x : Engine) : (s.setEngine k x).engine k = x := nget_nput_same _ _ _ _
theorem State.setEngine_engine_ne (s : State) (k : Nat) (x : Engine) {j : Nat} (h : j ≠ k) : (s.setEngine k x).engine j = s.engine j := nget_nput_ne _ _ _ h

@[simp] theorem State.setEngine_group (s : State) (k : Nat) (x : Engine) (j : Nat) : (s.setEngine k x).group j = s.group j := rfl
@[simp] theorem State.setEngine_team (s : State) (k : Nat) (x : Engine) (j : Nat) : (s.setEngine k x).team j = s.team j := rfl
@[simp] theorem State.setEngine_grid (s : State) (k : Nat) (x : Engine) (j : BitVec 32) : (s.setEngine k x).grid j = s.grid j := rfl
@[simp] theorem State.setEngine_quad (s : State) (k : Nat) (x : Engine) (j : Nat) : (s.setEngine k x).quad j = s.quad j := rfl
@[simp] theorem State.setEngine_cache (s : State) (k : Nat) (x : Engine) (j : Nat) : (s.setEngine k x).cache j = s.cache j := rfl
@[simp] theorem State.setEngine_frame (s : State) (k : Nat) (x : Engine) (j : Nat) : (s.setEngine k x).frame j = s.frame j := rfl
@[simp] theorem State.setEngine_tile (s : State) (k : Nat) (x : Engine) (j : Nat) : (s.setEngine k x).tile j = s.tile j := rfl

/-! ## mapCur -/

@[simp] theorem State.mapCur_groups (s : State) (f : Cur → Cur) : (s.mapCur f).groups = s.groups := rfl
@[simp] theorem State.mapCur_teams (s : State) (f : Cur → Cur) : (s.mapCur f).teams = s.teams := rfl
@[simp] theorem State.mapCur_grids (s : State) (f : Cur → Cur) : (s.mapCur f).grids = s.grids := rfl
@[simp] theorem State.mapCur_quads (s : State) (f : Cur → Cur) : (s.mapCur f).quads = s.quads := rfl
@[simp] theorem State.mapCur_caches (s : State) (f : Cur → Cur) : (s.mapCur f).caches = s.caches := rfl
@[simp] theorem State.mapCur_frames (s : State) (f : Cur → Cur) : (s.mapCur f).frames = s.frames := rfl
@[simp] theorem State.mapCur_mem (s : State) (f : Cur → Cur) : (s.mapCur f).mem = s.mem := rfl
@[simp] theorem State.mapCur_tags (s : State) (f : Cur → Cur) : (s.mapCur f).tags = s.tags := rfl
@[simp] theorem State.mapCur_hostMem (s : State) (f : Cur → Cur) : (s.mapCur f).hostMem = s.hostMem := rfl
@[simp] theorem State.mapCur_tiles (s : State) (f : Cur → Cur) : (s.mapCur f).tiles = s.tiles := rfl
@[simp] theorem State.mapCur_seqBanks (s : State) (f : Cur → Cur) : (s.mapCur f).seqBanks = s.seqBanks := rfl
@[simp] theorem State.mapCur_reqs (s : State) (f : Cur → Cur) : (s.mapCur f).reqs = s.reqs := rfl
@[simp] theorem State.mapCur_engines (s : State) (f : Cur → Cur) : (s.mapCur f).engines = s.engines := rfl
@[simp] theorem State.mapCur_bar0 (s : State) (f : Cur → Cur) : (s.mapCur f).bar0 = s.bar0 := rfl
@[simp] theorem State.mapCur_harts (s : State) (f : Cur → Cur) : (s.mapCur f).harts = s.harts := rfl
@[simp] theorem State.mapCur_clusters (s : State) (f : Cur → Cur) : (s.mapCur f).clusters = s.clusters := rfl
@[simp] theorem State.mapCur_budgets (s : State) (f : Cur → Cur) : (s.mapCur f).budgets = s.budgets := rfl
@[simp] theorem State.mapCur_recs (s : State) (f : Cur → Cur) : (s.mapCur f).recs = s.recs := rfl
@[simp] theorem State.mapCur_free (s : State) (f : Cur → Cur) : (s.mapCur f).free = s.free := rfl
@[simp] theorem State.mapCur_schedule (s : State) (f : Cur → Cur) : (s.mapCur f).schedule = s.schedule := rfl
@[simp] theorem State.mapCur_cur (s : State) (f : Cur → Cur) : (s.mapCur f).cur = f s.cur := rfl

@[simp] theorem State.mapCur_group (s : State) (f : Cur → Cur) (j : Nat) : (s.mapCur f).group j = s.group j := rfl
@[simp] theorem State.mapCur_team (s : State) (f : Cur → Cur) (j : Nat) : (s.mapCur f).team j = s.team j := rfl
@[simp] theorem State.mapCur_grid (s : State) (f : Cur → Cur) (j : BitVec 32) : (s.mapCur f).grid j = s.grid j := rfl
@[simp] theorem State.mapCur_quad (s : State) (f : Cur → Cur) (j : Nat) : (s.mapCur f).quad j = s.quad j := rfl
@[simp] theorem State.mapCur_cache (s : State) (f : Cur → Cur) (j : Nat) : (s.mapCur f).cache j = s.cache j := rfl
@[simp] theorem State.mapCur_frame (s : State) (f : Cur → Cur) (j : Nat) : (s.mapCur f).frame j = s.frame j := rfl
@[simp] theorem State.mapCur_tile (s : State) (f : Cur → Cur) (j : Nat) : (s.mapCur f).tile j = s.tile j := rfl
@[simp] theorem State.mapCur_engine (s : State) (f : Cur → Cur) (j : Nat) : (s.mapCur f).engine j = s.engine j := rfl

end Sys2Proof.Machine
end

