-- ==== Sys2Proof/Laws/Memory.lean ====
section
/-! SUPPORT. What a write at a home does to memory: the one write that every agent makes keeps the canonical form, and changes
the bytes written and no other. -/

namespace Sys2Proof.Machine

/-- The byte memories that no table holds. -/
def State.plainMemories (s : State) : List (List Host.Cell) := [s.mem, s.hostMem, s.atrium, s.sram, s.rom, s.flashA, s.flashB]

/-- The canonical form, memory by memory. -/
theorem canonical_iff (s : State) : s.canonical = true ↔
    (∀ m ∈ s.plainMemories, Memory.wf m = true) ∧ (∀ t ∈ s.teams, Memory.wf t.2.tmem = true) ∧
    (∀ x ∈ s.saved, Memory.wf x.2.team.tmem = true) ∧
    ∀ e ∈ s.engines, ∀ d, e.2.run = some d → Memory.wf d.scratch = true := by
  unfold State.canonical State.byteMemories State.plainMemories
  simp only [List.all_append, Bool.and_eq_true, and_assoc, List.all_eq_true, List.mem_map, List.mem_filterMap,
    Option.map_eq_some_iff, forall_exists_index, and_imp, forall_apply_eq_imp_iff₂]
  refine and_congr_right fun _ => and_congr_right fun _ => and_congr_right fun _ => ?_
  exact ⟨fun h e he d hd => h _ e he d hd rfl, fun h m e he d hd hm => hm ▸ h e he d hd⟩

/-- An entry of a table after one is set is that one or an entry from before. -/
theorem mem_nput {α : Type} {m : NMap α} {n : Nat} {x : α} {y : Nat × α} (h : y ∈ nput m n x) : y = (n, x) ∨ y ∈ m := by
  induction m with
  | nil => simpa [nput] using h
  | cons a r ih =>
    obtain ⟨k, v⟩ := a
    simp only [nput] at h
    split at h
    · simpa using h
    · split at h
      · rcases List.mem_cons.1 h with h | h
        · exact Or.inl h
        · exact Or.inr (List.mem_cons_of_mem _ h)
      · rcases List.mem_cons.1 h with h | h
        · exact Or.inr (h ▸ List.mem_cons_self)
        · exact (ih h).imp id (List.mem_cons_of_mem _)

/-- What a table gives is its default or an entry. -/
theorem nget_mem {α : Type} (d : α) (m : NMap α) (n : Nat) : nget d m n = d ∨ (n, nget d m n) ∈ m := by
  induction m with
  | nil => exact Or.inl rfl
  | cons a r ih =>
    obtain ⟨k, v⟩ := a
    simp only [nget]
    split
    · rename_i h; exact Or.inr (h ▸ List.mem_cons_self)
    · exact ih.imp id (List.mem_cons_of_mem _)

/-- Two states that agree on every place of a byte memory are canonical together. -/
theorem canonical_of_same {s t : State} (h : t.plainMemories = s.plainMemories) (ht : t.teams = s.teams) (hs : t.saved = s.saved)
    (he : t.engines = s.engines) : t.canonical = s.canonical := by
  rw [Bool.eq_iff_iff, canonical_iff, canonical_iff, h, ht, hs, he]

/-- A raised decision changes no byte memory. -/
theorem canonical_raiseOn {s : State} (h : s.canonical = true) (k : Nat) (r : Raised) : (s.raiseOn k r).canonical = true := by
  simp only [State.raiseOn]
  split
  · exact h
  · rw [canonical_iff] at *
    obtain ⟨h1, h2, h3, h4⟩ := h
    refine ⟨h1, h2, h3, fun e he d hd => ?_⟩
    rcases mem_nput he with rfl | he
    · rcases nget_mem Engine.reset s.engines k with hk | hk
      · have : (s.engine k).run = none := by rw [State.engine, hk]; rfl
        rw [this] at hd; cases hd
      · exact h4 _ hk d hd
    · exact h4 e he d hd

theorem canonical_setFrame (s : State) (f : Nat) (x : Frame) : (s.setFrame f x).canonical = s.canonical := rfl

theorem canonical_countLine (s : State) (pa die : Nat) : (s.countLine pa die).canonical = s.canonical := rfl

theorem canonical_migrateRaise {s : State} (h : s.canonical = true) (w : Writer) (f : Nat) : (s.migrateRaise w f).canonical = true := by
  simp only [State.migrateRaise]
  split
  · exact canonical_raiseOn (by rw [canonical_setFrame]; exact h) _ _
  · exact h

theorem canonical_wakeRaise {s : State} (h : s.canonical = true) (l : Nat) : (s.wakeRaise l).canonical = true := by
  unfold State.wakeRaise
  generalize s.saved = xs
  induction xs generalizing s with
  | nil => exact h
  | cons x xs ih =>
    rw [List.foldl_cons]
    refine ih ?_
    simp only
    split
    · exact canonical_raiseOn h _ _
    · exact h

theorem canonical_dropResv (s : State) (tm : Bool) (g : Nat) : (s.dropResv tm g).canonical = s.canonical := by
  cases tm <;> exact canonical_of_same rfl rfl rfl rfl

/-- A memory in the place of HBM. -/
theorem canonical_mem {s t : State} (h : s.canonical = true) (hm : Memory.wf t.mem = true)
    (hp : { t with mem := s.mem }.plainMemories = s.plainMemories) (ht : t.teams = s.teams) (hs : t.saved = s.saved)
    (he : t.engines = s.engines) : t.canonical = true := by
  rw [canonical_iff] at *
  rw [ht, hs, he]
  refine ⟨?_, h.2⟩
  have h1 := h.1
  rw [← hp] at h1
  simp only [State.plainMemories, List.mem_cons, List.not_mem_nil, or_false, forall_eq_or_imp, forall_eq] at h1 ⊢
  exact ⟨hm, h1.2⟩

theorem canonical_plain {s : State} (h : s.canonical = true) : ∀ m ∈ s.plainMemories, Memory.wf m = true := ((canonical_iff s).1 h).1

theorem canonical_undiscard {s : State} (h : s.canonical = true) (pa : Nat) : (s.undiscard pa).canonical = true := by
  simp only [State.undiscard]
  split
  · exact canonical_mem h (mclear_wf (canonical_plain h s.mem (by simp [State.plainMemories])) _ _) rfl rfl rfl rfl
  · exact h

/-- The one write at a home keeps every memory canonical. -/
theorem canonical_pwrite {s : State} (h : s.canonical = true) (pa n x : Nat) (tagged : Bool) (who : Option Writer) :
    (s.pwrite pa n x tagged who).canonical = true := by
  simp only [State.pwrite]
  split
  · rw [canonical_iff] at *
    refine ⟨?_, h.2⟩
    have h1 := h.1
    simp only [State.plainMemories, List.mem_cons, List.not_mem_nil, or_false, forall_eq_or_imp, forall_eq] at h1 ⊢
    exact ⟨h1.1, mwriteN_wf h1.2.1 _ _ _, h1.2.2⟩
  · have hu := canonical_undiscard h pa
    refine canonical_wakeRaise ((canonical_dropResv _ _ _).trans ?_) _
    have hw : ∀ t : State, t = { s.undiscard pa with mem := mwriteN (s.undiscard pa).mem pa n x, tags := t.tags } →
        t.canonical = true := by
      intro t ht
      rw [ht]
      exact canonical_mem hu (mwriteN_wf (canonical_plain hu _ (by simp [State.plainMemories])) _ _ _) rfl rfl rfl rfl
    cases who with
    | none => exact hw _ rfl
    | some w => exact canonical_migrateRaise (by rw [canonical_countLine]; exact hw _ rfl) _ _

theorem canonical_atriumWrite {s : State} (h : s.canonical = true) (o n x : Nat) : (s.atriumWrite o n x).canonical = true := by
  rw [canonical_iff] at *
  refine ⟨?_, h.2⟩
  have h1 := h.1
  simp only [State.plainMemories, State.atriumWrite, State.dropHarts, List.mem_cons, List.not_mem_nil, or_false, forall_eq_or_imp,
    forall_eq] at h1 ⊢
  exact ⟨h1.1, h1.2.1, mwriteN_wf h1.2.2.1 _ _ _, h1.2.2.2⟩

/-- A write to the memory of a resident team keeps every memory canonical. -/
theorem canonical_tmWrite {s : State} (h : s.canonical = true) (tk a n v : Nat) : (s.tmWrite tk a n v).canonical = true := by
  refine (canonical_dropResv _ _ _).trans ?_
  rw [canonical_iff] at *
  refine ⟨h.1, fun t ht => ?_, h.2.2⟩
  rcases mem_nput ht with rfl | ht
  · refine mwriteN_wf ?_ _ _ _
    rcases nget_mem Team.reset s.teams tk with hk | hk
    · rw [State.team, hk]; rfl
    · exact h.2.1 _ hk
  · exact h.2.1 t ht

/-- The byte memories after reset are canonical. -/
theorem wf_reset : Memory.wf State.reset.mem = true := rfl

end Sys2Proof.Machine
end

