-- ==== Sys2Proof/Laws/PerInstr.lean ====
section
/-! SUPPORT. Facts about every instruction as syntax, one lemma per constructor. -/

namespace Sys2Proof.Laws.Encodes

/-- An instruction has a word exactly when it is no event. -/
def Statement (i : Instr) : Prop := (encode i).isSome = !isEvent i

theorem nop : ∀ a0, Statement (.nop a0) := fun _ => rfl
theorem add : ∀ a0 a1 a2 a3 a4 a5, Statement (.add a0 a1 a2 a3 a4 a5) := fun _ _ _ _ _ _ => rfl
theorem addScalar : ∀ a0 a1 a2 a3 a4 a5, Statement (.addScalar a0 a1 a2 a3 a4 a5) := fun _ _ _ _ _ _ => rfl
theorem sub : ∀ a0 a1 a2 a3 a4 a5, Statement (.sub a0 a1 a2 a3 a4 a5) := fun _ _ _ _ _ _ => rfl
theorem subScalar : ∀ a0 a1 a2 a3 a4 a5, Statement (.subScalar a0 a1 a2 a3 a4 a5) := fun _ _ _ _ _ _ => rfl
theorem adds : ∀ a0 a1 a2 a3 a4 a5, Statement (.adds a0 a1 a2 a3 a4 a5) := fun _ _ _ _ _ _ => rfl
theorem addsScalar : ∀ a0 a1 a2 a3 a4 a5, Statement (.addsScalar a0 a1 a2 a3 a4 a5) := fun _ _ _ _ _ _ => rfl
theorem subs : ∀ a0 a1 a2 a3 a4 a5, Statement (.subs a0 a1 a2 a3 a4 a5) := fun _ _ _ _ _ _ => rfl
theorem subsScalar : ∀ a0 a1 a2 a3 a4 a5, Statement (.subsScalar a0 a1 a2 a3 a4 a5) := fun _ _ _ _ _ _ => rfl
theorem mul : ∀ a0 a1 a2 a3 a4 a5, Statement (.mul a0 a1 a2 a3 a4 a5) := fun _ _ _ _ _ _ => rfl
theorem mulScalar : ∀ a0 a1 a2 a3 a4 a5, Statement (.mulScalar a0 a1 a2 a3 a4 a5) := fun _ _ _ _ _ _ => rfl
theorem mulh : ∀ a0 a1 a2 a3 a4 a5, Statement (.mulh a0 a1 a2 a3 a4 a5) := fun _ _ _ _ _ _ => rfl
theorem mulhScalar : ∀ a0 a1 a2 a3 a4 a5, Statement (.mulhScalar a0 a1 a2 a3 a4 a5) := fun _ _ _ _ _ _ => rfl
theorem mad : ∀ a0 a1 a2 a3 a4 a5, Statement (.mad a0 a1 a2 a3 a4 a5) := fun _ _ _ _ _ _ => rfl
theorem madScalar : ∀ a0 a1 a2 a3 a4 a5, Statement (.madScalar a0 a1 a2 a3 a4 a5) := fun _ _ _ _ _ _ => rfl
theorem dot2 : ∀ a0 a1 a2 a3 a4 a5, Statement (.dot2 a0 a1 a2 a3 a4 a5) := fun _ _ _ _ _ _ => rfl
theorem dot2Scalar : ∀ a0 a1 a2 a3 a4 a5, Statement (.dot2Scalar a0 a1 a2 a3 a4 a5) := fun _ _ _ _ _ _ => rfl
theorem min : ∀ a0 a1 a2 a3 a4 a5, Statement (.min a0 a1 a2 a3 a4 a5) := fun _ _ _ _ _ _ => rfl
theorem minScalar : ∀ a0 a1 a2 a3 a4 a5, Statement (.minScalar a0 a1 a2 a3 a4 a5) := fun _ _ _ _ _ _ => rfl
theorem max : ∀ a0 a1 a2 a3 a4 a5, Statement (.max a0 a1 a2 a3 a4 a5) := fun _ _ _ _ _ _ => rfl
theorem maxScalar : ∀ a0 a1 a2 a3 a4 a5, Statement (.maxScalar a0 a1 a2 a3 a4 a5) := fun _ _ _ _ _ _ => rfl
theorem absd : ∀ a0 a1 a2 a3 a4 a5, Statement (.absd a0 a1 a2 a3 a4 a5) := fun _ _ _ _ _ _ => rfl
theorem absdScalar : ∀ a0 a1 a2 a3 a4 a5, Statement (.absdScalar a0 a1 a2 a3 a4 a5) := fun _ _ _ _ _ _ => rfl
theorem and : ∀ a0 a1 a2 a3 a4 a5, Statement (.and a0 a1 a2 a3 a4 a5) := fun _ _ _ _ _ _ => rfl
theorem andScalar : ∀ a0 a1 a2 a3 a4 a5, Statement (.andScalar a0 a1 a2 a3 a4 a5) := fun _ _ _ _ _ _ => rfl
theorem or : ∀ a0 a1 a2 a3 a4 a5, Statement (.or a0 a1 a2 a3 a4 a5) := fun _ _ _ _ _ _ => rfl
theorem orScalar : ∀ a0 a1 a2 a3 a4 a5, Statement (.orScalar a0 a1 a2 a3 a4 a5) := fun _ _ _ _ _ _ => rfl
theorem xor : ∀ a0 a1 a2 a3 a4 a5, Statement (.xor a0 a1 a2 a3 a4 a5) := fun _ _ _ _ _ _ => rfl
theorem xorScalar : ∀ a0 a1 a2 a3 a4 a5, Statement (.xorScalar a0 a1 a2 a3 a4 a5) := fun _ _ _ _ _ _ => rfl
theorem andn : ∀ a0 a1 a2 a3 a4 a5, Statement (.andn a0 a1 a2 a3 a4 a5) := fun _ _ _ _ _ _ => rfl
theorem andnScalar : ∀ a0 a1 a2 a3 a4 a5, Statement (.andnScalar a0 a1 a2 a3 a4 a5) := fun _ _ _ _ _ _ => rfl
theorem shl : ∀ a0 a1 a2 a3 a4 a5, Statement (.shl a0 a1 a2 a3 a4 a5) := fun _ _ _ _ _ _ => rfl
theorem shlScalar : ∀ a0 a1 a2 a3 a4 a5, Statement (.shlScalar a0 a1 a2 a3 a4 a5) := fun _ _ _ _ _ _ => rfl
theorem shr : ∀ a0 a1 a2 a3 a4 a5, Statement (.shr a0 a1 a2 a3 a4 a5) := fun _ _ _ _ _ _ => rfl
theorem shrScalar : ∀ a0 a1 a2 a3 a4 a5, Statement (.shrScalar a0 a1 a2 a3 a4 a5) := fun _ _ _ _ _ _ => rfl
theorem shrr : ∀ a0 a1 a2 a3 a4 a5, Statement (.shrr a0 a1 a2 a3 a4 a5) := fun _ _ _ _ _ _ => rfl
theorem shrrScalar : ∀ a0 a1 a2 a3 a4 a5, Statement (.shrrScalar a0 a1 a2 a3 a4 a5) := fun _ _ _ _ _ _ => rfl
theorem rotl : ∀ a0 a1 a2 a3 a4 a5, Statement (.rotl a0 a1 a2 a3 a4 a5) := fun _ _ _ _ _ _ => rfl
theorem rotlScalar : ∀ a0 a1 a2 a3 a4 a5, Statement (.rotlScalar a0 a1 a2 a3 a4 a5) := fun _ _ _ _ _ _ => rfl
theorem ceq : ∀ a0 a1 a2 a3 a4 a5, Statement (.ceq a0 a1 a2 a3 a4 a5) := fun _ _ _ _ _ _ => rfl
theorem ceqScalar : ∀ a0 a1 a2 a3 a4 a5, Statement (.ceqScalar a0 a1 a2 a3 a4 a5) := fun _ _ _ _ _ _ => rfl
theorem clt : ∀ a0 a1 a2 a3 a4 a5, Statement (.clt a0 a1 a2 a3 a4 a5) := fun _ _ _ _ _ _ => rfl
theorem cltScalar : ∀ a0 a1 a2 a3 a4 a5, Statement (.cltScalar a0 a1 a2 a3 a4 a5) := fun _ _ _ _ _ _ => rfl
theorem cle : ∀ a0 a1 a2 a3 a4 a5, Statement (.cle a0 a1 a2 a3 a4 a5) := fun _ _ _ _ _ _ => rfl
theorem cleScalar : ∀ a0 a1 a2 a3 a4 a5, Statement (.cleScalar a0 a1 a2 a3 a4 a5) := fun _ _ _ _ _ _ => rfl
theorem bfx : ∀ a0 a1 a2 a3 a4 a5, Statement (.bfx a0 a1 a2 a3 a4 a5) := fun _ _ _ _ _ _ => rfl
theorem bfxScalar : ∀ a0 a1 a2 a3 a4 a5, Statement (.bfxScalar a0 a1 a2 a3 a4 a5) := fun _ _ _ _ _ _ => rfl
theorem bfi : ∀ a0 a1 a2 a3 a4 a5, Statement (.bfi a0 a1 a2 a3 a4 a5) := fun _ _ _ _ _ _ => rfl
theorem bfiScalar : ∀ a0 a1 a2 a3 a4 a5, Statement (.bfiScalar a0 a1 a2 a3 a4 a5) := fun _ _ _ _ _ _ => rfl
theorem popc : ∀ a0 a1 a2 a3 a4, Statement (.popc a0 a1 a2 a3 a4) := fun _ _ _ _ _ => rfl
theorem clz : ∀ a0 a1 a2 a3 a4, Statement (.clz a0 a1 a2 a3 a4) := fun _ _ _ _ _ => rfl
theorem brev : ∀ a0 a1 a2 a3 a4, Statement (.brev a0 a1 a2 a3 a4) := fun _ _ _ _ _ => rfl
theorem sel : ∀ a0 a1 a2 a3 a4 a5, Statement (.sel a0 a1 a2 a3 a4 a5) := fun _ _ _ _ _ _ => rfl
theorem selScalar : ∀ a0 a1 a2 a3 a4 a5, Statement (.selScalar a0 a1 a2 a3 a4 a5) := fun _ _ _ _ _ _ => rfl
theorem avg : ∀ a0 a1 a2 a3 a4 a5, Statement (.avg a0 a1 a2 a3 a4 a5) := fun _ _ _ _ _ _ => rfl
theorem avgScalar : ∀ a0 a1 a2 a3 a4 a5, Statement (.avgScalar a0 a1 a2 a3 a4 a5) := fun _ _ _ _ _ _ => rfl
theorem fadd : ∀ a0 a1 a2 a3 a4 a5, Statement (.fadd a0 a1 a2 a3 a4 a5) := fun _ _ _ _ _ _ => rfl
theorem faddScalar : ∀ a0 a1 a2 a3 a4 a5, Statement (.faddScalar a0 a1 a2 a3 a4 a5) := fun _ _ _ _ _ _ => rfl
theorem fsub : ∀ a0 a1 a2 a3 a4 a5, Statement (.fsub a0 a1 a2 a3 a4 a5) := fun _ _ _ _ _ _ => rfl
theorem fsubScalar : ∀ a0 a1 a2 a3 a4 a5, Statement (.fsubScalar a0 a1 a2 a3 a4 a5) := fun _ _ _ _ _ _ => rfl
theorem fmul : ∀ a0 a1 a2 a3 a4 a5, Statement (.fmul a0 a1 a2 a3 a4 a5) := fun _ _ _ _ _ _ => rfl
theorem fmulScalar : ∀ a0 a1 a2 a3 a4 a5, Statement (.fmulScalar a0 a1 a2 a3 a4 a5) := fun _ _ _ _ _ _ => rfl
theorem fma : ∀ a0 a1 a2 a3 a4 a5, Statement (.fma a0 a1 a2 a3 a4 a5) := fun _ _ _ _ _ _ => rfl
theorem fmaScalar : ∀ a0 a1 a2 a3 a4 a5, Statement (.fmaScalar a0 a1 a2 a3 a4 a5) := fun _ _ _ _ _ _ => rfl
theorem fms : ∀ a0 a1 a2 a3 a4 a5, Statement (.fms a0 a1 a2 a3 a4 a5) := fun _ _ _ _ _ _ => rfl
theorem fmsScalar : ∀ a0 a1 a2 a3 a4 a5, Statement (.fmsScalar a0 a1 a2 a3 a4 a5) := fun _ _ _ _ _ _ => rfl
theorem fnma : ∀ a0 a1 a2 a3 a4 a5, Statement (.fnma a0 a1 a2 a3 a4 a5) := fun _ _ _ _ _ _ => rfl
theorem fnmaScalar : ∀ a0 a1 a2 a3 a4 a5, Statement (.fnmaScalar a0 a1 a2 a3 a4 a5) := fun _ _ _ _ _ _ => rfl
theorem fmin : ∀ a0 a1 a2 a3 a4 a5, Statement (.fmin a0 a1 a2 a3 a4 a5) := fun _ _ _ _ _ _ => rfl
theorem fminScalar : ∀ a0 a1 a2 a3 a4 a5, Statement (.fminScalar a0 a1 a2 a3 a4 a5) := fun _ _ _ _ _ _ => rfl
theorem fmax : ∀ a0 a1 a2 a3 a4 a5, Statement (.fmax a0 a1 a2 a3 a4 a5) := fun _ _ _ _ _ _ => rfl
theorem fmaxScalar : ∀ a0 a1 a2 a3 a4 a5, Statement (.fmaxScalar a0 a1 a2 a3 a4 a5) := fun _ _ _ _ _ _ => rfl
theorem fminm : ∀ a0 a1 a2 a3 a4 a5, Statement (.fminm a0 a1 a2 a3 a4 a5) := fun _ _ _ _ _ _ => rfl
theorem fminmScalar : ∀ a0 a1 a2 a3 a4 a5, Statement (.fminmScalar a0 a1 a2 a3 a4 a5) := fun _ _ _ _ _ _ => rfl
theorem fmaxm : ∀ a0 a1 a2 a3 a4 a5, Statement (.fmaxm a0 a1 a2 a3 a4 a5) := fun _ _ _ _ _ _ => rfl
theorem fmaxmScalar : ∀ a0 a1 a2 a3 a4 a5, Statement (.fmaxmScalar a0 a1 a2 a3 a4 a5) := fun _ _ _ _ _ _ => rfl
theorem fabs : ∀ a0 a1 a2 a3 a4, Statement (.fabs a0 a1 a2 a3 a4) := fun _ _ _ _ _ => rfl
theorem fneg : ∀ a0 a1 a2 a3 a4, Statement (.fneg a0 a1 a2 a3 a4) := fun _ _ _ _ _ => rfl
theorem fceq : ∀ a0 a1 a2 a3 a4 a5, Statement (.fceq a0 a1 a2 a3 a4 a5) := fun _ _ _ _ _ _ => rfl
theorem fceqScalar : ∀ a0 a1 a2 a3 a4 a5, Statement (.fceqScalar a0 a1 a2 a3 a4 a5) := fun _ _ _ _ _ _ => rfl
theorem fclt : ∀ a0 a1 a2 a3 a4 a5, Statement (.fclt a0 a1 a2 a3 a4 a5) := fun _ _ _ _ _ _ => rfl
theorem fcltScalar : ∀ a0 a1 a2 a3 a4 a5, Statement (.fcltScalar a0 a1 a2 a3 a4 a5) := fun _ _ _ _ _ _ => rfl
theorem fcle : ∀ a0 a1 a2 a3 a4 a5, Statement (.fcle a0 a1 a2 a3 a4 a5) := fun _ _ _ _ _ _ => rfl
theorem fcleScalar : ∀ a0 a1 a2 a3 a4 a5, Statement (.fcleScalar a0 a1 a2 a3 a4 a5) := fun _ _ _ _ _ _ => rfl
theorem fcun : ∀ a0 a1 a2 a3 a4 a5, Statement (.fcun a0 a1 a2 a3 a4 a5) := fun _ _ _ _ _ _ => rfl
theorem fcunScalar : ∀ a0 a1 a2 a3 a4 a5, Statement (.fcunScalar a0 a1 a2 a3 a4 a5) := fun _ _ _ _ _ _ => rfl
theorem fcls : ∀ a0 a1 a2 a3 a4, Statement (.fcls a0 a1 a2 a3 a4) := fun _ _ _ _ _ => rfl
theorem frnd : ∀ a0 a1 a2 a3 a4, Statement (.frnd a0 a1 a2 a3 a4) := fun _ _ _ _ _ => rfl
theorem fcopysign : ∀ a0 a1 a2 a3 a4 a5, Statement (.fcopysign a0 a1 a2 a3 a4 a5) := fun _ _ _ _ _ _ => rfl
theorem fcopysignScalar : ∀ a0 a1 a2 a3 a4 a5, Statement (.fcopysignScalar a0 a1 a2 a3 a4 a5) := fun _ _ _ _ _ _ => rfl
theorem fscale : ∀ a0 a1 a2 a3 a4 a5, Statement (.fscale a0 a1 a2 a3 a4 a5) := fun _ _ _ _ _ _ => rfl
theorem fscaleScalar : ∀ a0 a1 a2 a3 a4 a5, Statement (.fscaleScalar a0 a1 a2 a3 a4 a5) := fun _ _ _ _ _ _ => rfl
theorem fdot2 : ∀ a0 a1 a2 a3 a4 a5, Statement (.fdot2 a0 a1 a2 a3 a4 a5) := fun _ _ _ _ _ _ => rfl
theorem fdot2Scalar : ∀ a0 a1 a2 a3 a4 a5, Statement (.fdot2Scalar a0 a1 a2 a3 a4 a5) := fun _ _ _ _ _ _ => rfl
theorem cvt : ∀ a0 a1 a2 a3 a4 a5 a6, Statement (.cvt a0 a1 a2 a3 a4 a5 a6) := fun _ _ _ _ _ _ _ => rfl
theorem pack : ∀ a0 a1 a2 a3 a4 a5, Statement (.pack a0 a1 a2 a3 a4 a5) := fun _ _ _ _ _ _ => rfl
theorem unpackLo : ∀ a0 a1 a2 a3 a4, Statement (.unpackLo a0 a1 a2 a3 a4) := fun _ _ _ _ _ => rfl
theorem unpackHi : ∀ a0 a1 a2 a3 a4, Statement (.unpackHi a0 a1 a2 a3 a4) := fun _ _ _ _ _ => rfl
theorem rcp : ∀ a0 a1 a2 a3 a4, Statement (.rcp a0 a1 a2 a3 a4) := fun _ _ _ _ _ => rfl
theorem rsqrt : ∀ a0 a1 a2 a3 a4, Statement (.rsqrt a0 a1 a2 a3 a4) := fun _ _ _ _ _ => rfl
theorem sqrt : ∀ a0 a1 a2 a3 a4, Statement (.sqrt a0 a1 a2 a3 a4) := fun _ _ _ _ _ => rfl
theorem exp2 : ∀ a0 a1 a2 a3 a4, Statement (.exp2 a0 a1 a2 a3 a4) := fun _ _ _ _ _ => rfl
theorem log2 : ∀ a0 a1 a2 a3 a4, Statement (.log2 a0 a1 a2 a3 a4) := fun _ _ _ _ _ => rfl
theorem sin : ∀ a0 a1 a2 a3 a4, Statement (.sin a0 a1 a2 a3 a4) := fun _ _ _ _ _ => rfl
theorem cos : ∀ a0 a1 a2 a3 a4, Statement (.cos a0 a1 a2 a3 a4) := fun _ _ _ _ _ => rfl
theorem tanh : ∀ a0 a1 a2 a3 a4, Statement (.tanh a0 a1 a2 a3 a4) := fun _ _ _ _ _ => rfl
theorem quant : ∀ a0 a1 a2 a3 a4 a5, Statement (.quant a0 a1 a2 a3 a4 a5) := fun _ _ _ _ _ _ => rfl
theorem dequant : ∀ a0 a1 a2 a3 a4 a5, Statement (.dequant a0 a1 a2 a3 a4 a5) := fun _ _ _ _ _ _ => rfl
theorem cbk : ∀ a0 a1 a2 a3 a4, Statement (.cbk a0 a1 a2 a3 a4) := fun _ _ _ _ _ => rfl
theorem fdiv : ∀ a0 a1 a2 a3 a4 a5, Statement (.fdiv a0 a1 a2 a3 a4 a5) := fun _ _ _ _ _ _ => rfl
theorem idiv : ∀ a0 a1 a2 a3 a4 a5, Statement (.idiv a0 a1 a2 a3 a4 a5) := fun _ _ _ _ _ _ => rfl
theorem irem : ∀ a0 a1 a2 a3 a4 a5, Statement (.irem a0 a1 a2 a3 a4 a5) := fun _ _ _ _ _ _ => rfl
theorem shfl : ∀ a0 a1 a2 a3 a4 a5, Statement (.shfl a0 a1 a2 a3 a4 a5) := fun _ _ _ _ _ _ => rfl
theorem slideUp : ∀ a0 a1 a2 a3 a4 a5, Statement (.slideUp a0 a1 a2 a3 a4 a5) := fun _ _ _ _ _ _ => rfl
theorem slideDn : ∀ a0 a1 a2 a3 a4 a5, Statement (.slideDn a0 a1 a2 a3 a4 a5) := fun _ _ _ _ _ _ => rfl
theorem bcast : ∀ a0 a1 a2 a3 a4 a5, Statement (.bcast a0 a1 a2 a3 a4 a5) := fun _ _ _ _ _ _ => rfl
theorem redAdd : ∀ a0 a1 a2 a3 a4, Statement (.redAdd a0 a1 a2 a3 a4) := fun _ _ _ _ _ => rfl
theorem redMin : ∀ a0 a1 a2 a3 a4, Statement (.redMin a0 a1 a2 a3 a4) := fun _ _ _ _ _ => rfl
theorem redMax : ∀ a0 a1 a2 a3 a4, Statement (.redMax a0 a1 a2 a3 a4) := fun _ _ _ _ _ => rfl
theorem redFadd : ∀ a0 a1 a2 a3 a4, Statement (.redFadd a0 a1 a2 a3 a4) := fun _ _ _ _ _ => rfl
theorem scanAdd : ∀ a0 a1 a2 a3 a4, Statement (.scanAdd a0 a1 a2 a3 a4) := fun _ _ _ _ _ => rfl
theorem voteAny : ∀ a0 a1 a2 a3, Statement (.voteAny a0 a1 a2 a3) := fun _ _ _ _ => rfl
theorem voteAll : ∀ a0 a1 a2 a3, Statement (.voteAll a0 a1 a2 a3) := fun _ _ _ _ => rfl
theorem ballot : ∀ a0 a1 a2 a3, Statement (.ballot a0 a1 a2 a3) := fun _ _ _ _ => rfl
theorem sp24 : ∀ a0 a1 a2 a3 a4, Statement (.sp24 a0 a1 a2 a3 a4) := fun _ _ _ _ _ => rfl
theorem sort8 : ∀ a0 a1 a2 a3 a4, Statement (.sort8 a0 a1 a2 a3 a4) := fun _ _ _ _ _ => rfl
theorem matchEq : ∀ a0 a1 a2 a3 a4, Statement (.matchEq a0 a1 a2 a3 a4) := fun _ _ _ _ _ => rfl
theorem compress : ∀ a0 a1 a2 a3 a4 a5, Statement (.compress a0 a1 a2 a3 a4 a5) := fun _ _ _ _ _ _ => rfl
theorem expand : ∀ a0 a1 a2 a3 a4 a5, Statement (.expand a0 a1 a2 a3 a4 a5) := fun _ _ _ _ _ _ => rfl
theorem transp : ∀ a0 a1 a2 a3 a4, Statement (.transp a0 a1 a2 a3 a4) := fun _ _ _ _ _ => rfl
theorem merge2 : ∀ a0 a1 a2 a3 a4 a5, Statement (.merge2 a0 a1 a2 a3 a4 a5) := fun _ _ _ _ _ _ => rfl
theorem addi : ∀ a0 a1 a2 a3 a4 a5, Statement (.addi a0 a1 a2 a3 a4 a5) := fun _ _ _ _ _ _ => rfl
theorem muli : ∀ a0 a1 a2 a3 a4 a5, Statement (.muli a0 a1 a2 a3 a4 a5) := fun _ _ _ _ _ _ => rfl
theorem andi : ∀ a0 a1 a2 a3 a4 a5, Statement (.andi a0 a1 a2 a3 a4 a5) := fun _ _ _ _ _ _ => rfl
theorem ori : ∀ a0 a1 a2 a3 a4 a5, Statement (.ori a0 a1 a2 a3 a4 a5) := fun _ _ _ _ _ _ => rfl
theorem xori : ∀ a0 a1 a2 a3 a4 a5, Statement (.xori a0 a1 a2 a3 a4 a5) := fun _ _ _ _ _ _ => rfl
theorem shli : ∀ a0 a1 a2 a3 a4 a5, Statement (.shli a0 a1 a2 a3 a4 a5) := fun _ _ _ _ _ _ => rfl
theorem shri : ∀ a0 a1 a2 a3 a4 a5, Statement (.shri a0 a1 a2 a3 a4 a5) := fun _ _ _ _ _ _ => rfl
theorem srai : ∀ a0 a1 a2 a3 a4 a5, Statement (.srai a0 a1 a2 a3 a4 a5) := fun _ _ _ _ _ _ => rfl
theorem shrri : ∀ a0 a1 a2 a3 a4 a5, Statement (.shrri a0 a1 a2 a3 a4 a5) := fun _ _ _ _ _ _ => rfl
theorem ceqi : ∀ a0 a1 a2 a3 a4 a5, Statement (.ceqi a0 a1 a2 a3 a4 a5) := fun _ _ _ _ _ _ => rfl
theorem clti : ∀ a0 a1 a2 a3 a4 a5, Statement (.clti a0 a1 a2 a3 a4 a5) := fun _ _ _ _ _ _ => rfl
theorem slidei : ∀ a0 a1 a2 a3 a4 a5, Statement (.slidei a0 a1 a2 a3 a4 a5) := fun _ _ _ _ _ _ => rfl
theorem mini : ∀ a0 a1 a2 a3 a4 a5, Statement (.mini a0 a1 a2 a3 a4 a5) := fun _ _ _ _ _ _ => rfl
theorem maxi : ∀ a0 a1 a2 a3 a4 a5, Statement (.maxi a0 a1 a2 a3 a4 a5) := fun _ _ _ _ _ _ => rfl
theorem sadd : ∀ a0 a1 a2 a3 a4, Statement (.sadd a0 a1 a2 a3 a4) := fun _ _ _ _ _ => rfl
theorem ssub : ∀ a0 a1 a2 a3 a4, Statement (.ssub a0 a1 a2 a3 a4) := fun _ _ _ _ _ => rfl
theorem smul : ∀ a0 a1 a2 a3 a4, Statement (.smul a0 a1 a2 a3 a4) := fun _ _ _ _ _ => rfl
theorem smulh : ∀ a0 a1 a2 a3 a4, Statement (.smulh a0 a1 a2 a3 a4) := fun _ _ _ _ _ => rfl
theorem sand : ∀ a0 a1 a2 a3 a4, Statement (.sand a0 a1 a2 a3 a4) := fun _ _ _ _ _ => rfl
theorem sor : ∀ a0 a1 a2 a3 a4, Statement (.sor a0 a1 a2 a3 a4) := fun _ _ _ _ _ => rfl
theorem sxor : ∀ a0 a1 a2 a3 a4, Statement (.sxor a0 a1 a2 a3 a4) := fun _ _ _ _ _ => rfl
theorem sshl : ∀ a0 a1 a2 a3 a4, Statement (.sshl a0 a1 a2 a3 a4) := fun _ _ _ _ _ => rfl
theorem sshr : ∀ a0 a1 a2 a3 a4, Statement (.sshr a0 a1 a2 a3 a4) := fun _ _ _ _ _ => rfl
theorem ssra : ∀ a0 a1 a2 a3 a4, Statement (.ssra a0 a1 a2 a3 a4) := fun _ _ _ _ _ => rfl
theorem smin : ∀ a0 a1 a2 a3 a4, Statement (.smin a0 a1 a2 a3 a4) := fun _ _ _ _ _ => rfl
theorem smax : ∀ a0 a1 a2 a3 a4, Statement (.smax a0 a1 a2 a3 a4) := fun _ _ _ _ _ => rfl
theorem sceq : ∀ a0 a1 a2 a3 a4, Statement (.sceq a0 a1 a2 a3 a4) := fun _ _ _ _ _ => rfl
theorem sclt : ∀ a0 a1 a2 a3 a4, Statement (.sclt a0 a1 a2 a3 a4) := fun _ _ _ _ _ => rfl
theorem scltn : ∀ a0 a1 a2 a3 a4, Statement (.scltn a0 a1 a2 a3 a4) := fun _ _ _ _ _ => rfl
theorem ssel : ∀ a0 a1 a2 a3 a4, Statement (.ssel a0 a1 a2 a3 a4) := fun _ _ _ _ _ => rfl
theorem sbfx : ∀ a0 a1 a2 a3 a4, Statement (.sbfx a0 a1 a2 a3 a4) := fun _ _ _ _ _ => rfl
theorem sbfi : ∀ a0 a1 a2 a3 a4, Statement (.sbfi a0 a1 a2 a3 a4) := fun _ _ _ _ _ => rfl
theorem spopc : ∀ a0 a1 a2, Statement (.spopc a0 a1 a2) := fun _ _ _ => rfl
theorem sclz : ∀ a0 a1 a2, Statement (.sclz a0 a1 a2) := fun _ _ _ => rfl
theorem vtos : ∀ a0 a1 a2 a3 a4, Statement (.vtos a0 a1 a2 a3 a4) := fun _ _ _ _ _ => rfl
theorem stov : ∀ a0 a1 a2 a3 a4, Statement (.stov a0 a1 a2 a3 a4) := fun _ _ _ _ _ => rfl
theorem sdiv : ∀ a0 a1 a2 a3 a4, Statement (.sdiv a0 a1 a2 a3 a4) := fun _ _ _ _ _ => rfl
theorem srem : ∀ a0 a1 a2 a3 a4, Statement (.srem a0 a1 a2 a3 a4) := fun _ _ _ _ _ => rfl
theorem liS : ∀ a0 a1 a2 a3, Statement (.liS a0 a1 a2 a3) := fun _ _ _ _ => rfl
theorem likS : ∀ a0 a1 a2 a3, Statement (.likS a0 a1 a2 a3) := fun _ _ _ _ => rfl
theorem liV : ∀ a0 a1 a2 a3 a4, Statement (.liV a0 a1 a2 a3 a4) := fun _ _ _ _ _ => rfl
theorem likV : ∀ a0 a1 a2 a3 a4, Statement (.likV a0 a1 a2 a3 a4) := fun _ _ _ _ _ => rfl
theorem ld : ∀ a0 a1 a2 a3 a4 a5, Statement (.ld a0 a1 a2 a3 a4 a5) := fun _ _ _ _ _ _ => rfl
theorem st : ∀ a0 a1 a2 a3 a4 a5, Statement (.st a0 a1 a2 a3 a4 a5) := fun _ _ _ _ _ _ => rfl
theorem ldtm : ∀ a0 a1 a2 a3 a4 a5, Statement (.ldtm a0 a1 a2 a3 a4 a5) := fun _ _ _ _ _ _ => rfl
theorem sttm : ∀ a0 a1 a2 a3 a4 a5, Statement (.sttm a0 a1 a2 a3 a4 a5) := fun _ _ _ _ _ _ => rfl
theorem ldacc : ∀ a0 a1 a2, Statement (.ldacc a0 a1 a2) := fun _ _ _ => rfl
theorem stacc : ∀ a0 a1 a2, Statement (.stacc a0 a1 a2) := fun _ _ _ => rfl
theorem ldnt : ∀ a0 a1 a2 a3 a4 a5, Statement (.ldnt a0 a1 a2 a3 a4 a5) := fun _ _ _ _ _ _ => rfl
theorem stnt : ∀ a0 a1 a2 a3 a4 a5, Statement (.stnt a0 a1 a2 a3 a4 a5) := fun _ _ _ _ _ _ => rfl
theorem lds : ∀ a0 a1 a2 a3 a4 a5, Statement (.lds a0 a1 a2 a3 a4 a5) := fun _ _ _ _ _ _ => rfl
theorem sts : ∀ a0 a1 a2 a3 a4 a5, Statement (.sts a0 a1 a2 a3 a4 a5) := fun _ _ _ _ _ _ => rfl
theorem pref : ∀ a0 a1 a2 a3, Statement (.pref a0 a1 a2 a3) := fun _ _ _ _ => rfl
theorem ldg : ∀ a0 a1 a2 a3 a4 a5, Statement (.ldg a0 a1 a2 a3 a4 a5) := fun _ _ _ _ _ _ => rfl
theorem stg : ∀ a0 a1 a2 a3 a4 a5, Statement (.stg a0 a1 a2 a3 a4 a5) := fun _ _ _ _ _ _ => rfl
theorem ldgtm : ∀ a0 a1 a2 a3 a4 a5, Statement (.ldgtm a0 a1 a2 a3 a4 a5) := fun _ _ _ _ _ _ => rfl
theorem stgtm : ∀ a0 a1 a2 a3 a4 a5, Statement (.stgtm a0 a1 a2 a3 a4 a5) := fun _ _ _ _ _ _ => rfl
theorem bra : ∀ a0 a1, Statement (.bra a0 a1) := fun _ _ => rfl
theorem brn : ∀ a0 a1, Statement (.brn a0 a1) := fun _ _ => rfl
theorem jmp : ∀ a0, Statement (.jmp a0) := fun _ => rfl
theorem call : ∀ a0, Statement (.call a0) := fun _ => rfl
theorem jmpi : ∀ a0, Statement (.jmpi a0) := fun _ => rfl
theorem ret : Statement (.ret) := rfl
theorem join : ∀ a0 a1, Statement (.join a0 a1) := fun _ _ => rfl
theorem loop : ∀ a0 a1 a2, Statement (.loop a0 a1 a2) := fun _ _ _ => rfl
theorem exit : Statement (.exit) := rfl
theorem braAny : ∀ a0 a1, Statement (.braAny a0 a1) := fun _ _ => rfl
theorem braAll : ∀ a0 a1, Statement (.braAll a0 a1) := fun _ _ => rfl
theorem trapc : ∀ a0 a1, Statement (.trapc a0 a1) := fun _ _ => rfl
theorem amoadd : ∀ a0 a1 a2 a3 a4 a5 a6, Statement (.amoadd a0 a1 a2 a3 a4 a5 a6) := fun _ _ _ _ _ _ _ => rfl
theorem amomin : ∀ a0 a1 a2 a3 a4 a5 a6 a7, Statement (.amomin a0 a1 a2 a3 a4 a5 a6 a7) := fun _ _ _ _ _ _ _ _ => rfl
theorem amomax : ∀ a0 a1 a2 a3 a4 a5 a6 a7, Statement (.amomax a0 a1 a2 a3 a4 a5 a6 a7) := fun _ _ _ _ _ _ _ _ => rfl
theorem amoand : ∀ a0 a1 a2 a3 a4 a5 a6, Statement (.amoand a0 a1 a2 a3 a4 a5 a6) := fun _ _ _ _ _ _ _ => rfl
theorem amoor : ∀ a0 a1 a2 a3 a4 a5 a6, Statement (.amoor a0 a1 a2 a3 a4 a5 a6) := fun _ _ _ _ _ _ _ => rfl
theorem amoxor : ∀ a0 a1 a2 a3 a4 a5 a6, Statement (.amoxor a0 a1 a2 a3 a4 a5 a6) := fun _ _ _ _ _ _ _ => rfl
theorem amoswap : ∀ a0 a1 a2 a3 a4 a5 a6, Statement (.amoswap a0 a1 a2 a3 a4 a5 a6) := fun _ _ _ _ _ _ _ => rfl
theorem amocas : ∀ a0 a1 a2 a3 a4 a5 a6, Statement (.amocas a0 a1 a2 a3 a4 a5 a6) := fun _ _ _ _ _ _ _ => rfl
theorem amoinc : ∀ a0 a1 a2 a3 a4 a5 a6, Statement (.amoinc a0 a1 a2 a3 a4 a5 a6) := fun _ _ _ _ _ _ _ => rfl
theorem amofadd : ∀ a0 a1 a2 a3 a4 a5 a6, Statement (.amofadd a0 a1 a2 a3 a4 a5 a6) := fun _ _ _ _ _ _ _ => rfl
theorem lr : ∀ a0 a1 a2 a3 a4 a5 a6, Statement (.lr a0 a1 a2 a3 a4 a5 a6) := fun _ _ _ _ _ _ _ => rfl
theorem sc : ∀ a0 a1 a2 a3 a4 a5 a6, Statement (.sc a0 a1 a2 a3 a4 a5 a6) := fun _ _ _ _ _ _ _ => rfl
theorem fence : ∀ a0 a1 a2, Statement (.fence a0 a1 a2) := fun _ _ _ => rfl
theorem pub : ∀ a0 a1 a2 a3, Statement (.pub a0 a1 a2 a3) := fun _ _ _ _ => rfl
theorem ldref : ∀ a0 a1 a2 a3 a4, Statement (.ldref a0 a1 a2 a3 a4) := fun _ _ _ _ _ => rfl
theorem stref : ∀ a0 a1 a2 a3 a4, Statement (.stref a0 a1 a2 a3 a4) := fun _ _ _ _ _ => rfl
theorem xpub : ∀ a0 a1 a2 a3, Statement (.xpub a0 a1 a2 a3) := fun _ _ _ _ => rfl
theorem arrive : ∀ a0 a1 a2 a3 a4, Statement (.arrive a0 a1 a2 a3 a4) := fun _ _ _ _ _ => rfl
theorem await : ∀ a0 a1 a2 a3 a4, Statement (.await a0 a1 a2 a3 a4) := fun _ _ _ _ _ => rfl
theorem bar : ∀ a0 a1 a2, Statement (.bar a0 a1 a2) := fun _ _ _ => rfl
theorem tagq : ∀ a0 a1 a2, Statement (.tagq a0 a1 a2) := fun _ _ _ => rfl
theorem untag : ∀ a0 a1, Statement (.untag a0 a1) := fun _ _ => rfl
theorem xcpy : ∀ a0 a1, Statement (.xcpy a0 a1) := fun _ _ => rfl
theorem xnbmv : ∀ a0 a1, Statement (.xnbmv a0 a1) := fun _ _ => rfl
theorem xwait : ∀ a0 a1, Statement (.xwait a0 a1) := fun _ _ => rfl
theorem nbarArrive : ∀ a0 a1 a2, Statement (.nbarArrive a0 a1 a2) := fun _ _ _ => rfl
theorem nbarWait : ∀ a0 a1 a2, Statement (.nbarWait a0 a1 a2) := fun _ _ _ => rfl
theorem tstart : ∀ a0 a1, Statement (.tstart a0 a1) := fun _ _ => rfl
theorem launch : ∀ a0 a1, Statement (.launch a0 a1) := fun _ _ => rfl
theorem lwait : ∀ a0 a1, Statement (.lwait a0 a1) := fun _ _ => rfl
theorem tslot : ∀ a0 a1, Statement (.tslot a0 a1) := fun _ _ => rfl
theorem tmma : ∀ a0 a1 a2 a3 a4 a5, Statement (.tmma a0 a1 a2 a3 a4 a5) := fun _ _ _ _ _ _ => rfl
theorem tmmas : ∀ a0 a1 a2 a3 a4 a5 a6, Statement (.tmmas a0 a1 a2 a3 a4 a5 a6) := fun _ _ _ _ _ _ _ => rfl
theorem tzero : ∀ a0 a1, Statement (.tzero a0 a1) := fun _ _ => rfl
theorem tscale : ∀ a0 a1 a2, Statement (.tscale a0 a1 a2) := fun _ _ _ => rfl
theorem tcvt : ∀ a0 a1 a2, Statement (.tcvt a0 a1 a2) := fun _ _ _ => rfl
theorem tacc : ∀ a0 a1 a2, Statement (.tacc a0 a1 a2) := fun _ _ _ => rfl
theorem twait : ∀ a0 a1, Statement (.twait a0 a1) := fun _ _ => rfl
theorem tarriveBarrier : ∀ a0 a1, Statement (.tarriveBarrier a0 a1) := fun _ _ => rfl
theorem tarriveObject : ∀ a0, Statement (.tarriveObject a0) := fun _ => rfl
theorem tloop : ∀ a0 a1, Statement (.tloop a0 a1) := fun _ _ => rfl
theorem tend : Statement (.tend) := rfl
theorem tcbk : ∀ a0 a1, Statement (.tcbk a0 a1) := fun _ _ => rfl
theorem prio : ∀ a0 a1, Statement (.prio a0 a1) := fun _ _ => rfl
theorem rsys : ∀ a0 a1, Statement (.rsys a0 a1) := fun _ _ => rfl
theorem wsys : ∀ a0 a1, Statement (.wsys a0 a1) := fun _ _ => rfl
theorem trap : ∀ a0, Statement (.trap a0) := fun _ => rfl
theorem eret : Statement (.eret) := rfl
theorem phase : ∀ a0, Statement (.phase a0) := fun _ => rfl
theorem tokq : ∀ a0 a1, Statement (.tokq a0 a1) := fun _ _ => rfl
theorem clock : ∀ a0 a1, Statement (.clock a0 a1) := fun _ _ => rfl
theorem yield : Statement (.yield) := rfl
theorem sleep : ∀ a0, Statement (.sleep a0) := fun _ => rfl
theorem brk : ∀ a0, Statement (.brk a0) := fun _ => rfl
theorem udf : ∀ a0 a1 a2, Statement (.udf a0 a1 a2) := fun _ _ _ => rfl
theorem muovoNop : Statement (.muovoNop) := rfl
theorem muovoLi : ∀ a0 a1, Statement (.muovoLi a0 a1) := fun _ _ => rfl
theorem muovoMov : ∀ a0 a1, Statement (.muovoMov a0 a1) := fun _ _ => rfl
theorem muovoAdd : ∀ a0 a1 a2, Statement (.muovoAdd a0 a1 a2) := fun _ _ _ => rfl
theorem muovoSub : ∀ a0 a1 a2, Statement (.muovoSub a0 a1 a2) := fun _ _ _ => rfl
theorem muovoMul : ∀ a0 a1 a2, Statement (.muovoMul a0 a1 a2) := fun _ _ _ => rfl
theorem muovoAnd : ∀ a0 a1 a2, Statement (.muovoAnd a0 a1 a2) := fun _ _ _ => rfl
theorem muovoOr : ∀ a0 a1 a2, Statement (.muovoOr a0 a1 a2) := fun _ _ _ => rfl
theorem muovoXor : ∀ a0 a1 a2, Statement (.muovoXor a0 a1 a2) := fun _ _ _ => rfl
theorem muovoShl : ∀ a0 a1 a2, Statement (.muovoShl a0 a1 a2) := fun _ _ _ => rfl
theorem muovoShr : ∀ a0 a1 a2, Statement (.muovoShr a0 a1 a2) := fun _ _ _ => rfl
theorem muovoMin : ∀ a0 a1 a2, Statement (.muovoMin a0 a1 a2) := fun _ _ _ => rfl
theorem muovoMax : ∀ a0 a1 a2, Statement (.muovoMax a0 a1 a2) := fun _ _ _ => rfl
theorem muovoSlt : ∀ a0 a1 a2, Statement (.muovoSlt a0 a1 a2) := fun _ _ _ => rfl
theorem muovoSle : ∀ a0 a1 a2, Statement (.muovoSle a0 a1 a2) := fun _ _ _ => rfl
theorem muovoSeq : ∀ a0 a1 a2, Statement (.muovoSeq a0 a1 a2) := fun _ _ _ => rfl
theorem muovoSel : ∀ a0 a1 a2, Statement (.muovoSel a0 a1 a2) := fun _ _ _ => rfl
theorem muovoAddi : ∀ a0 a1 a2, Statement (.muovoAddi a0 a1 a2) := fun _ _ _ => rfl
theorem muovoLdc : ∀ a0 a1, Statement (.muovoLdc a0 a1) := fun _ _ => rfl
theorem muovoLda : ∀ a0 a1 a2 a3, Statement (.muovoLda a0 a1 a2 a3) := fun _ _ _ _ => rfl
theorem muovoSta : ∀ a0 a1 a2 a3, Statement (.muovoSta a0 a1 a2 a3) := fun _ _ _ _ => rfl
theorem muovoLdp : ∀ a0 a1 a2, Statement (.muovoLdp a0 a1 a2) := fun _ _ _ => rfl
theorem muovoStdec : ∀ a0 a1, Statement (.muovoStdec a0 a1) := fun _ _ => rfl
theorem muovoBf : ∀ a0 a1, Statement (.muovoBf a0 a1) := fun _ _ => rfl
theorem muovoBt : ∀ a0 a1, Statement (.muovoBt a0 a1) := fun _ _ => rfl
theorem muovoJf : ∀ a0, Statement (.muovoJf a0) := fun _ => rfl
theorem muovoLoop : ∀ a0 a1, Statement (.muovoLoop a0 a1) := fun _ _ => rfl
theorem muovoRet : Statement (.muovoRet) := rfl
theorem rfetch : ∀ a0 a1 a2, Statement (.rfetch a0 a1 a2) := fun _ _ _ => rfl
theorem xhallBfx : ∀ a0 a1 a2, Statement (.xhallBfx a0 a1 a2) := fun _ _ _ => rfl
theorem swait : ∀ a0 a1 a2, Statement (.swait a0 a1 a2) := fun _ _ _ => rfl
theorem disp : ∀ a0 a1, Statement (.disp a0 a1) := fun _ _ => rfl
theorem abortTeam : ∀ a0 a1, Statement (.abortTeam a0 a1) := fun _ _ => rfl
theorem abortGrid : ∀ a0, Statement (.abortGrid a0) := fun _ => rfl
theorem swaitEnd : ∀ a0 a1, Statement (.swaitEnd a0 a1) := fun _ _ => rfl
theorem fairnessPromotion : ∀ a0 a1, Statement (.fairnessPromotion a0 a1) := fun _ _ => rfl
theorem savingEntry : ∀ a0 a1, Statement (.savingEntry a0 a1) := fun _ _ => rfl
theorem sequencerSavingEntry : ∀ a0, Statement (.sequencerSavingEntry a0) := fun _ => rfl
theorem reservationLapse : ∀ a0 a1, Statement (.reservationLapse a0 a1) := fun _ _ => rfl
theorem sleepExpiry : ∀ a0 a1, Statement (.sleepExpiry a0 a1) := fun _ _ => rfl
theorem arcadeRingCycle : ∀ a0, Statement (.arcadeRingCycle a0) := fun _ => rfl
theorem gbudgetWrite : ∀ a0 a1, Statement (.gbudgetWrite a0 a1) := fun _ _ => rfl
theorem byteBudgetInterval : Statement (.byteBudgetInterval) := rfl
theorem memoryAccessPerformed : ∀ a0 a1, Statement (.memoryAccessPerformed a0 a1) := fun _ _ => rfl
theorem loadDataReturn : ∀ a0 a1, Statement (.loadDataReturn a0 a1) := fun _ _ => rfl
theorem instructionFetch : ∀ a0 a1, Statement (.instructionFetch a0 a1) := fun _ _ => rfl
theorem walk : ∀ a0 a1, Statement (.walk a0 a1) := fun _ _ => rfl
theorem awaitEnd : ∀ a0 a1, Statement (.awaitEnd a0 a1) := fun _ _ => rfl
theorem barComplete : ∀ a0, Statement (.barComplete a0) := fun _ => rfl
theorem xwaitEnd : ∀ a0 a1, Statement (.xwaitEnd a0 a1) := fun _ _ => rfl
theorem nbarWaitEnd : ∀ a0 a1, Statement (.nbarWaitEnd a0 a1) := fun _ _ => rfl
theorem lwaitEnd : ∀ a0 a1, Statement (.lwaitEnd a0 a1) := fun _ _ => rfl
theorem launchDecided : ∀ a0 a1, Statement (.launchDecided a0 a1) := fun _ _ => rfl
theorem clockComplete : ∀ a0 a1, Statement (.clockComplete a0 a1) := fun _ _ => rfl
theorem copyUnitDeliver : ∀ a0, Statement (.copyUnitDeliver a0) := fun _ => rfl
theorem metadataEntryPush : ∀ a0, Statement (.metadataEntryPush a0) := fun _ => rfl
theorem codebookWrite : ∀ a0, Statement (.codebookWrite a0) := fun _ => rfl
theorem peerLineAck : ∀ a0 a1, Statement (.peerLineAck a0 a1) := fun _ _ => rfl
theorem nearBankTranslate : ∀ a0, Statement (.nearBankTranslate a0) := fun _ => rfl
theorem nearBankRowDeliver : ∀ a0, Statement (.nearBankRowDeliver a0) := fun _ => rfl
theorem arrivalObjectUpdate : ∀ a0, Statement (.arrivalObjectUpdate a0) := fun _ => rfl
theorem tileTaskIssue : ∀ a0 a1, Statement (.tileTaskIssue a0 a1) := fun _ _ => rfl
theorem tileTaskRetire : ∀ a0 a1, Statement (.tileTaskRetire a0 a1) := fun _ _ => rfl
theorem teamEnd : ∀ a0, Statement (.teamEnd a0) := fun _ => rfl
theorem gridRetire : ∀ a0, Statement (.gridRetire a0) := fun _ => rfl
theorem notifyWrite : ∀ a0 a1 a2 a3, Statement (.notifyWrite a0 a1 a2 a3) := fun _ _ _ _ => rfl
theorem badpkt : ∀ a0, Statement (.badpkt a0) := fun _ => rfl
theorem launchPacket : ∀ a0, Statement (.launchPacket a0) := fun _ => rfl
theorem copyPacket : ∀ a0 a1, Statement (.copyPacket a0 a1) := fun _ _ => rfl
theorem queueCopyComplete : ∀ a0, Statement (.queueCopyComplete a0) := fun _ => rfl
theorem signalPacket : ∀ a0, Statement (.signalPacket a0) := fun _ => rfl
theorem waitPacket : ∀ a0, Statement (.waitPacket a0) := fun _ => rfl
theorem waitConditionMet : ∀ a0, Statement (.waitConditionMet a0) := fun _ => rfl
theorem policyLoad : ∀ a0, Statement (.policyLoad a0) := fun _ => rfl
theorem policyLoadInstalled : ∀ a0, Statement (.policyLoadInstalled a0) := fun _ => rfl
theorem faultReply : ∀ a0, Statement (.faultReply a0) := fun _ => rfl
theorem publishCode : ∀ a0 a1, Statement (.publishCode a0 a1) := fun _ _ => rfl
theorem publishCodeComplete : ∀ a0, Statement (.publishCodeComplete a0) := fun _ => rfl
theorem completionRecordWrite : ∀ a0 a1, Statement (.completionRecordWrite a0 a1) := fun _ _ => rfl
theorem eventRingTimeTrigger : ∀ a0 a1, Statement (.eventRingTimeTrigger a0 a1) := fun _ _ => rfl
theorem loadAqi : ∀ a0, Statement (.loadAqi a0) := fun _ => rfl
theorem loadAqiComplete : Statement (.loadAqiComplete) := rfl
theorem invPasid : ∀ a0 a1 a2 a3, Statement (.invPasid a0 a1 a2 a3) := fun _ _ _ _ => rfl
theorem invPasidComplete : ∀ a0 a1, Statement (.invPasidComplete a0 a1) := fun _ _ => rfl
theorem invS2 : ∀ a0, Statement (.invS2 a0) := fun _ => rfl
theorem invS2Complete : Statement (.invS2Complete) := rfl
theorem invIrte : ∀ a0, Statement (.invIrte a0) := fun _ => rfl
theorem loadPool : ∀ a0, Statement (.loadPool a0) := fun _ => rfl
theorem loadPeer : ∀ a0, Statement (.loadPeer a0) := fun _ => rfl
theorem cfgcmdBadOp : ∀ a0, Statement (.cfgcmdBadOp a0) := fun _ => rfl
theorem erctlWrite : ∀ a0 a1 a2 a3, Statement (.erctlWrite a0 a1 a2 a3) := fun _ _ _ _ => rfl
theorem fqctlWrite : ∀ a0 a1 a2, Statement (.fqctlWrite a0 a1 a2) := fun _ _ _ => rfl
theorem fdropRead : ∀ a0, Statement (.fdropRead a0) := fun _ => rfl
theorem irblkRead : Statement (.irblkRead) := rfl
theorem registerWrite : ∀ a0 a1 a2, Statement (.registerWrite a0 a1 a2) := fun _ _ _ => rfl
theorem functionLevelReset : ∀ a0, Statement (.functionLevelReset a0) := fun _ => rfl
theorem hostCxlMemAccess : ∀ a0 a1 a2 a3 a4, Statement (.hostCxlMemAccess a0 a1 a2 a3 a4) := fun _ _ _ _ _ => rfl
theorem bisnpResponse : ∀ a0, Statement (.bisnpResponse a0) := fun _ => rfl
theorem hostPortTrained : ∀ a0, Statement (.hostPortTrained a0) := fun _ => rfl
theorem scaleupPortTrained : ∀ a0, Statement (.scaleupPortTrained a0) := fun _ => rfl
theorem scaleupPortFailed : ∀ a0, Statement (.scaleupPortFailed a0) := fun _ => rfl
theorem peerLineInbound : ∀ a0 a1 a2 a3, Statement (.peerLineInbound a0 a1 a2 a3) := fun _ _ _ _ => rfl
theorem enqDecision : ∀ a0, Statement (.enqDecision a0) := fun _ => rfl
theorem hypPickDecision : Statement (.hypPickDecision) := rfl
theorem pickDecision : ∀ a0, Statement (.pickDecision a0) := fun _ => rfl
theorem tickDecision : ∀ a0, Statement (.tickDecision a0) := fun _ => rfl
theorem hypTickDecision : Statement (.hypTickDecision) := rfl
theorem blockDecision : ∀ a0, Statement (.blockDecision a0) := fun _ => rfl
theorem wakeDecision : ∀ a0, Statement (.wakeDecision a0) := fun _ => rfl
theorem migrateDecision : ∀ a0, Statement (.migrateDecision a0) := fun _ => rfl
theorem tenantTickExpiry : ∀ a0 a1, Statement (.tenantTickExpiry a0 a1) := fun _ _ => rfl
theorem hypTickExpiry : Statement (.hypTickExpiry) := rfl
theorem blockWaitTimeout : ∀ a0, Statement (.blockWaitTimeout a0) := fun _ => rfl
theorem contextSaveComplete : ∀ a0, Statement (.contextSaveComplete a0) := fun _ => rfl
theorem frameMoveComplete : ∀ a0, Statement (.frameMoveComplete a0) := fun _ => rfl
theorem discmd : ∀ a0, Statement (.discmd a0) := fun _ => rfl
theorem discardComplete : Statement (.discardComplete) := rfl
theorem homeq : ∀ a0, Statement (.homeq a0) := fun _ => rfl
theorem watchdogExpiry : ∀ a0, Statement (.watchdogExpiry a0) := fun _ => rfl
theorem softErrorCorrectable : ∀ a0 a1 a2, Statement (.softErrorCorrectable a0 a1 a2) := fun _ _ _ => rfl
theorem softErrorUncorrectable : ∀ a0 a1 a2 a3 a4 a5, Statement (.softErrorUncorrectable a0 a1 a2 a3 a4 a5) := fun _ _ _ _ _ _ => rfl
theorem deviceReset : Statement (.deviceReset) := rfl
theorem bootStageComplete : Statement (.bootStageComplete) := rfl
theorem doeDiscovery : ∀ a0, Statement (.doeDiscovery a0) := fun _ => rfl
theorem getVersion : ∀ a0, Statement (.getVersion a0) := fun _ => rfl
theorem getCapabilities : ∀ a0, Statement (.getCapabilities a0) := fun _ => rfl
theorem negotiateAlgorithms : ∀ a0 a1 a2 a3, Statement (.negotiateAlgorithms a0 a1 a2 a3) := fun _ _ _ _ => rfl
theorem getDigests : ∀ a0, Statement (.getDigests a0) := fun _ => rfl
theorem getCertificate : ∀ a0 a1 a2 a3, Statement (.getCertificate a0 a1 a2 a3) := fun _ _ _ _ => rfl
theorem challenge : ∀ a0 a1 a2, Statement (.challenge a0 a1 a2) := fun _ _ _ => rfl
theorem getMeasurements : ∀ a0 a1 a2 a3 a4, Statement (.getMeasurements a0 a1 a2 a3 a4) := fun _ _ _ _ _ => rfl
theorem spdmUnsupportedRequest : ∀ a0 a1, Statement (.spdmUnsupportedRequest a0 a1) := fun _ _ => rfl
theorem doeAbort : Statement (.doeAbort) := rfl
theorem clctlPoolWrite : ∀ a0 a1, Statement (.clctlPoolWrite a0 a1) := fun _ _ => rfl
theorem poolTakesEffect : ∀ a0, Statement (.poolTakesEffect a0) := fun _ => rfl
theorem stallSample : Statement (.stallSample) := rfl
theorem optctlClr : ∀ a0, Statement (.optctlClr a0) := fun _ => rfl
theorem frequencySwitch : ∀ a0, Statement (.frequencySwitch a0) := fun _ => rfl
theorem railHoldExpiry : ∀ a0, Statement (.railHoldExpiry a0) := fun _ => rfl
theorem railReachesTarget : ∀ a0, Statement (.railReachesTarget a0) := fun _ => rfl
theorem trimctlWrite : ∀ a0, Statement (.trimctlWrite a0) := fun _ => rfl
theorem trimReview : Statement (.trimReview) := rfl
theorem trimDisableExpiry : ∀ a0, Statement (.trimDisableExpiry a0) := fun _ => rfl
theorem thermalSensorChange : ∀ a0 a1, Statement (.thermalSensorChange a0 a1) := fun _ _ => rfl
theorem thermalEmergency : ∀ a0, Statement (.thermalEmergency a0) := fun _ => rfl
theorem railErrorCountRead : ∀ a0 a1, Statement (.railErrorCountRead a0 a1) := fun _ _ => rfl
theorem accountingSnapshot : ∀ a0, Statement (.accountingSnapshot a0) := fun _ => rfl
theorem rv64gcInstruction : ∀ a0, Statement (.rv64gcInstruction a0) := fun _ => rfl
theorem msixVectorUnmask : ∀ a0 a1 a2, Statement (.msixVectorUnmask a0 a1 a2) := fun _ _ _ => rfl
theorem peerRefused : ∀ a0, Statement (.peerRefused a0) := fun _ => rfl

end Sys2Proof.Laws.Encodes
end

