-- ==== Sys2Proof/Laws/Records.lean ====
section
/-! SUPPORT. What raising fault records and taking them to their queue can do: the provers cite these lemmas and unfold nothing. -/

namespace Sys2Proof.Machine

/-- A record raised joins the waiting records, and nothing else changes. -/
theorem raise_eq (s : State) (r : FaultRec) : s.raise r = { s with recs := s.recs ++ [r] } := rfl

/-- Records raised one after the other join the waiting records in order. -/
theorem raiseAll_state (rs : List FaultRec) : ∀ s : State, (s.raiseAll rs).1 = { s with recs := s.recs ++ rs } := by
  induction rs with
  | nil => intro s; simp [State.raiseAll]
  | cons r rest ih => intro s; simp [State.raiseAll, ih, raise_eq]

/-- No record: nothing is raised and nothing counts. -/
@[simp] theorem raiseAll_nil (s : State) : s.raiseAll [] = (s, []) := rfl

/-- One record counts exactly when it is written. -/
@[simp] theorem raiseAll_one (s : State) (r : FaultRec) :
    s.raiseAll [r] = (s.raise r, if s.written r then [r] else []) := rfl

/-- Counting a written record leaves the waiting records alone. -/
@[simp] theorem countRecord_recs (s : State) (r : FaultRec) : (s.countRecord r).recs = s.recs := by
  simp only [State.countRecord]; split <;> rfl

/-- A record of a grid that is not present counts nowhere. -/
theorem countRecord_absent (s : State) (r : FaultRec) (h : (s.grid r.grid).present = false) : s.countRecord r = s := by
  simp [State.countRecord, h]

/-- Without a waiting record there is nothing to drain. -/
theorem drain_nil (s : State) (h : s.recs = []) : s.drain = s := by
  cases s; simp only at h; subst h; rfl

/-- While FQEN = 0 a record is discarded. -/
theorem faultStep_off (s : State) (r : FaultRec) (h : (s.reg r.queue 8).getLsbD 1 = false) : s.faultStep r = (s, true) := by
  simp only [State.faultStep, h]; rfl

end Sys2Proof.Machine
end

