-- ==== Sys2Proof/Laws/Words.lean ====
section
/-! SUPPORT. What the two frames that vector and scalar words go through can do: `vecWord`, `drawWord`, `scalarWord`, each said once for
every word that uses it. -/

namespace Sys2Proof.Machine

/-- What makes a state ready. -/
theorem ready_iff (s : State) :
    s.ready = true ↔ s.cur.fails = [] ∧ s.cur.blocked = none ∧ s.cur.dry = false ∧ s.cur.serves = true ∧ s.cur.act ≠ 0 := by
  simp only [State.ready, Bool.and_eq_true, List.isEmpty_iff, Option.isNone_iff_eq_none, Bool.not_eq_true', bne_iff_ne, ne_eq,
    and_assoc]

/-- `finish` on a clean bundle changes, of the group on the port, its place in the program and, at the end of a pass, its loop
counters. -/
theorem finish_clean (c : BitVec 1) (s : State) (hf : s.cur.fails = []) (hb : s.cur.blocked = none) (hd : s.cur.dry = false) :
    ∃ G lc g, finish c s = (s.mapCg (fun _ => G)).mapCur g ∧ (∀ c, (g c).gk = c.gk ∧ (g c).seed = c.seed) ∧
      G.core = { s.cg.core with regs := { s.cg.regs with lc := lc } } ∧
      (c = 1 ∨ s.cur.entry.owner = false → lc = s.cg.regs.lc) ∧
      (s.cur.exited = 0 → G.rest = { s.cg.rest with regs := { s.cg.regs with lc := lc } }) ∨
    finish c s = s.mapCur (fun x => { x with wpc := x.wpc + 4 }) := by
  by_cases hc : c = 1
  · refine ⟨s.cg, s.cg.regs.lc, id, Or.inr ?_⟩
    simp [finish, hc]
  · obtain ⟨G, lc, g, h1, h2, h3, h4, h5⟩ := commit_clean s hf
    refine ⟨G, lc, g, Or.inl ⟨?_, h2, h3, ?_, h5⟩⟩
    · rw [← h1, finish, if_neg (by rintro (h | h); exacts [hc h, by simp [hd] at h]), hb]
    · rintro (h | h)
      · exact absurd h hc
      · exact h4 h

/-- The frame and the registers of a word that changed registers of the group on the port, and perhaps the SEED that the next word
draws with, and then ended. -/
theorem finish_regs (c : BitVec 1) (s : State) (f : Regs → Regs) (x : Dword) (hf : s.cur.fails = []) (hb : s.cur.blocked = none)
    (hd : s.cur.dry = false) :
    let t := finish c ((s.mapRegs f).mapCur (fun c => { c with seed := x }))
    GroupOnly s t ∧ t.cur.seed = x ∧
    ∃ lc, t.cg.regs = { f s.cg.regs with lc := lc } ∧ (c = 1 ∨ s.cur.entry.owner = false → lc = (f s.cg.regs).lc) := by
  intro t
  have hcg : ((s.mapRegs f).mapCur (fun c => { c with seed := x })).cg = { s.cg with regs := f s.cg.regs } :=
    nget_nput_same _ _ _ _
  obtain ⟨G, lc, g, h⟩ := finish_clean c ((s.mapRegs f).mapCur (fun c => { c with seed := x })) hf hb hd
  rcases h with ⟨h1, h2, h3, h4, h5⟩ | h1
  · have hk : t.cur.gk = s.cur.gk := by show (finish c _).cur.gk = _; rw [h1]; exact (h2 _).1
    have hg : t.cg = G := by
      rw [State.cg, hk]
      show (finish c _).group _ = _
      rw [h1]
      exact nget_nput_same _ _ _ _
    rw [hcg] at h3 h4 h5
    refine ⟨⟨?_, ?_, hk, ?_, ?_, ?_⟩, ?_, lc, ?_, ?_⟩
    · show (finish c _).elsewhere = _; rw [h1]; rfl
    · intro a; show mread (finish c _).mem a = _; rw [h1]; rfl
    · intro k hne
      show (finish c _).group k = _
      rw [h1]
      exact (nget_nput_ne _ _ _ hne).trans (nget_nput_ne _ _ _ hne)
    · rw [hg]
      have := congrArg (fun x : Group => { x with
        regs := s.cg.regs, frontier := s.cg.frontier, landings := s.cg.landings, loops := s.cg.loops,
        parked := s.cg.parked, resv := s.cg.resv }) h3
      exact this
    · intro he
      rw [hg]
      have h5 := h5 he
      have h6 := congrArg (fun x : Group => (x.parked, x.resv)) h5
      exact Prod.mk.inj h6
    · show (finish c _).cur.seed = _; rw [h1]; exact (h2 _).2
    · rw [hg]; exact congrArg Group.regs h3
    · exact h4
  · have hk : t.cur.gk = s.cur.gk := by show (finish c _).cur.gk = _; rw [h1]; rfl
    have hg : t.cg = { s.cg with regs := f s.cg.regs } := by
      show (finish c _).cg = _
      rw [h1]; exact hcg
    refine ⟨⟨?_, ?_, hk, ?_, ?_, ?_⟩, ?_, (f s.cg.regs).lc, ?_, ?_⟩
    · show (finish c _).elsewhere = _; rw [h1]; rfl
    · intro a; show mread (finish c _).mem a = _; rw [h1]; rfl
    · intro k hne
      show (finish c _).group k = _
      rw [h1]
      exact nget_nput_ne _ _ _ hne
    · rw [hg]
    · intro _; rw [hg]; exact ⟨rfl, rfl⟩
    · show (finish c _).cur.seed = _; rw [h1]; rfl
    · rw [hg]
    · intro _; rfl

/-- Legal latch reads fail no lane. -/
theorem latchFails_none {s : State} {codes : List (BitVec 6)} (h : s.latchesOk codes = true) : latchFails s codes = [] := by
  unfold latchFails
  rw [if_neg]
  intro hc
  rw [List.any_eq_true] at hc
  obtain ⟨c, hm, hc⟩ := hc
  have := (List.all_eq_true.1 h) c hm
  revert this hc
  cases isLatch c <;> cases latchLegal s c <;> simp

/-- No failures change nothing. -/
theorem addFails_none (s : State) : addFails [] s = s := by
  have h : s.cur.act &&& ~~~(0 : LaneMask) = s.cur.act := by
    rw [show ~~~(0 : LaneMask) = BitVec.allOnes 32 by decide, BitVec.and_allOnes]
  show s.mapCur (fun c => { c with fails := c.fails ++ [], act := c.act &&& ~~~0 }) = s
  simp only [State.mapCur, List.append_nil, h]

theorem mapRegs_mapRegs (s : State) (f g : Regs → Regs) : (s.mapRegs f).mapRegs g = s.mapRegs (fun r => g (f r)) := by
  unfold State.mapRegs; rw [mapCg_mapCg]

/-- The registers after a vector word. -/
def drawnRegs (pipe : Nat) (draws : Bool) (k : BitVec 1) (d : BitVec 6) (r : VReg × BitVec 8) (s : State) (x : Regs) : Regs :=
  let y := pushLatch pipe s.cur.act r.1 s.cur.chain s.cur.wpc x
  let y := raiseFlags r.2 (if k = 1 then y else writeV d s.cur.act r.1 0 y)
  if draws = true ∧ s.renv.rm = 5 then { y with seed := srAdvance s.cur.seed } else y

/-- Only what a change of the issue context does to the present one counts. -/
theorem mapCur_congr (s : State) (f g : Cur → Cur) (h : f s.cur = g s.cur) : s.mapCur f = s.mapCur g := by
  unfold State.mapCur; rw [h]

/-- A SEED set to itself. -/
theorem mapCur_seed_self (s : State) : s.mapCur (fun c => { c with seed := s.cur.seed }) = s := rfl

/-- What the advance of SEED after a change of registers comes to. -/
theorem advanceSeed_mapRegs (draws : Bool) (s : State) (g : Regs → Regs) :
    advanceSeed draws (s.mapRegs g) =
      (s.mapRegs (fun r => if draws = true ∧ s.renv.rm = 5 then { g r with seed := srAdvance s.cur.seed } else g r)).mapCur
        (fun c => { c with seed := if draws = true ∧ s.renv.rm = 5 then srAdvance s.cur.seed else s.cur.seed }) := by
  have hr : (s.mapRegs g).renv = s.renv := rfl
  unfold advanceSeed
  rw [hr]
  by_cases hd : draws = true ∧ s.renv.rm = 5
  · rw [if_pos hd, mapRegs_mapRegs]
    simp only [if_pos hd]
    exact mapCur_congr _ _ _ rfl
  · rw [if_neg hd]
    simp only [if_neg hd]
    exact (mapCur_seed_self (s.mapRegs g)).symm

theorem drawWord_regs (pipe : Nat) (draws : Bool) (c k : BitVec 1) (d : BitVec 6) (reads : List (BitVec 6))
    (f : State → VReg × BitVec 8) (s : State) (hs : s.ready = true) (hl : s.latchesOk reads = true) :
    drawWord pipe draws c k d reads f s = .next (finish c ((s.mapRegs (drawnRegs pipe draws k d (f s) s)).mapCur
      (fun c => { c with seed := if draws = true ∧ s.renv.rm = 5 then srAdvance s.cur.seed else s.cur.seed }))) := by
  obtain ⟨-, -, -, -, ha⟩ := (ready_iff s).1 hs
  unfold drawWord
  simp only [latchFails_none hl, addFails_none]
  unfold putResult
  rw [if_neg ha, advanceSeed_mapRegs]
  rfl

theorem writeV_pushLatch_v (pipe : Nat) (m : LaneMask) (x : VReg) (ch : Nat) (wpc : Dword) (r : Regs) :
    (pushLatch pipe m x ch wpc r).v = r.v ∧ (pushLatch pipe m x ch wpc r).vtags = r.vtags := ⟨rfl, rfl⟩

theorem drawn_plain (pipe : Nat) (draws : Bool) (k : BitVec 1) (d : BitVec 6) (r : VReg × BitVec 8) (s : State) (x : Regs) :
    (drawnRegs pipe draws k d r s x).s = x.s ∧ (drawnRegs pipe draws k d r s x).stags = x.stags ∧
    (drawnRegs pipe draws k d r s x).p = x.p ∧ (drawnRegs pipe draws k d r s x).m = x.m ∧
    (drawnRegs pipe draws k d r s x).fpc = x.fpc ∧ (drawnRegs pipe draws k d r s x).lc = x.lc ∧
    (drawnRegs pipe draws k d r s x).seed = (if draws = true ∧ s.renv.rm = 5 then srAdvance s.cur.seed else x.seed) ∧
    (drawnRegs pipe draws k d r s x).nflags = x.nflags ||| r.2 ∧
    (drawnRegs pipe draws k d r s x).latch = (pushLatch pipe s.cur.act r.1 s.cur.chain s.cur.wpc x).latch ∧
    (drawnRegs pipe draws k d r s x).v = (if k = 1 then x else writeV d s.cur.act r.1 0 x).v ∧
    (drawnRegs pipe draws k d r s x).vtags = (if k = 1 then x else writeV d s.cur.act r.1 0 x).vtags := by
  unfold drawnRegs
  by_cases h1 : draws = true ∧ s.renv.rm = 5
  · rw [if_pos h1, if_pos h1]
    by_cases h2 : k = 1
    · rw [if_pos h2, if_pos h2]; exact ⟨rfl, rfl, rfl, rfl, rfl, rfl, rfl, rfl, rfl, rfl, rfl⟩
    · rw [if_neg h2, if_neg h2]; unfold writeV
      split <;> exact ⟨rfl, rfl, rfl, rfl, rfl, rfl, rfl, rfl, rfl, rfl, rfl⟩
  · rw [if_neg h1, if_neg h1]
    by_cases h2 : k = 1
    · rw [if_pos h2, if_pos h2]; exact ⟨rfl, rfl, rfl, rfl, rfl, rfl, rfl, rfl, rfl, rfl, rfl⟩
    · rw [if_neg h2, if_neg h2]; unfold writeV
      split <;> exact ⟨rfl, rfl, rfl, rfl, rfl, rfl, rfl, rfl, rfl, rfl, rfl⟩

/-- What a vector word that may draw does, in a ready bundle whose latch reads are legal: it answers a next state in which its
result is written, and nothing else but its registers has changed. -/
theorem drawWord_spec (pipe : Nat) (draws : Bool) (c k : BitVec 1) (d : BitVec 6) (reads : List (BitVec 6))
    (f : State → VReg × BitVec 8) (s : State) (w : Nat) (res : Nat → Nat × BitVec 8) (hw : goodWidth w)
    (hs : s.ready = true) (hl : s.latchesOk reads = true)
    (hv : ∀ e, e < 2048 / w → elem (f s).1 w e = (res e).1 % 2 ^ w)
    (hfl : ∀ i, (f s).2.getLsbD i = true ↔
      ∃ e, e < 2048 / w ∧ s.cur.act.getLsbD (laneOf w e) = true ∧ (res e).2.getLsbD i = true) :
    ∃ t, drawWord pipe draws c k d reads f s = .next t ∧ VecWritten pipe draws c k d w res s t := by
  rw [drawWord_regs _ _ _ _ _ _ _ _ hs hl]
  refine ⟨_, rfl, ?_⟩
  obtain ⟨h1, h2, h3, -⟩ := (ready_iff s).1 hs
  obtain ⟨hfr, hsd, lc, hr, hlc⟩ := finish_regs c s (drawnRegs pipe draws k d (f s) s)
    (if draws = true ∧ s.renv.rm = 5 then srAdvance s.cur.seed else s.cur.seed) h1 h2 h3
  obtain ⟨q1, q2, q3, q4, q5, q6, q7, q8, q9, q10, q11⟩ := drawn_plain pipe draws k d (f s) s s.cg.regs
  refine ⟨hfr, ?_, ?_, ?_, ?_, ?_, ?_, ?_, ?_, ?_, ?_, ?_, ?_⟩
  · rw [hr]; exact ⟨q1, q2⟩
  · rw [hr]; exact ⟨q3, q4, q5⟩
  · intro h; rw [hr, ← q6]; exact hlc h
  · exact ⟨by rw [hr]; exact q7, hsd⟩
  · intro i; rw [hr]; show (drawnRegs pipe draws k d (f s) s s.cg.regs).nflags.getLsbD i = true ↔ _
    rw [q8, BitVec.getLsbD_or, Bool.or_eq_true, hfl]
  · intro n hn; rw [hr]; simp only [q10, q11]
    by_cases hk : k = 1
    · simp [hk]
    · simp only [hk, if_false, writeV]
      split
      · exact ⟨nget_nput_ne _ _ _ hn, nget_nput_ne _ _ _ hn⟩
      · exact ⟨rfl, rfl⟩
  · intro h; rw [hr]; simp only [q10, q11]
    rcases h with h | h
    · simp [h]
    · simp only [writeV, if_neg (show ¬ d.toNat < 0x38 by omega)]; simp
  · intro hk hd e he; rw [hr]; simp only [q10]
    rw [if_neg (by rw [hk]; decide)]
    simp only [writeV, if_pos hd]
    rw [nget_nput_same, elem_mixLanes hw _ _ _ he, hv e he]
  · intro hk hd; rw [hr]; simp only [q11]
    rw [if_neg (by rw [hk]; decide)]
    simp only [writeV, if_pos hd]
    rw [nget_nput_same]; simp
  · intro e he; rw [hr]; simp only [q9, pushLatch]
    rw [nget_nput_same, elem_masked hw _ _ he, hv e he]
  · rw [hr]; simp only [q9, pushLatch]
    rw [nget_nput_ne _ _ _ (by omega), nget_nput_same]; rfl
  · intro n h1 h2; rw [hr]; simp only [q9, pushLatch]
    rw [nget_nput_ne _ _ _ h1, nget_nput_ne _ _ _ h2]

/-- What a vector word does, in a ready bundle whose latch reads are legal. -/
theorem vecWord_spec (pipe : Nat) (c k : BitVec 1) (d : BitVec 6) (reads : List (BitVec 6))
    (f : State → VReg × BitVec 8) (s : State) (w : Nat) (res : Nat → Nat × BitVec 8) (hw : goodWidth w)
    (hs : s.ready = true) (hl : s.latchesOk reads = true)
    (hv : ∀ e, e < 2048 / w → elem (f s).1 w e = (res e).1 % 2 ^ w)
    (hfl : ∀ i, (f s).2.getLsbD i = true ↔
      ∃ e, e < 2048 / w ∧ s.cur.act.getLsbD (laneOf w e) = true ∧ (res e).2.getLsbD i = true) :
    ∃ t, vecWord pipe c k d reads f s = .next t ∧ VecWritten pipe false c k d w res s t := by
  have h : vecWord pipe c k d reads f s = drawWord pipe false c k d reads f s := by
    simp [vecWord, drawWord, advanceSeed]
  rw [h]
  exact drawWord_spec pipe false c k d reads f s w res hw hs hl hv hfl

/-- What a scalar word without faults does, in a ready bundle. -/
theorem scalarWord_spec (c : BitVec 1) (d : BitVec 6) (val : Dword) (tag : Bool) (f : State → Regs → Regs) (s : State)
    (hs : s.ready = true) (hv : f s = writeS d val tag) :
    ∃ t, scalarWord c f s = .next t ∧ ScalarWritten c d val tag s t := by
  obtain ⟨h1, h2, h3, -, h4⟩ := (ready_iff s).1 hs
  refine ⟨_, rfl, ?_⟩
  rw [if_neg h4, hv]
  obtain ⟨hfr, -, lc, hr, hlc⟩ := finish_regs c s (writeS d val tag) s.cur.seed h1 h2 h3
  rw [show s.cur.seed = (s.mapRegs (writeS d val tag)).cur.seed from rfl, mapCur_seed_self] at hfr hr
  refine ⟨hfr, ?_, ?_, ?_, ?_⟩
  · rw [hr]
    refine ⟨nget_nput_same _ _ _ _, ?_⟩
    simp only [writeS]
    cases tag <;> simp [BitVec.getLsbD_or, BitVec.getLsbD_and, BitVec.getLsbD_not, BitVec.getLsbD_shiftLeft]
    · omega
  · intro n hn; rw [hr]
    refine ⟨nget_nput_ne _ _ _ hn, ?_⟩
    simp only [writeS]
    have hb : (1#64 <<< d.toNat).getLsbD n = false := by
      simp [BitVec.getLsbD_shiftLeft, BitVec.getLsbD_one]; omega
    cases tag <;> simp only [if_true, if_false, BitVec.getLsbD_or, BitVec.getLsbD_and, BitVec.getLsbD_not, hb, Bool.or_false,
      Bool.false_eq_true]
    by_cases hn64 : n < 64
    · simp [hn64]
    · simp [BitVec.getLsbD_of_ge _ _ (Nat.le_of_not_lt hn64)]
  · intro h; rw [hr]; exact hlc h
  · rw [hr]; rfl

end Sys2Proof.Machine
end

