-- ==== Sys2Proof/Tests/Slice0.lean ====
section
/-! SUPPORT. Tests: ill-formed terms that the checks refuse, words written out from the encoding tables, single words on a small
state, and for the statements with hypotheses a state that meets them. -/

namespace Sys2Proof.Tests
open Sys2Proof.Machine
set_option Elab.async false

/-! ## Ill-formed terms, one for each check of WellFormed -/

/-- R199: `dot2` has no 64-bit form. -/
theorem smoke_dot2 : (Instr.dot2 0 0 3 1 2 3).wf = false := by decide
/-- R208: TY of a float word is 0 to 3. -/
theorem smoke_float_type : (Instr.fadd 0 0 4 1 2 3).wf = false := by decide
/-- R210: `fdot2` takes bf16 and f16. -/
theorem smoke_fdot2 : (Instr.fdot2 0 0 1 1 2 3).wf = false := by decide
/-- R217: storage format 6 is reserved. -/
theorem smoke_quant : (Instr.quant 0 0 6 1 2 3).wf = false := by decide
/-- R215: `pack` has no 64-bit source. -/
theorem smoke_pack : (Instr.pack 0 0 3 1 2 3).wf = false := by decide
/-- R200: a shift count of the element's width is reserved. -/
theorem smoke_shift : (Instr.shli 0 0 1 2 0 8).wf = false := by decide
/-- R204: a lane number of 32 is reserved. -/
theorem smoke_lane : (Instr.stov 0 1 2 1 32).wf = false := by decide
/-- R233: AM 3 is for team memory. -/
theorem smoke_am : (Instr.ld 0 1 2 3 0 0).wf = false := by decide
/-- R252: scope 5 is reserved. -/
theorem smoke_scope : (Instr.fence 0 5 0).wf = false := by decide
/-- R264: `rsys` of an index that R266 does not list. -/
theorem smoke_rsys : (Instr.rsys 1 0x00A).wf = false := by decide
/-- R264: `tokq` selector 6 is reserved. -/
theorem smoke_tokq : (Instr.tokq 1 6).wf = false := by decide
/-- R303: accumulator column block 3 is reserved. -/
theorem smoke_tile_column : (Instr.tmma 0 1 1 3 0 0).wf = false := by decide

/-! ## Words written out from the spec's encodings -/

/-- Group words of majors 0 to 8 (worked cases of chapters 7 to 9). -/
theorem decode_compute : ([(0x01048083#32, .dot2 0 0 1 8 2 3), (0x10641087#32, .addsScalar 0 0 1 1 2 7), (0x180512FD#32, .addi 0 0 5 4 2 0xFD),
    (0x1C018328#32, .sadd 0 3 1 1 40), (0x20201000#32, .liS 0 4 0 0x1000), (0x1EA48911#32, .stov 0 9 4 1 17),
    (0x04641083#32, .fma 0 0 1 1 2 3), (0x16888085#32, .fdot2Scalar 0 0 2 8 2 5), (0x060C20C0#32, .fcls 0 0 3 2 3),
    (0x0804419A#32, .cvt 0 0 1 4 6 1 10), (0x09E01083#32, .fdiv 0 0 0 1 2 3), (0x0A08928B#32, .idiv 0 0 2 9 10 11),
    (0x0C245103#32, .slideUp 0 0 1 5 4 3), (0x0D809280#32, .sp24 0 0 0 9 10)] : List (Word × Instr)).all
    (fun p => decide (decodeGroup p.1 = .ok p.2)) = true := by decide
/-- Group words of majors 9 to 13 and 15 (worked cases of chapters 10 to 12). -/
theorem decode_memory_control : ([(0x248801A8#32, .ldtm 0 8 0 3 1 8), (0x284C2C6A#32, .stg 0 12 11 6 2 2), (0x2C080010#32, .bra 2 0x10),
    (0x2CC00040#32, .call 0x40), (0x2DB00008#32, .join 0xC00 8), (0x2DD182C0#32, .loop 1 6 11), (0x2D400000#32, .ret),
    (0x2E000000#32, .exit), (0x2EC40007#32, .trapc 1 7), (0x3C000C00#32, .prio 0 0xC00), (0x3C238023#32, .rsys 7 0x23),
    (0x3C428043#32, .wsys 5 0x43), (0x3CC48004#32, .tokq 9 4), (0x3C60002A#32, .trap 0x2A), (0x322E1480#32, .arrive 0 3 2 5 8),
    (0x324D0C90#32, .await 0 3 1 3 9), (0x30EF1843#32, .amocas 0 3 3 6 4 0 3), (0x34040000#32, .xcpy 0 8),
    (0x34600030#32, .nbarArrive 0 3 0), (0x34828001#32, .nbarWait 0 5 1), (0x34C50000#32, .launch 0 10)] : List (Word × Instr)).all
    (fun p => decide (decodeGroup p.1 = .ok p.2)) = true := by decide
/-- Words of a tile stream (chapter 12). -/
theorem decode_tile : decodeTile 0x38040080#32 = .ok (.tslot 4 0x80) ∧ decodeTile 0x38200B03#32 = .ok (.tmma 0 1 1 2 0 3) ∧
    decodeTile 0x38421852#32 = .ok (.tmmas 2 3 0 0 1 1 2) ∧ decodeTile 0x38A50000#32 = .ok (.tcvt 5 0 0) ∧
    decodeTile 0x38E20003#32 = .ok (.twait 1 3) ∧ decodeTile 0x39001800#32 = .ok (.tarriveBarrier 0 3) ∧
    decodeTile 0x39203070#32 = .ok (.tloop 3 7) ∧ decodeTile 0x39400000#32 = .ok .tend := by
  refine ⟨?_, ?_, ?_, ?_, ?_, ?_, ?_, ?_⟩ <;> decide
/-- Words of a Muovo routine (the worked routine of chapter 17). -/
theorem decode_policy : decodeMuovo 0x0483FFFF#32 = some (.muovoLi 2 0x3FFFF) ∧ decodeMuovo 0x68000504#32 = some (.muovoLoop 5 4) ∧
    decodeMuovo 0x55500014#32 = some (.muovoLdp 5 4 0x14) ∧ decodeMuovo 0x35948000#32 = some (.muovoSlt 6 5 2) ∧
    decodeMuovo 0x4190C000#32 = some (.muovoSel 6 4 3) ∧ decodeMuovo 0x45100001#32 = some (.muovoAddi 4 4 1) ∧
    decodeMuovo 0x580C0000#32 = some (.muovoStdec 3 0) ∧ decodeMuovo 0x6C000000#32 = some .muovoRet := by
  refine ⟨?_, ?_, ?_, ?_, ?_, ?_, ?_, ?_⟩ <;> decide
/-- Words of the Xhall extension (chapter 19). -/
theorem decode_firmware : decodeXhall 0x00C5950B#32 = some (.xhallBfx 12 11 10) ∧ decodeXhall 0x0073228B#32 = some (.swait 7 6 5) := by
  constructor <;> decide
/-- Refused words: another stream, an unassigned function number, a reserved field, unused bits that are not 0. -/
theorem decode_refused : decodeGroup 0x38040080#32 = .error .wrongStream ∧ decodeGroup 0x03E00000#32 = .error (.unassigned 0) ∧
    decodeGroup 0x010C8083#32 = .error (.reservedField 0) ∧ decodeMuovo 0x6C000001#32 = none := by
  refine ⟨?_, ?_, ?_, ?_⟩ <;> decide

/-! ## A small state -/

/-- All lanes. -/
def all : LaneMask := 0xFFFFFFFF
/-- s1 5, s2 a mapped address, s3 0x40, s5 and s6 small; v2 counts from 1, v3 holds 2, v4 one mapped address per lane; p1 lanes 0-3. -/
def regs : Regs :=
  { Regs.reset with
    s := [(1, 5), (2, 0x30000), (3, 0x40), (5, 7), (6, 4)]
    v := [(2, image 32 (fun e => e + 1)), (3, image 32 (fun _ => 2)), (4, image 64 (fun l => 0x30000 + 8 * l)), (54, image 64 (fun _ => 0x20040))]
    p := [(1, 0xF)] }
/-- A PASID table, three levels and a leaf that maps the first 16 GiB onto itself for reading and writing. -/
def tables : List Host.Cell :=
  let m := mwriteN [] 0x10000 16 0x11001
  let m := mwriteN m 0x11000 8 0x12001
  let m := mwriteN m 0x12000 8 0x13001
  mwriteN m 0x13000 8 0x107
/-- A group of one team on core 0 with a bundle on the port. -/
def port : State :=
  { State.reset with
    mem := tables
    bar0 := [(0x50, 0x10000)]
    groups := [(0, { Group.reset with present := true, regs := regs })]
    teams := [(0, { Team.reset with present := true, grid := 1, gks := [0] })]
    grids := [(1, { placeGrid with hdr := 0x20000 })]
    cur := { Cur.reset with entry := { Entry.reset with mask := all, pc := 0x20040 }, act := all, pc := 0x20040, wpc := 0x20040,
                            npc := 0x20044, src := regs } }
/-- The same with a tile stream: accumulator, slots and numbered barriers are there. -/
def tilePort : State := { port with grids := [(1, { placeGrid with hdr := 0x20000, tsoff := 0x100 })],
                                    tiles := [(0, { Tile.reset with owned := true, pc := 0x20100, run := .fetching })] }
/-- Lanes 0 and 1 alone perform. -/
def two : State := port.mapCur fun c => { c with act := 3 }
/-- What a word leaves, read by a test. -/
def after {α : Type} (i : Instr) (s : State) (f : State → α) : Option α :=
  match exec i s with
  | .next u => some (f u)
  | _ => none
/-- Element `e` of a vector register of the group on the port. -/
def vec (d w e : Nat) (s : State) : Nat := elem (nget 0 s.cg.regs.v d) w e

/-! ## Single words -/

/-- R197: 63 + 1 wraps at 8 bits only in the low byte; e = 62 of v2 holds 63. -/
theorem test_add : after (.add 1 0 2 8 2 3) port (vec 8 32 62) = some 65 := by decide +kernel
theorem test_sub_wraps : after (.sub 1 0 2 8 3 2) port (vec 8 32 2) = some 0xFFFFFFFF := by decide +kernel
/-- R199: two products added to the old 64-bit element. -/
theorem test_mul_scalar : after (.mulScalar 1 0 2 8 2 5) port (vec 8 32 3) = some 28 := by decide +kernel
theorem test_addi_negative : after (.addi 1 0 8 2 2 0xFD) port (vec 8 32 0) = some 0xFFFFFFFE := by decide +kernel
/-- R203. -/
theorem test_sadd : after (.sadd 1 9 1 1 40) port (fun s => nget 0 s.cg.regs.s 9) = some 45 := by decide +kernel
theorem test_ssub_borrow : after (.ssub 1 9 6 0 5) port (fun s => nget 0 s.cg.regs.s 9) = some (-3) := by decide +kernel
/-- R206. -/
theorem test_li : after (.liS 1 4 1 0x1000) port (fun s => nget 0 s.cg.regs.s 4) = some 0x10000000 := by decide +kernel
/-- R209: 1.0 + 1.0 = 2.0 in f32, with no flag. -/
theorem test_fadd : after (.fadd 1 0 1 8 9 9) (port.mapCur fun c => { c with src := { c.src with v := [(9, image 32 (fun _ => 0x3F800000))] } })
    (fun s => (vec 8 32 5 s, s.cg.regs.nflags)) = some (0x40000000, 0) := by decide +kernel
/-- R218: a division by zero gives infinity and raises DZ. -/
theorem test_fdiv_zero : after (.fdiv 1 0 1 8 9 10) (port.mapCur fun c => { c with src := { c.src with v := [(9, image 32 (fun _ => 0x3F800000))] } })
    (fun s => (vec 8 32 5 s, s.cg.regs.nflags)) = some (0x7F800000, flagDZ) := by decide +kernel
/-- R219: a zero divisor fails its lane. -/
theorem test_idiv_zero : after (.idiv 1 0 1 8 2 10) port (fun s => (s.cur.act, s.cur.fails.length)) = some (0, 32) := by decide +kernel
/-- R225. -/
theorem test_red_add : after (.redAdd 1 0 2 8 2) port (vec 8 32 0) = some 2080 := by decide +kernel
/-- R233-R237: a store of lane values and a load back. -/
theorem test_st : after (.st 1 2 2 0 2 0) two (fun s => s.pread 0x30008 4) = some 3 := by decide +kernel
theorem test_ld : after (.ld 1 8 2 0 2 0) (two.pwrite 0x30004 4 77 false none) (vec 8 32 1) = some 77 := by decide +kernel
/-- R237: an unmapped address fails every lane. -/
theorem test_ld_unmapped : after (.lds 1 8 7 0 3 0) (port.mapCur fun c => { c with src := { c.src with s := [(7, 0x800000000)] } })
    (fun s => (s.cur.act, s.cur.fails.length)) = some (0, 32) := by decide +kernel
/-- R239: a misaligned address is a team-memory violation; of elements that write one place the last stands. -/
theorem test_sttm : after (.sttm 1 2 3 1 2 0) two (fun s => mreadN s.ct.tmem 0x40 4) = some 4 := by decide +kernel
theorem test_sttm_unaligned : after (.sttm 1 2 1 0 2 0) two (fun s => s.cur.fails.map (·.cause)) = some [none, none] := by decide +kernel
/-- R254: 32 lanes add their values to their own places. -/
theorem test_amoadd : after (.amoadd 1 3 0 2 4 0 3) two (fun s => s.pread 0x30008 8) = some 0x400000003 := by decide +kernel
/-- R246. -/
theorem test_bra : after (.bra 1 4) port (fun s => (s.group 0).frontier.map (fun e => (e.pc, e.mask))) =
    some [(0x20044, 0xFFFFFFF0), (0x20050, 0xF)] := by decide +kernel
/-- R247: v54 takes the address of the next word. -/
theorem test_call : after (.call 0x40) port (fun s => (vec 54 64 3 s, (s.group 0).frontier.map (·.pc))) = some (0x20044, [0x20140]) := by decide +kernel
/-- R248: every lane leaves, and the group is over. -/
theorem test_exit : after .exit port (fun s => (s.group 0).live) = some false := by decide +kernel
/-- R267. -/
theorem test_trap : after (.trap 0x2A) port (fun s => s.recs.map (fun r => (r.cause, r.va, r.park))) = some [(0x140, 0x2A, true)] := by decide +kernel
/-- R178. -/
theorem test_udf : after (.udf 0 0 5) port (fun s => s.recs.map (fun r => (r.cause, r.lanes))) = some [(0x00F, 0xFFFFFFFF)] := by decide +kernel
/-- R266. -/
theorem test_rsys : after (.rsys 9 0x041) port (fun s => nget 0 s.cg.regs.s 9) = some 0xF := by decide +kernel
theorem test_wsys : after (.wsys 1 0x010) port (fun s => s.cg.regs.fpc) = some 5 := by decide +kernel
/-- R260. -/
theorem test_arrive : after (.arrive 1 3 2 3 4) ((port.mapCur fun c => { c with act := 1 }).pwrite 0x30000 4 2 false none)
    (fun s => (s.pread 0x30004 4, s.pread 0x30008 2)) = some (0, 1) := by decide +kernel
/-- R273: a descriptor that is not in team memory. -/
theorem test_xcpy_range : after (.xcpy 1 1) port (fun s => s.cur.fails.map (·.cause) |>.head?) = some (some (some 0x100)) := by decide +kernel
/-- R294. -/
theorem test_nbar : after (.nbarArrive 1 0 3) tilePort (fun s => (s.nbar 0 3).gen) = some 1 := by decide +kernel
/-- R300: a task enters the table. -/
theorem test_tzero : after (.tzero 1 2) tilePort (fun s => ((s.tile 0).table.length, (s.tile 0).pc)) = some (1, 0x20104) := by decide +kernel
theorem test_tend : after .tend tilePort (fun s => (s.tile 0).run) = some .ended := by decide +kernel

/-! ## States that meet the hypotheses of the statements -/

/-- A latch of the bundle's chain and packet. -/
def latched : State := port.mapCur fun c => { c with chain := 1, src := { c.src with latch := [(0, { val := 0, chain := 1, packet := 0x20040 })] } }

theorem witness_VectorIntegerResults : port.ready = true ∧ port.latchesOk [2, 3, 8] = true ∧
    latched.ready = true ∧ latched.latchesOk [0x38, 0x37, 0x3E] = true ∧ latched.latchesOk [0x39] = false := by decide +kernel
theorem witness_UnaryAndDotResults : port.ready = true ∧ port.latchesOk [2, 3, 8] = true ∧ (2 : BitVec 3).toNat % 4 ≠ 3 := by decide +kernel
theorem witness_RegisterImmediateResults : port.ready = true ∧ port.latchesOk [2] = true ∧ (7 : BitVec 8).toNat < widthOf 0 := by decide +kernel
theorem witness_ScalarResults : port.ready = true ∧ (port.sreg 5).toInt ≠ 0 ∧ (port.sreg 9).toInt = 0 ∧
    port.cur.act = port.cur.entry.mask := by decide +kernel
theorem witness_LaneMoveResults : port.ready = true ∧ (31 : BitVec 8).toNat < 32 ∧ port.latchesOk [2] = true := by decide +kernel
theorem witness_LongImmediateResults : port.ready = true ∧ port.latchesOk [8] = true := by decide +kernel
theorem witness_FloatArithmeticResults : port.ready = true ∧ port.latchesOk [2, 3, 8] = true := by decide +kernel
theorem witness_FloatOrderResults : port.ready = true ∧ port.latchesOk [2, 3] = true := by decide +kernel
theorem witness_FloatUnaryAndDivideResults : port.ready = true ∧ port.latchesOk [2, 3, 8] = true ∧ ((2 : BitVec 3) = 2 ∨ (2 : BitVec 3) = 3) := by
  decide +kernel
theorem witness_RoundingKeepsRepresentable : 0x3F800000 < 2 ^ FFmt.f32.bits ∧ REnv.rne.fzo = false ∧
    (∃ g m e, valueOf .f32 0x3F800000 = .num g m e) ∧ ∃ g m e, valueOf .f32 1 = .num g m e := by
  refine ⟨by decide, rfl, ⟨_, _, _, rfl⟩, ⟨_, _, _, rfl⟩⟩
theorem witness_ConversionResults : port.ready = true ∧ port.latchesOk [2, 3] = true ∧ (6 : BitVec 3).toNat % 4 ≠ 3 := by decide +kernel
theorem witness_QuantResults : port.ready = true ∧ (5 : BitVec 3).toNat < 6 ∧ port.latchesOk [2, 3] = true := by decide +kernel
theorem witness_VectorDivide : port.ready = true ∧ port.latchesOk [2, 3] = true ∧
    (∀ e, e < 64 → elem (port.opnd 3 32) 32 e ≠ 0) ∧ elem (port.opnd 9 32) 32 63 = 0 := by decide +kernel
theorem witness_SpecialFunctionResults : (3 : BitVec 3).toNat < 4 ∧ port.ready = true ∧ port.latchesOk [2] = true := by decide +kernel
theorem witness_CrossLaneResults : port.ready = true ∧ port.latchesOk [2, 3] = true := by decide +kernel
/-- The run exponent of `merge2` at both sides of its range. -/
theorem witness_SortMergeSparse : port.ready = true ∧ port.latchesOk [2, 3] = true ∧ elem (port.opnd 3 32) 32 0 < 8 ∧
    2 * 2 ^ elem (port.opnd 3 32) 32 0 ≤ 2048 / 32 ∧ 2048 / 32 < 2 * 2 ^ 6 := by decide +kernel

/-- A node that reads, a context without stage 2 and without a cached leaf; addresses that fail each check of an access in turn. -/
theorem witness_HomeWrite : 0 < 4 ∧ 0x3003C % 64 + 4 ≤ 64 ∧ isHost 0x3003C = false ∧ isHost (2 ^ 51) = true ∧
    (port.nodeRead (hostAt none 0x11000) false).toOption = some 0x12001 ∧ (nget 0 port.vfTab 0).getLsbD 0 = false ∧ port.tlb1 = [] ∧
    (0x0200000000000000 : Dword).extractLsb' 57 7 ≠ 0 ∧ (0x0200000000000000 : Dword).getLsbD 56 = false ∧ (0x30001 : Dword).toNat % 8 ≠ 0 ∧
    (port.translate 0 0 0x30000).toOption.isSome = true ∧ (port.translate 0 0 0x800000000).toOption.isSome = false ∧
    (port.checkElem port.agent (readAsk 4 true) 0x800000000).toOption.isSome = false ∧ (laneElems 32 0).head? = some 0 ∧
    (port.reg 0 0x58).toNat % 2 ^ 20 < (1 : BitVec 20).toNat ∧ isHbm ((port.reg 0 0x50).toNat + 16 * 0) = true ∧
    (port.pread 0x10000 16).testBit 0 = true := by decide +kernel
theorem witness_GlobalLoads : two.ready = true ∧ two.cur.replay = none ∧ two.cur.base = none ∧ activeElems two.cur.act 64 = [0, 1] ∧
    (∀ e ∈ [0, 1], (two.checkElem two.agent (readAsk 8 true) (0x30000 + BitVec.ofNat 64 (e * 8))).toOption.isSome = true) ∧
    ((two.incBase 0 2 0).serveWord ([0, 1].map fun e => (readAsk 8 true, 0x30000 + BitVec.ofNat 64 (e * 8)))).1 = true := by decide +kernel
theorem witness_GlobalStores : two.ready = true ∧ two.cur.replay = none ∧ two.cur.base = none ∧
    (∀ e ∈ [0, 1], (two.checkElem two.agent (writeAsk 8 false) (0x30000 + BitVec.ofNat 64 (e * 8))).toOption.map (·.pa) = some (0x30000 + e * 8)) ∧
    ((two.incBase 0 2 0).serveWord ([0, 1].map fun e => (writeAsk 8 false, 0x30000 + BitVec.ofNat 64 (e * 8)))).1 = true := by decide +kernel
theorem witness_UniformAccesses : port.ready = true ∧ port.cur.replay = none ∧ port.cur.base = none ∧
    (port.checkElem port.agent (readAsk 8 true) (port.sreg 2)).toOption.isSome = true ∧
    ((port.incBase 0 2 0).serveWord [(readAsk 8 true, port.sreg 2)]).1 = true ∧
    (port.checkElem port.agent (writeAsk 8 false) (port.sreg 2)).toOption.isSome = true ∧
    ((port.incBase 0 2 0).serveWord [(writeAsk 8 false, port.sreg 2)]).1 = true := by decide +kernel
/-- The last place of the declared team memory, the first one outside, and m-registers that hold a ring or none. -/
theorem witness_TeamMemoryWords : two.ready = true ∧ two.tmOk 0xFFF8 8 false = true ∧ two.tmOk 0xFFF8 8 true = true ∧
    two.tmOk 0xFFFC 8 true = false ∧ mValid two.tmSize 0 = false ∧ mValid 0x10000 (0x100 * 2 ^ 20) = true := by decide +kernel
/-- The accumulator: no tile stream, a row and column in range, a column that is not a multiple of 64. -/
theorem witness_AccumulatorRows : port.ready = true ∧ port.cgrid.tsoff = 0 ∧ tilePort.ready = true ∧ tilePort.cgrid.tsoff ≠ 0 ∧
    (tilePort.sreg 9).toNat / 256 % 256 % 64 = 0 ∧ tilePort.accBusy 0 0 = false ∧ (0x10100 : Nat) / 256 % 256 % 64 ≠ 0 := by decide +kernel

/-- The only word of a bundle, after which the lanes go on. -/
theorem witness_BranchTargets : port.plainEnd = true := by decide +kernel
theorem witness_CallsAndReturns : port.plainEnd = true ∧ (port.sreg 2).toNat % 4 = 0 ∧ (port.sreg 1).toNat % 4 ≠ 0 ∧
    port.cg.frontLanes &&& port.cur.act = 0 ∧ (∀ l, l < 32 → elem (nget 0 port.cur.src.v 54) 64 l % 4 = 0) ∧
    elem (image 64 (fun l => if l = 3 then 0x20042 else 0x20040)) 64 3 % 4 ≠ 0 := by decide +kernel
/-- R247: of 32 returning lanes the one whose own address is no multiple of 4 takes 0x0C4, and the others return. -/
theorem test_ret_bad : after .ret (port.mapCur fun c => { c with src := { c.src with v := [(54, image 64 (fun l => if l = 3 then 0x20042 else 0x20040))] } })
    (fun s => (s.recs.map (fun r => (r.cause, r.lanes)), (s.group 0).frontier.map (fun e => (e.pc, e.mask)))) =
    some ([(0x0C4, 8)], [(0x20040, 0xFFFFFFF7)]) := by decide +kernel
/-- The owner of a loop at the last word of its body. -/
def looping : State :=
  { (port.mapCur fun c => { c with entry := { c.entry with owner := true } }) with
    groups := [(0, { Group.reset with present := true, loops := [{ lc := 1, first := 0x20030, len := 4 }], regs := { regs with lc := [(1, 2)] } })] }
/-- A `loop` of a free level, one of a level in use by the owner, and a `join` within 4 MiB of the header. -/
theorem witness_JoinLoopExit : port.ready = true ∧ port.plainEnd = true ∧ port.cg.loops = [] ∧
    port.loopMisuse 1 4 (port.cur.wpc + 4) = false ∧ looping.loopMisuse 1 4 (port.cur.wpc + 4) = true ∧
    port.cg.landings.length < port.cgrid.ld ∧ port.cgrid.hdr.toNat ≤ 0x20040 ∧ port.sreg 1 ≠ 0 ∧ port.sreg 9 = 0 := by decide +kernel
theorem witness_TrapWords : port.plainEnd = true ∧ port.cg.frontLanes &&& port.cur.act = 0 ∧ port.cur.act &&& port.preg 1 ≠ 0 ∧
    port.cur.act &&& port.preg 2 = 0 := by decide +kernel
/-- An entry that sleeps its last cycle. -/
def sleeping : State :=
  { port with groups := [(0, { Group.reset with present := true, frontier := [{ Entry.reset with mask := 1, sleep := 1 }] })] }
theorem witness_PrioAndRest : port.plainEnd = true ∧ ((sleeping.group 0).frontier[0]?.map (·.sleep)) = some 1 := by decide +kernel
/-- Lanes 16-31 are held at a landing that waits for all. -/
def landing : State :=
  { (port.mapCur fun c => { c with act := 0xFFFF, entry := { c.entry with mask := 0xFFFF }, npc := 0x20080 }) with
    groups := [(0, { Group.reset with present := true, landings := [{ await := all, jprio := 5, joff := 0x20, held := 0xFFFF0000 }],
                                      frontier := [{ Entry.reset with mask := 0xFFFF0000, pc := 0x20080, held := true }] })] }
theorem witness_JoinReconverges :
    ({ landing with groups := nput landing.groups landing.cur.gk { landing.cg with landings := [] } } : State).plainEnd = true ∧
    landing.cg.landings.map (·.await) = [0xFFFF0000 ||| landing.cur.act] ∧ (0xFFFF0000 : LaneMask) &&& landing.cur.act = 0 ∧
    (landing.cg.frontier.all fun e => e.held && !e.owner && e.pc == 0x20080 && e.mask == 0xFFFF0000) = true ∧
    landing.cg.frontLanes = 0xFFFF0000 ∧ landing.cg.landings.map (·.pc landing.cgrid.hdr) = [landing.cur.npc] := by decide +kernel
theorem witness_LoopPasses : (looping.mapCur fun c => { c with entry := { c.entry with owner := false } }).plainEnd = true ∧
    looping.cur.entry.owner = true ∧ looping.cg.loops.length = 1 ∧ looping.cg.frontier = [] ∧
    looping.cur.npc - 4 = 0x20030 + 4 * BitVec.ofNat 64 4 := by decide +kernel

/-- One failure of each kind that `raiseFails` tells apart. -/
theorem witness_FaultsTaken : ([failOf 0x0C4 0, failOf 0x0C4 31].all fun e => e.cause == some 0x0C4 && decide (e.lane < 32)) = true ∧
    (failOf 0x0C4 0).lane < (failOf 0x0C4 31).lane ∧ parkable 0x0C4 = false ∧ parkable 0x041 = true ∧ (all : LaneMask) ≠ 0 ∧
    (failOf 0x0C4 1).cause ≠ (failOf 0x0C5 2).cause := by decide +kernel
theorem witness_EntriesMerge : ({ Entry.reset with mask := 1 } : Entry).mask ≠ 0 ∧ ({ Entry.reset with mask := 1 } : Entry).mergeable = true ∧
    ({ Entry.reset with mask := 2, sleep := 1 } : Entry).mergeable = false ∧
    insertEntry { Entry.reset with mask := 1, pc := 8, prio := 0xF00 } [{ Entry.reset with mask := 2 }, { Entry.reset with mask := 4, pc := 8, prio := 0xE00 }] =
      [{ Entry.reset with mask := 2 }, { Entry.reset with mask := 5, pc := 8, prio := 0xF00 }] := by decide +kernel
theorem witness_SystemRegisters : port.ready = true ∧ port.plainEnd = true := by decide +kernel
/-- A load in flight for a lane, and none. -/
theorem witness_QueriesAndPhase : port.ready = true ∧ port.plainEnd = true ∧ port.cg.inFlight = [] ∧
    (((port.mapCg fun g => { g with inFlight := [{ scalar := false, reg := 2, mask := 1, elems := 1 }] }).cg.inFlight.take 1).any
      (fun f => f.mask &&& port.cur.entry.mask != 0)) = true ∧ port.cur.sampled = none ∧ port.leader port.cg.tk = some port.cur.gk := by decide +kernel

theorem witness_AtomicWords : two.ready = true ∧ (∀ l ∈ lanesOf two.cur.act,
      (two.checkElem two.agent (amoAsk 8) (BitVec.ofNat 64 (elem (two.opnd 4 64) 64 l))).toOption.map (·.pa) = some (0x30000 + 8 * l)) ∧
    (two.serveLanes (amoAsk 8) 4).1 = true ∧ two.tmOk 0 8 true = true := by decide +kernel
/-- Lane 0 holds a reservation on its granule; one of age 4,095 and one of 4,096. -/
def reserving : State := { port.mapCur (fun c => { c with act := 1 }) with
  groups := [(0, { Group.reset with present := true, resv := [(0, { tm := false, granule := 0xC00, slice := 0, order := 0, age := 4096 })] })] }
theorem witness_ReservationWords : two.ready = true ∧ lanesOf reserving.cur.act = [0] ∧ reserving.ready = true ∧
    (reserving.checkElem reserving.agent (scAsk 8) 0x30000).toOption.map (·.pa) = some 0x30000 ∧
    (reserving.serveLanes (scAsk 8) 4).1 = true ∧ (reserving.serveLanes (lrAsk 8) 4).1 = true ∧ (reserving.sliceResv 0).length ≤ 32 ∧ reserving.holdsResv 0 false (0x30000 / 64) = true ∧
    (reserving.checkElem reserving.agent (lrAsk 8) 0x30000).toOption.isSome = true ∧ reserving.tmOk 0 8 true = true ∧ isHost 0x30000 = false := by decide +kernel
/-- Objects that have and have not reached a generation, alone and with another group at the barrier. -/
theorem witness_SynchronisationWords : two.ready = true ∧ (4 : BitVec 3).toNat ≤ 4 ∧ two.cur.got = [] ∧
    (∀ l ∈ lanesOf two.cur.act, (two.checkElem two.agent awaitAsk (BitVec.ofNat 64 (0x30000 + 16 * l))).toOption.isSome = true) ∧
    (two.checkElem two.agent arriveAsk 0x30000).toOption.isSome = true ∧ (two.serveLanes arriveAsk 4).1 = true ∧
    two.cur.svc.due = [] ∧ two.cur.svc.ticket = none ∧ two.frameBusy none 0 0x30000 = false ∧ two.frameBusy none 0 0x13000 = false ∧ nget 0 (two.budget 0).limit 0 = 0 ∧
    (two.pread 0x30008 2 + 2 ^ 16 - 0) % 2 ^ 16 < 2 ^ 15 ∧ ¬(two.pread 0x30008 2 + 2 ^ 16 - 1) % 2 ^ 16 < 2 ^ 15 ∧
    port.plainEnd = true ∧ port.ct.gks = [0] := by decide +kernel
/-- A leaf for host memory beside `tables`, at VA 16 GiB: the lines of host objects are no lines of an L2. -/
def hostTables : List Host.Cell := mwriteN tables 0x13008 8 (2 ^ 47 + 0x107)
/-- One lane with a reference of length 1 whose target and root are mapped. -/
def publishing : State :=
  { port.mapCur (fun c => { c with act := 1, src := { c.src with v := [(4, image 64 (fun _ => 0x30000)), (5, image 64 (fun _ => 0x400000000))] } })
    with mem := hostTables }
theorem witness_PublishingWords : publishing.ready = true ∧ publishing.cur.walked = false ∧
    (publishing.checkElem publishing.agent ldrefAsk 0x30000).toOption.isSome = true ∧ (publishing.serveLanes ldrefAsk 4).1 = true ∧
    (publishing.checkElem publishing.agent strefAsk 0x30000).toOption.isSome = true ∧ publishing.strefHeld publishing.agent 0x30000 = false ∧
    (publishing.serveStref 5 4).1 = true ∧ publishing.writeBlocked 0x30000 8 true = false ∧
    (publishing.serveLines publishing.agent false publishing.cur.wpc.toNat [0x40000]).1 = true ∧
    publishing.strefFail publishing.agent 0x30000 0x40000 0 = none ∧ publishing.pubFail publishing.agent 0x30000 0x40000 0 = none ∧
    badRef 0x40000 = false ∧ (publishing.checkElem publishing.agent pubAsk 0x30000).toOption.isSome = true ∧ refLines 0x40000 = 1 ∧
    (publishing.access 0 0 (refLine 0x40000 0) 0 false false).toOption.map (fun x => (x.pa, x.cid)) = some (0x40000, none) ∧
    publishing.cgrid.cgen = true ∧ xpubRangeBad 0x40000 0x40 = false ∧
    (publishing.access 0 0 0x40000 1 true false).toOption.map (·.pa) = some 0x40000 ∧ publishing.poisoned 0x40000 = false := by decide +kernel


/-- A 64-byte block from (offset, value) pairs. -/
def block (l : List (Nat × Nat)) : BitVec 512 := BitVec.ofNat 512 (l.foldl (fun a x => a + x.2 <<< (8 * x.1)) 0)
/-- Kind 0: 32 bytes from 0x30000 to team memory 0x200, arrival object 0x40000. -/
def copyBlock : BitVec 512 :=
  block [(0, 0x370), (8, 0x30000), (0x10, 0x200), (0x20, 0x40000), (0x28, 32), (0x2A, 1), (0x2C, 1), (0x2E, 1), (0x3C, 32)]
/-- A near-bank request: E4M3, one row of 32, results to team memory. -/
def nearBlock : BitVec 512 := block [(0, 1), (8, 0x30000), (0x10, 32), (0x14, 1), (0x18, 0x100), (0x1C, 0x180), (0x20, 0x200), (0x28, 0x40000)]
/-- Team memory with a block at 0x40. -/
def withBlock (b : BitVec 512) (s : State) : State :=
  { s with teams := nput s.teams 0 { s.team 0 with tmem := mwriteN (s.team 0).tmem 0x40 64 b.toNat } }
theorem witness_EngineWords : port.ready = true ∧ (port.sreg 3).toNat % 64 = 0 ∧ (port.sreg 3).toNat + 64 ≤ port.cgrid.tmsize ∧
    port.cgrid.tmsize < (0xFFC0 : Nat) + 128 ∧ copyMalformed port.tmSize false false copyBlock = false ∧ copyMalformed port.tmSize false false 0 = true ∧
    nearMalformed port.tmSize nearBlock = false ∧ port.engineFree 0 false = true ∧
    ({ port with reqs := (List.range 64).map (fun i => (i, Req.reset)) } : State).engineFree 0 false = false ∧
    port.leader port.cg.tk = some port.cur.gk ∧ port.cgrid.depth < 10 ∧ tilePort.cgrid.tsoff ≠ 0 ∧ (tilePort.nbar 0 3).brk = false ∧
    (tilePort.nbar 0 3).cv = false ∧ (tilePort.tile 0).startable = false ∧
    ({ Tile.reset with owned := true } : Tile).startable = true := by decide +kernel
/-- The word that a test placed in team memory is read as a request. -/
theorem test_xcpy : after (.xcpy 1 3) (withBlock copyBlock port) (fun s => s.reqs.map (fun q => (q.1, q.2.raw == copyBlock, q.2.closed))) =
    some [(0, true, false)] := by decide +kernel

/-- Did an engine's read succeed? -/
def engOk {α : Type} : EngRes α → Bool
  | .ok _ _ => true
  | _ => false
/-- Did it fault? -/
def engFault {α : Type} : EngRes α → Bool
  | .fault _ _ _ _ _ => true
  | _ => false
/-- A request that its engine holds. -/
def held (b : BitVec 512) (near : Bool) : Req := { Req.reset with raw := b, nearBank := near, closed := false }
/-- The team with a tile stream and one request. -/
def engine (q : Req) : State := { tilePort with reqs := [(0, q)] }
/-- The block with another kind: 1 from team memory, 6 to a peer; a metadata entry, a codebook. -/
def storeBlock : BitVec 512 := block [(0, 0x371), (8, 0x200), (0x10, 0x30000), (0x20, 0x40000), (0x28, 32), (0x2A, 1), (0x2C, 1), (0x2E, 1), (0x3C, 32)]
def peerBlock : BitVec 512 := block [(0, 0x1000376), (8, 0x30000), (0x10, 0x50000), (0x20, 0x40000), (0x28, 32), (0x2A, 1), (0x2C, 1), (0x2E, 1), (0x3C, 32)]
def metaBlock : BitVec 512 := block [(0, 0x4373), (8, 0x3000), (0x20, 0x40000), (0x28, 512), (0x2A, 1), (0x2C, 1), (0x2E, 1), (0x3C, 512)]
def bookBlock : BitVec 512 := block [(0, 0x374), (8, 0x30000), (0x20, 0x40000), (0x28, 32), (0x2A, 1), (0x2C, 1), (0x2E, 1), (0x3C, 32)]
theorem witness_EngineEvents :
    ([(copyBlock, 0), (storeBlock, 1), (peerBlock, 6), (metaBlock, 3), (bookBlock, 4)].all fun b =>
      !copyMalformed 0x10000 true false b.1 && rqKind b.1 == b.2) = true ∧
    ([copyBlock, storeBlock, peerBlock].all fun b =>
      let s := engine (held b false)
      engOk (unitBytes (s.reqAgent 0 (held b false)) (held b false) 0 0 (unitLen b 0 0) s)) = true ∧
    engFault (unitBytes (port.reqAgent 0 (held (copyBlock + (1 <<< 100)) false)) (held (copyBlock + (1 <<< 100)) false) 0 0 32 port) = true ∧
    engOk ((engine (held storeBlock false)).engLine (port.reqAgent 0 (held storeBlock false)) 0x30000 32 true false) = true ∧
    ({ engine (held peerBlock false) with ports := 1, portOf := [(0, 0)] } : State).peerPort 0 1 = some 0 ∧
    engOk (streamBytes (port.reqAgent 0 (held metaBlock false)) (held metaBlock false) 514 0 512 (engine (held metaBlock false))) = true ∧
    engOk (srcBytes (port.reqAgent 0 (held bookBlock false)) (held bookBlock false) 0 0 32 (engine (held bookBlock false))) = true ∧
    (nbLines (port.reqAgent 0 (held nearBlock true)) (stackOf 0x30000)
      ({ engine (held nearBlock true) with mem := mwriteN tables 0x13000 8 0x187 } : State) (nbVas nearBlock)).isNone = true ∧
    (nbLines (port.reqAgent 0 (held nearBlock true)) 7 (engine (held nearBlock true)) [0x800000000]).isSome = true ∧
    nbFmt nearBlock ≠ 0 ∧ nbGlobal nearBlock = false ∧
    engOk (nbUnit (port.reqAgent 0 (held nearBlock true)) (held nearBlock true) 0 1
      ({ engine (held nearBlock true) with mem := mwriteN tables 0x13000 8 0x187 } : State)) = true ∧
    (match (engine Req.reset).objectAt (port.reqAgent 0 (held copyBlock false)) 0x40000 with | .ok pa _ => pa == 0x40000 | _ => false) = true ∧
    (match (engine Req.reset).objectAt (port.reqAgent 0 (held copyBlock false)) 0x800000000 with | .bad _ => true | _ => false) = true := by
  decide +kernel

/-- An f32 tile of 64 rows and 128 columns at 0, always ready, and one of the same shape in bf16. -/
def slotBlock (type width : Nat) : BitVec 256 :=
  BitVec.ofNat 256 (64 * 2 ^ 32 + 128 * 2 ^ 48 + 128 * width * 2 ^ 64 + type * 2 ^ 128)
/-- A tile stream whose slots 0 and 1 are bound, in a loop of two passes at its last word. -/
def bound : State :=
  { tilePort with
    tiles := [(0, { tilePort.tile 0 with
      slots := [(0, slotBlock 2 2), (1, BitVec.ofNat 256 (128 * 2 ^ 32 + 128 * 2 ^ 48 + 256 * 2 ^ 64 + 2 * 2 ^ 128))], bound := 3
      loop := some { first := 0x200F8, len := 3, count := 2, pass := 0 } })] }
theorem witness_TileWords :
    (bound.tile 0).table.length < 32 ∧ (bound.tile 0).bound.getLsbD 1 = true ∧ (bound.tile 0).bound.getLsbD 2 = false ∧
    slotRows (nget 0 (bound.tile 0).slots 0) = 64 ∧ slotRows (nget 0 (bound.tile 0).slots 1) = 128 ∧
    slotType (nget 0 (bound.tile 0).slots 0) = 2 ∧ 16 * (7 + 1) ≤ slotCols (nget 0 (bound.tile 0).slots 0) ∧
    slotCause 0x10000 (slotBlock 2 2) = none ∧ slotCause 0x3FFF (slotBlock 2 2) = some 0x0E1 ∧ slotCause 0x10000 (slotBlock 6 2) = some 0x0E0 ∧
    32 * 0x7FF + 32 ≤ tilePort.seqTm ∧ tilePort.seqTm < 32 * 0x800 + 32 ∧
    ((tilePort.nbar 0 3).gen - 0).toNat < 2 ^ 15 ∧ ¬((tilePort.nbar 0 3).gen - 1).toNat < 2 ^ 15 ∧
    (tilePort.tile 0).loop = none ∧ (bound.tile 0).loop.map (fun l => l.first + BitVec.ofNat 64 (4 * (l.len - 1))) = some (bound.tile 0).pc := by
  decide +kernel
/-- A task of the table. -/
def task (w : TileOp) (issued : Bool) : Task :=
  { num := 0, word := w, pc := 0x20100, slots := [slotBlock 3 4], ready := [true], pass := 0, issued := issued, entry := 0, books := [0], data := 0 }
theorem witness_TileTasks :
    (([TileOp.tzero 0 0, .tscale 0 0 0, .tacc 0 0 0, .tcvt 0 0 0, .tcbk 0 0, .tarriveBarrier 3 0, .tarriveObject 0] : List TileOp).all fun w =>
      ({ bound.tile 0 with table := [task w false] } : Tile).candidate (task w false)) = true ∧
    ({ bound.tile 0 with sq := [(1, [5])], table := [task (.tmmas 0 1 0 0 0 1 0) false] } : Tile).candidate (task (.tmmas 0 1 0 0 0 1 0) false) = true ∧
    ({ bound.tile 0 with table := [task (.tmmas 0 1 0 0 0 1 0) false] } : Tile).candidate (task (.tmmas 0 1 0 0 0 1 0) false) = false ∧
    taskPrice (.tmmas 0 1 0 0 0 1 0) = 340 ∧ (nget Bank.reset bound.seqBanks 0).level < 2 ∧
    ((tilePort.nbar 0 3).arrive 1).isSome = true ∧ 16 * 32 ≤ slotPitch (slotBlock 3 4) := by decide +kernel

/-- A bundle that waits. -/
def pend (k : WaitKind) (i : Instr) : Pend :=
  { kind := k, act := 0xF, src := regs, words := [i], npc := 0x20044, walks := [], fails := [], answer := none, got := [], replay := none,
    base := none, chain := 0, stage := .start, turn := 0, svc := Svc.reset, sampled := none, walked := false, arrived := false, broken := false }
/-- A group whose first entry waits for a condition. -/
def waiting (k : WaitKind) (i : Instr) : State :=
  { tilePort with groups := [(0, { Group.reset with present := true, regs := regs, frontier := [{ Entry.reset with mask := 0xF, pc := 0x20040, pend := some (pend k i) }] })] }
/-- Code at the entry's PC: an executable page, the line in code state X. -/
def coded : State :=
  { port with mem := mwriteN (mwriteN tables 0x13000 8 0x10B) 0x20040 4 0x00241083, tags := [(0x801, 0x400)]
              groups := [(0, { Group.reset with present := true, regs := regs, frontier := [{ Entry.reset with mask := 0xF, pc := 0x20040 }] })] }
theorem witness_WaitEnds :
    (((waiting .xwait (.xwait 0 0)).group 0).frontier[0]?.bind (fun e => e.pend.map (fun p => (p.kind, p.words, p.replay, p.fails)))) =
      some (.xwait, [.xwait 0 0], none, []) ∧ ((waiting .xwait (.xwait 0 0)).group 0).landings = [] ∧
    (waiting .xwait (.xwait 0 0)).groupReqs 0 ≤ (0 : BitVec 9).toNat ∧ (waiting .lwait (.lwait 0 0)).childCount 1 0 ≤ (0 : BitVec 9).toNat ∧
    decodeGroup 0x34400000#32 = .ok (.xwait 0 0) ∧ decodeGroup 0x34E00000#32 = .ok (.lwait 0 0) ∧ decodeGroup 0x34800003#32 = .ok (.nbarWait 0 0 3) ∧
    ((tilePort.nbar 0 3).gen - (nget 0 regs.s 0).setWidth 16).toNat < 2 ^ 15 ∧ (tilePort.grid 1).tsoff ≠ 0 ∧
    (((waiting .clock (.clock 9 1)).group 0).inFlight.all fun f => f.mask &&& 0xF == 0) = true ∧
    (match (State.walkOn (publishing.groupAgent 0) (0, 0x30000, 0x400000000) 3 .start publishing).1 with | .ended none => true | _ => false) = true ∧
    (match (State.walkOn (port.groupAgent 0) (0, 0x30000, 0x800000000) 3 .start port).1 with | .ended (some _) => true | _ => false) = true ∧
    (waiting .pub (.pub 0 3 5 4)).walkTurn 0 { pend .pub (.pub 0 3 5 4) with walks := [(0, 0x30000, 0)] } = true ∧
    ((waiting .xwait (.xwait 0 0)).team 0).draining = none ∧
    (match coded.fetchAt (coded.groupAgent 0) 0x20040 with | .words ws => decide (ws.length = 4) | _ => false) = true ∧
    (match port.fetchAt (port.groupAgent 0) 0x20040 with | .fault c _ => decide (c < 0x100) | _ => false) = true := by decide +kernel
theorem witness_IssueStage : (coded.group 0).frontier[0]?.isSome = true ∧ (coded.quad 0).hold = none ∧
    (match coded.readyViews 0 with | [(gk, [(i, _, .ok b)])] => gk == 0 && i == 0 && b.words == [.add 0 0 1 1 2 3] | _ => false) = true ∧
    ({ bound.tile 0 with table := [task (.tzero 0 0) false] } : Tile).table.find?
      ({ bound.tile 0 with table := [task (.tzero 0 0) false] } : Tile).candidate = some (task (.tzero 0 0) false) ∧
    (waiting .launch (.launch 0 2)).childCount 1 0 < 255 ∧
    (match ((waiting .launch (.launch 0 2)).accept (ioAgent 0 0 0 0 (.launch 0 0x20040)) 0x30000).1 with | .refused _ _ => true | _ => false) = true := by decide +kernel

/-- A decision that runs with an allowance of 40, its slot holding the routine. -/
def decision (used : Nat) : Decision :=
  { raised := Raised.reset, slot := 8, routine := { Routine.reset with num := 5, words := [0x6C000000], allow := 40, retired := false }, arg := 0, cands := [],
    pc := 0, used := used, w := [(3, 9)], scratch := [], regs := [], loops := [] }
def deciding (used : Nat) : State :=
  { State.reset with engines := [(0, { Engine.reset with run := some (decision used) })]
                     slots := [(8, { Routine.reset with num := 5, words := [0x6C000000], allow := 40, retired := false })] }
theorem witness_PolicyWords :
    ((deciding 0).engine 0).run = some (decision 0) ∧ (decision 0).used + 40 ≤ (decision 0).routine.allow ∧
    (decision 37).used + 3 ≤ (decision 37).routine.allow ∧ (decision 38).routine.allow < (decision 38).used + 3 ∧
    (decision 40).routine.allow < (decision 40).used + 1 ∧ (decision 0).reg 2 = 0 ∧ (decision 0).reg 3 ≠ 0 ∧
    (nget Routine.reset (deciding 0).slots 8).num = (decision 0).routine.num ∧ (nget Routine.reset (deciding 0).slots 8).retired = false := by decide +kernel
/-- R356: an addition is charged 1 and the routine goes on. -/
theorem test_muovoAdd : after (.muovoAdd 1 3 3) (deciding 0) (fun s => ((s.engine 0).run.map fun d => (d.reg 1, d.used, d.pc))) =
    some (some (18, 1, 1)) := by decide +kernel
/-- R361: a word over the allowance retires the routine. -/
theorem test_allowance : after (.muovoMul 1 3 3) (deciding 38) (fun s => (nget Routine.reset s.slots 8).retired) = some true := by decide +kernel

/-- Firmware core 0 runs at the start of the SRAM with a word there; x5 holds an Atrium address, x6 a misaligned one, x7 3. -/
def firmware (w : Nat) : State :=
  { State.reset with sram := mwriteN [] 0 4 w, harts := [(0, { Hart.reset with held := false, pc := 0x08000000, x := [(5, 0x10030040), (6, 0x10030044), (7, 3), (8, 0x20000000)] })]
                     hwRings := [(3, [(7, false)]), (2, [(7, true)])] }
theorem witness_FirmwareWords :
    ((firmware 0).hart 0).held = false ∧ ((firmware 0).hart 0).nextIrq = none ∧ ((firmware 0).hart 0).pmpOk false 0x10030040 64 1 = true ∧
    ((firmware 0).hart 0).pmpOk ((firmware 0).hart 0).dataUser 0x10030040 8 0 = true ∧
    (((firmware 0).hart 0).reg 6).toNat % 64 ≠ 0 ∧ (((firmware 0).hart 0).reg 5).toNat % 64 = 0 ∧
    (nget [] (firmware 0).hwRings 3).length = 1 ∧ (nget [] (firmware 0).hwRings 1) = [] ∧
    (match (firmware 0x00728513).rvFetch 0 ((firmware 0x00728513).hart 0) with | .ok w n => w == 0x00728513 && n == 4 | _ => false) = true ∧
    (match (firmware 0).rvFetch 0 ((firmware 0).hart 0) with | .ok w n => w == 0 && n == 2 | _ => false) = true ∧
    (match (firmware 0).rvFetch 0 { (firmware 0).hart 0 with pc := 4 } with | .trap _ _ => false | _ => true) = true ∧
    (match (firmware 0).rvFetch 0 { (firmware 0).hart 0 with pc := 0x30000000 } with | .trap _ _ => true | _ => false) = true ∧
    (0x00728513#32 = 7#12 ++ 5#5 ++ (0#3 ++ 10#5 ++ 0x13#7 : BitVec 15)) ∧
    (firmware 0x0073228B).xhallAt 0 = some 0x0073228B#32 ∧ (firmware 0).xhallAt 0 = none ∧
    (List.range 0x400).any (fun o => ((firmware 0).fwReg (8 * o)).isNone) = true ∧
    ({ (firmware 0).hart 0 with csr := [(0x344, 0x10000), (0x304, 0x10000), (0x300, 8)] } : Hart).nextIrq = some 16 := by decide +kernel
theorem test_rv64_addi : after (.rv64gcInstruction 0) (firmware 0x00728513) (fun s => ((s.hart 0).reg 10, (s.hart 0).pc)) =
    some (0x10030047, 0x08000004) := by decide +kernel
theorem test_bfx : after (.xhallBfx 7 5 9) (firmware 0) (fun s => ((s.hart 0).getCsr 0x342, (s.hart 0).pc)) = some (0, 0x08000004) := by decide +kernel
theorem test_rfetch : after (.rfetch 5 7 9) (firmware 0) (fun s => ((s.hart 0).reg 9, mreadN s.atrium 0x30040 8)) = some (1, 7) := by decide +kernel

/-- A raised decision of a point for grid 1 and team 0 on cluster 0. -/
def raisedOf (p : Point) : Raised := { Raised.reset with point := p, grid := 1 }
/-- A device whose engine 0 has raised decisions, with one grid and its team, at 100 ms of TIME. -/
def raising (l : List Raised) : State :=
  { port with engines := [(0, { Engine.reset with raised := l }), (20, { Engine.reset with raised := l })], ringCycles := [(0, 400000000), (1, 400000000), (2, 400000000), (3, 400000000)] }
/-- A decision of a point that has no word left. -/
def overOf (p : Point) (regs : NMap Nat) (cs : List Cand) : State :=
  { raising [] with engines := [(0, { Engine.reset with run := some { decision 0 with raised := raisedOf p, pc := 1, regs := regs, cands := cs } })] }
theorem witness_Decisions :
    ((raising [raisedOf .enq]).engine 0).run.isNone = true ∧ (raising []).mustWait (raisedOf .pick) = false ∧
    (raising []).sample (raisedOf .enq) ≠ [] ∧ (raising []).sample { raisedOf .enq with grid := 2 } = [] ∧ (raising []).sample (raisedOf .block) ≠ [] ∧
    (raising []).sample (raisedOf .wake) = [] ∧ Point.needs .enq = true ∧ Point.needs .tick = false ∧ ((raising []).sample (raisedOf .migrate)).length = 4 ∧
    ((raising []).tenantMask 0).getLsbD 0 = true ∧ nget 0 ((raising []).engine 0).tickAt 0 + nget 1000 ((raising []).engine 0).slice 0 * 1000 ≤ (raising []).time ∧
    ¬(nget 0 ((State.reset).engine 0).tickAt 0 + nget 1000 ((State.reset).engine 0).slice 0 * 1000 ≤ State.reset.time) ∧
    ((overOf .tick [(2, 9)] []).engine 0).run.isSome = true ∧ ((overOf .enq [] []).grid 1).present = true ∧
    nget 0 [(0, 2)] 0 % 2 = 0 ∧ 4 ≤ nget 4 [(5, 4)] 5 ∧
    (raising []).inRound = false ∧ (raising []).hyp.roundAt + (raising []).hyp.least.getD 1000 * 1000 ≤ (raising []).time ∧
    ((raising []).team 0).present = true ∧ ((raising []).team 0).draining.isNone = true ∧ ((raising []).grid 1).coop = false ∧
    roundRobin (some 3) [1, 3, 5] = 2 ∧ roundRobin (some 5) [1, 3, 5] = 0 ∧ roundRobin none [4] = 0 := by decide +kernel
theorem test_tick_clamped : (match takeTurn (.policy 0) (overOf .tick [(2, 9)] []) with | .next u => some (nget 1000 (u.engine 0).slice 0) | _ => none) =
    some 10 := by decide +kernel
theorem test_enqDecision : after (.enqDecision 0) (raising [raisedOf .enq]) (fun s => (s.engine 0).run.map (fun d => (d.regs, d.cands.length))) =
    some (some ([(1, 0xFFFFF), (3, 0)], 1)) := by decide +kernel

theorem witness_TokenCycles : (0 : Nat) < 4 ∧ ¬(4 : Nat) < 4 ∧ State.reset.time / 1000 ≤ State.reset.power.budgetAt / 1000 ∧
    (raising []).power.budgetAt / 1000 < (raising []).time / 1000 ∧ (raising []).waiters = [] ∧ ({ State.reset with clusters := [(0, { Cluster.reset with run := true })] }.cluster 0).run = true ∧
    (match takeTurn (.cluster 0 [7, 3]) { State.reset with clusters := [(0, { Cluster.reset with run := true })] } with
      | .next u => some (u.schedule.take 6, u.schedule.length, (u.cluster 0).clock) | _ => none) =
      some ([.quadrant 7 0, .quadrant 7 1, .quadrant 7 2, .quadrant 7 3, .sequencer 7, .quadrant 3 0], 40, 1) ∧
    1440000 < ((List.range 4).map (fun d => (({ State.reset with arcades := [(0, { Arcade.reset with bud := 450000 })] } : State).arcade d).bud)).sum + 1 := by
  decide +kernel
/-- R74, R75: 87,040,000 / 65,536 tokens are injected in the first cycle of the ring. -/
theorem test_arcade : after (.arcadeRingCycle 0) State.reset (fun s => ((s.arcade 0).injTot, (s.arcade 0).acc, nget 0 s.ringCycles 0)) =
    some (1328, 8192, 1) := by decide +kernel
theorem test_gbudget : after (.gbudgetWrite 0 1) State.reset (fun s => ((s.arcade 0).bud, (s.arcade 0).clmp, (s.arcade 0).inj)) =
    some (60000, true, 15360000) := by decide +kernel

/-- Team 0 of grid 1 with lanes to end, silent for 5 ms under a limit of 5 ms. -/
def silentTeam : State :=
  { tilePort with
    teams := [(0, { tilePort.team 0 with grid := 1, silent := 5000000, draining := some (7, true) })], bar0 := [(0x50, 0x10000), (0x60, 5)]
    groups := [(0, { Group.reset with present := true, frontier := [{ Entry.reset with mask := 3 }], parked := [] })] }
/-- Team 0 is over: no lane is left; grid 1 of one team has ended when it is gone. -/
def teamGone : State :=
  { tilePort with groups := [(0, { Group.reset with present := true, faultmask := 3, faulted := 1 })] }
def gridOver (doneva : Dword) : State :=
  { port with teams := [], groups := [], grids := [(1, { placeGrid with ended := 1, doneva := doneva, job := some 4 })] }
theorem witness_TeamsAndGrids :
    silentTeam.findTeam 1 0 = some (.inl 0) ∧ silentTeam.liveGroups 0 ≠ [] ∧ silentTeam.findTeam 2 0 = none ∧
    ({ silentTeam with saved := [(9, { Saved.reset with team := { Team.reset with grid := 2 } })] } : State).findTeam 2 0 = some (.inr 9) ∧
    (silentTeam.group 0).frontLanes ≠ 0 ∧ (silentTeam.grid 1).present = true ∧
    ((silentTeam.reg 0 0x60).toNat % 65536) * 1000000 ≤ (silentTeam.team 0).silent ∧ silentTeam.silenceCounts 0 = true ∧
    silentTeam.drained 0 = true ∧ teamGone.teamOver 0 = true ∧ endedByFault (teamGone.team 0) ((teamGone.team 0).gks.map teamGone.group) = true ∧
    silentTeam.teamOver 0 = false ∧ (teamGone.group 0).faultmask ≠ 0 ∧
    (gridOver 0).teamsOver 1 = true ∧ (gridOver 0).childrenOf [1] = [] ∧
    (match (gridOver 0x30000).ioObject ((gridOver 0x30000).gridAgent 1) 0x30000 5 with | .ok pa _ => pa == 0x30000 | _ => false) = true ∧
    (match (gridOver 0x800000000).ioObject ((gridOver 0).gridAgent 1) 0x800000000 5 with | .bad _ _ => true | _ => false) = true := by decide +kernel
theorem test_teamEnd : after (.teamEnd 0) teamGone (fun s => (s.teams.length, (s.grid 1).fault, s.recs.map (fun r => (r.tmv, r.lanes)))) =
    some (0, true, [(true, 3)]) := by decide +kernel

/-- The device after boot with AQI 0 assigned and packets in its queue; ring 0 of 128 records lies in host memory. -/
def queued (packets : List (BitVec 512)) : State :=
  { port with aqis := [(0, { Aqi.reset with entry := { AqiEntry.reset with v := true }, queue := packets.map (fun p => (5, p)) })]
              bar0 := [(0x50, 0x10000), (8, 1), (0x100, 0x8000000000000), (0x10C, 0)]
              boot := { Boot.reset with stage := 7 } }
def signalPacket : BitVec 512 := block [(0, 3), (8, 0x77), (0x10, 0x30000), (0x18, 5)]
/-- Header and launch parameter block of a grid of one team. -/
def launchable : State :=
  { queued [block [(0, 1), (0x10, 0x30000)]] with
    mem := mwriteN (mwriteN (mwriteN (mwriteN (mwriteN tables 0x13000 8 0x10B) 0x20000 4 0x41584B31) 0x30000 8 0x20000) 0x30008 8 0x100000001) 0x30010 8 0x100000001
    tags := [(0x800, 0x400)] }
/-- A COPY, a WAIT, and so on that has started as packet 5. -/
def started (raw : BitVec 512) (pos : Nat) : State :=
  { queued [] with jobs := [(5, { Job.reset with raw := raw, entry := { AqiEntry.reset with v := true }, pos := pos })] }
theorem witness_PacketQueues :
    packetOk signalPacket = true ∧ (queued [signalPacket]).startable 0 signalPacket = true ∧ (queued []).aqi 0 = { Aqi.reset with entry := { AqiEntry.reset with v := true } } ∧
    (queued [signalPacket]).pasidOk ((queued []).aqi 0).entry 0 = true ∧ (queued [signalPacket]).mayAsk ((queued []).aqi 0).entry signalPacket = true ∧
    (queued [block [(0, 3), (4, 0x100000), (0x10, 0x30000)]]).pasidOk ((queued []).aqi 0).entry (BitVec.ofNat 20 (rawField (block [(0, 3), (4, 1), (0x10, 0x30000)]) 4 4)) = false ∧
    packetOk (block [(0, 0x103)]) = false ∧ (queued [signalPacket]).head 0 3 = some (5, signalPacket) ∧
    (queued [block [(0, 3), (4, 0x100000), (0x10, 0x30000)]]).head 0 3 = none ∧ (queued [block [(0, 3), (4, 1), (0x10, 0x30000)]]).head 0 3 = some (5, block [(0, 3), (4, 1), (0x10, 0x30000)]) ∧
    (match (queued []).ioObject (ioAgent 0 0 0 0 (.head 5)) 0x30000 5 with | .ok pa _ => pa == 0x30000 | _ => false) = true ∧
    (match (queued []).ioObject (ioAgent 0 0 0 0 (.head 5)) 0x800000000 5 with | .bad _ _ => true | _ => false) = true ∧
    (match (queued []).ioObject (ioAgent 0 0 0 0 (.head 5)) 0x30000 4 with | .ok pa _ => pa == 0x30000 | _ => false) = true ∧
    (queued [block [(0, 4), (0x10, 0x30000)]]).head 0 4 = some (5, block [(0, 4), (0x10, 0x30000)]) ∧
    launchable.head 0 1 = some (5, block [(0, 1), (0x10, 0x30000)]) ∧
    (match (launchable.accept (ioAgent 0 0 0 0 (.head 5)) 0x30000).1 with | .ok g => g.teams == 1 | _ => false) = true ∧
    (match (launchable.accept (ioAgent 0 0 0 0 (.head 5)) 0x30010).1 with | .refused c _ => c == 0x107 | _ => false) = true ∧
    (queued []).fnExists 0 = true ∧ (queued []).loading 0 = false ∧ ((queued []).reg 0 8).getLsbD 0 = true ∧ (queued []).fnExists 1 = false ∧
    ((0 + 65536 - 0) % 65536 < 32768 ∧ ¬(0 + 65536 - 1) % 65536 < 32768) ∧
    (queued []).ringFull 0 0 = false ∧ (queued []).fnTarget 0 0x8000000000000 = some (2 ^ 71 + 2 ^ 51) ∧ isHost (2 ^ 71 + 2 ^ 51) = true := by decide +kernel
theorem test_signal : after (.signalPacket 0) (queued [signalPacket]) (fun s => (s.pread 0x30004 4, (s.aqi 0).queue.length)) = some (0, 0) := by
  decide +kernel
theorem test_notify : after (.notifyWrite 0 0 64 signalPacket) (queued []) (fun s => (s.aqi 0).queue) = some [(0, signalPacket)] := by decide +kernel

def copyPacketRaw (dst : Nat) : BitVec 512 := block [(0, 2), (0x10, 0x30000), (0x18, dst), (0x20, 64)]
def publishRaw : BitVec 512 := block [(0, 7), (0x10, 0x30000), (0x18, 64)]
def policyRaw (dp hyp : Nat) : BitVec 512 := block [(0, 5), (0x10, 0x30000), (0x18, 1), (0x1A, dp), (0x1B, hyp), (0x1C, 64)]
def replyRaw : BitVec 512 := block [(0, 6), (0x10, 1)]
/-- A routine of one `ret` at 0x30000. -/
def withRoutine (s : State) : State := { s with mem := mwriteN s.mem 0x30000 4 0x6C000000 }
/-- Team 0 of grid 1 with a sub-group parked. -/
def parkedTeam (draining : Option (Nat × Bool)) : State :=
  { queued [replyRaw] with
    teams := [(0, { port.team 0 with draining := draining })]
    groups := [(0, { Group.reset with present := true, parked := [{ mask := 3, pc := 0x20040, prio := 0, record := FaultRec.reset, lc := [], loops := [], base := none, reply := none }] })] }
theorem witness_PacketWork :
    (nget Job.reset (started (copyPacketRaw 0x40000) 0).jobs 5).copying = true ∧ (nget Job.reset (started (copyPacketRaw 0x40000) 1).jobs 5).copying = false ∧
    engOk ((started (copyPacketRaw 0x40000) 0).engLine (ioAgent 0 0 0 0 (.job 5)) 0x30000 64 false false) = true ∧
    engOk ((started (copyPacketRaw 0x40000) 0).engLine (ioAgent 0 0 0 0 (.job 5)) 0x40000 64 true false) = true ∧
    engFault ((started (copyPacketRaw 0x40000) 0).engLine (ioAgent 0 0 0 0 (.job 5)) 0x800000000 64 false false) = true ∧
    (nget Job.reset (started publishRaw 0).jobs 5).publishing = true ∧ (nget Job.reset (started publishRaw 1).jobs 5).publishing = false ∧
    ((started publishRaw 0).access 0 0 0x30000 5 true false).toOption.map (·.pa) = some 0x30000 ∧
    (1 : Nat) ≤ rawField publishRaw 0x18 8 / 64 ∧ rawField publishRaw 0x18 8 / 64 < 2 ∧
    (queued [policyRaw 0 0]).head 0 5 = some (5, policyRaw 0 0) ∧ pointOf 0 true = none ∧ (pointOf 0 false).isSome = true ∧
    (State.readImage (ioAgent 0 0 0 0 (.head 5)) 0x30000 1 0 [] (withRoutine (queued []))).1 = some (.ok [0x6C000000]) ∧
    (match (State.readImage (ioAgent 0 0 0 0 (.head 5)) 0x800000000 1 0 [] (queued [])).1 with | some (.error (0, _)) => true | _ => false) = true ∧
    firstBad .enq [0x6C000000] = none ∧ firstBad .enq [0xFC000000] ≠ none ∧ staticBound [0x6C000000] ≤ 4096 ∧ (queued []).filledSlots < 192 ∧
    (parkedTeam none).head 0 6 = some (5, replyRaw) ∧ (parkedTeam none).findTeam 2 0 = none ∧
    (parkedTeam none).findTeam 1 0 = some (.inl 0) ∧
    ((parkedTeam none).team 0).gks[0]? = some 0 ∧ ((parkedTeam none).group 0).parked.length = 1 ∧ ((parkedTeam (some (7, false))).team 0).draining ≠ none := by
  decide +kernel
/-- R330: a line comes from host memory. -/
theorem test_copyPacket : after (.copyPacket 0 5) ({ started (block [(0, 2), (0x10, 0x400000000), (0x18, 0x30000), (0x20, 64)]) 0 with mem := hostTables }.pwrite (2 ^ 51 + 8) 4 9 false none)
    (fun s => s.pread 0x30008 4) = some 9 := by decide +kernel
theorem test_policyLoad : after (.policyLoad 0) (withRoutine (queued [policyRaw 0 0])) (fun s => (nget Routine.reset s.slots 0).words) = some [0x6C000000] := by
  decide +kernel

/-- A command in progress. -/
def commanding (op arg : Nat) : State := { port with cfg := some { op := op, kill := false, fn := 0, arg := arg } }
theorem witness_HostCommands :
    port.cfg.isNone = true ∧ (commanding 1 0).cfg.map (·.op) = some 1 ∧ ((commanding 1 0).aqi 0).queue = [] ∧ (commanding 1 0).jobsOf 0 = [] ∧
    (commanding 2 5).contextGrids 0 5 = [] ∧ port.fnExists 0 = true ∧ ({ State.reset with bar0 := [(0x2000, 0x41)] } : State).fnExists 1 = true ∧
    (poolOf 0x200050001).map (fun p => (p.first, p.count)) = some (5, 2) ∧
    (port.frame 3).moving.isNone = true ∧ port.poisoned 0x30000 = false ∧
    (0x30000 / 64 * 64 / 0xF80000000 * 2 ^ 36 + 0x30000 / 64 * 64 % 0xF80000000 = (0x30000 : Nat)) ∧ tagV (port.tagOf 0x30000) = false ∧
    (held peerBlock false).closed = false ∧ engOk (port.engLine (ioAgent 0 0 0 0 (.peer 0 0x30000)) 0x30000 32 true false) = true ∧
    engFault (port.engLine (ioAgent 0 0 0 0 (.peer 0 0x800000000)) 0x800000000 32 true false) = true := by decide +kernel
theorem test_registerWrite : after (.registerWrite 0 0x58 0xFFFFFFFFFF) port (fun s => s.reg 0 0x58) = some 0xFFFFF := by decide +kernel
theorem test_hostWrite : after (.hostCxlMemAccess 0x30000 true false 0xF 0x1234567890) { port with modules := 1 } (fun s => s.pread 0x30000 8) = some 0x34567890 := by
  decide +kernel

/-- Cluster 0 runs at 100 ms of TIME and has been hot since TIME 0; rail 0 is 10 mV under a target reached now. -/
def fleet : State :=
  { port with
    ringCycles := [(0, 400000000), (1, 400000000), (2, 400000000), (3, 400000000)], frames := [(3, { Frame.reset with moving := some 2 })]
    clusters := [(0, { Cluster.reset with run := true, point := 2, step := some 1, vote := 700, temp := 110, hotSince := some 0, pend := some 2, busy := 8, stalled := 4 })]
    rails := [(0, { Rail.reset with vmv := 700, tgt := 710, hold := some 5, rampAt := 0, trim := 10, tdis := some 100000000 })] }
theorem witness_FleetEvents :
    (fleet.frame 3).moving = some 2 ∧ (fleet.frame 4).moving.isNone = true ∧ fleet.discarding.isNone = true ∧ isHbm 0x30000 = true ∧ isHbm (2 ^ 51) = false ∧
    (fleet.team 0).present = true ∧ fleet.clusterBusy 0 = true ∧ (State.reset).clusterBusy 0 = false ∧ (fleet.cluster 0).pend = some 2 ∧
    (fleet.cluster 0).step = some 1 ∧ (fleet.cluster 0).vote ≤ (fleet.rail (railOf 0)).vmv ∧ (fleet.cluster 0).hotSince = some 0 ∧
    (fleet.cluster 0).shut = false ∧ 0 + 1000000 ≤ fleet.time ∧ fleet.power.sampleAt / 10000 < fleet.time / 10000 ∧
    State.reset.time / 10000 ≤ State.reset.power.sampleAt / 10000 ∧ (fleet.cluster 0).stalled < (fleet.cluster 0).busy ∧
    (fleet.rail 0).hold = some 5 ∧ 5 ≤ fleet.time ∧ (fleet.rail 0).tdis = some 100000000 ∧ 100000000 ≤ fleet.time ∧
    (fleet.rail 0).rampAt + 100 * 10 ≤ fleet.time ∧ (fleet.rail 0).tgt = (fleet.rail 0).vmv + 10 ∧
    fleet.power.trimAt / 100000000 < fleet.time / 100000000 ∧ (0 : Nat) < (fleet.rail 0).trim ∧ fleet.power.trimEn = false := by decide +kernel
theorem test_stallSample : after .stallSample fleet (fun s => (s.cluster 0).last) = some 128 := by decide +kernel
theorem test_thermal : after (.thermalEmergency 0) fleet (fun s => ((s.cluster 0).emg, (s.cluster 0).shut)) = some (true, true) := by decide +kernel

/-- The root of trust at a boot stage. -/
def booting (stage fail : Nat) : State := { State.reset with boot := { Boot.reset with stage := stage, fail := fail } }
theorem witness_BootAndAttestation :
    (booting 1 0).boot.stage = 1 ∧ (booting 2 0).fuses.hbmOk = true ∧ (booting 3 4).boot.fail = 4 ∧ (booting 3 0).boot.fail ≠ 4 ∧
    imageSound State.reset.fuses State.reset.flashA = false ∧ imageOk State.reset.fuses State.reset.flashA = false ∧
    (booting 4 0).fuses.dieOk = 0xF ∧ (booting 4 0).boot.mzreq = false ∧ (booting 6 0).modules = 0 ∧ (nget [] (booting 0 0).hwRings 0).length < 256 := by
  decide +kernel
theorem test_stage6 : after .bootStageComplete (booting 5 0) (fun s => (s.boot.stage, (s.hart 1).held, (s.hart 1).pc)) = some (6, false, 0x08000000) := by
  decide +kernel
theorem test_getVersion : after (.getVersion 0x10) State.reset (fun s => s.doe) = some (some (.version [0x13])) := by decide +kernel

/-- Canonical memories before a step, and the step that changes one. -/
theorem witness_StepInvariant : { queued [signalPacket] with schedule := [.event (.signalPacket 0)] }.canonical = true ∧
    (match step { queued [signalPacket] with schedule := [.event (.signalPacket 0)] } with | .next t => t.mem == (queued []).mem | _ => true) = false := by
  decide +kernel
theorem witness_EncodeDecode : (Instr.add 0 0 1 1 2 3).wf = true ∧ encode (.add 0 0 1 1 2 3) = some 0x00241083#32 ∧
    decodeTile 0x38040080#32 = .ok (.tslot 4 0x80) ∧ decodeMuovo 0x6C000000#32 = some .muovoRet ∧
    decodeXhall 0x0073228B#32 = some (.swait 7 6 5) ∧ decodeUdf 0x3FE00000#32 = some (.udf 0 0 0) := by decide +kernel

/-- The coded group on a running cluster with a full bank, its quadrant's turn first. -/
def running : State :=
  { coded with clusters := [(0, { Cluster.reset with run := true })], quads := [(0, { Quad.reset with bank := { Bank.reset with level := 2048 } })]
               schedule := [.quadrant 0 0] }
/-- A tile stream whose next word is in memory, its sequencer's turn first. -/
def streaming : State :=
  { tilePort with
    mem := mwriteN (mwriteN tables 0x13000 8 0x10B) 0x20100 4 0x39400000, tags := [(0x804, 0x400)]
    groups := [(0, { Group.reset with present := true, frontier := [{ Entry.reset with mask := 1 }] })]
    clusters := [(0, { Cluster.reset with run := true })], schedule := [.sequencer 0] }
theorem witness_StepRunsDecoded :
    canonical 0x20040 = true ∧ (coded.access 0 0 0x20040 3 false false).toOption.map (·.pa) = some 0x20040 ∧ (coded.cache 0).ic = [] ∧
    coded.poisoned 0x20040 = false ∧ (coded.serveLines (coded.groupAgent 0) false 0 (coded.nodeLines 0 0 0x20040 ++ [0x20040])).1 = true ∧ tagCS (coded.tagOf 0x20040) = 2 ∧
    (match coded.verdict 0 { Entry.reset with mask := 0xF, pc := 0x20040 } with | .ok b => b.words == [.add 0 0 1 1 2 3] | _ => false) = true ∧
    (running.quad 0).hold.isNone = true ∧ (running.cluster 0).run = true ∧
    (let v := ((quadKeys 0).foldl (fun s gk => if (s.group gk).present then s.askFetch gk else s)
       ((({ running with schedule := [] } : State).beginCycle 0).coreCycle 0)).countStall 0
     match v.choose 0 (v.readyViews 0) with | .issue 0 (0, _, b) none => b.words == [.add 0 0 1 1 2 3] | _ => false) = true ∧
    (match step running with | .next t => vec 1 32 5 { t with cur := Cur.reset } == 8 && (t.quad 0).bank.level == 2048 - 2 | _ => false) = true ∧
    (streaming.tile 0).run = .fetching ∧ (streaming.liveGroups 0).isEmpty = false ∧ decodeTile 0x39400000#32 = .ok .tend ∧
    (match step streaming with | .next t => (t.tile 0).run == .ended | _ => false) = true ∧
    (match step { deciding 0 with schedule := [.policy 0] } with | .next t => (t.engine 0).run.map (·.pc) == some 1 | _ => false) = true ∧
    (match step { firmware 0x00728513 with schedule := [.firmware 0] } with | .next t => (t.hart 0).reg 10 == 0x10030047 | _ => false) = true := by
  decide +kernel

/-! ## Witnesses of further clauses -/

/-- A sequencer whose bank pays for its one task, a `tzero`. -/
def paying (saving : Option Saving) : State :=
  { streaming with tiles := [(0, { Tile.reset with owned := true, pc := 0x20100, table := [task (.tzero 0 0) false] })]
                   seqBanks := [(0, { Bank.reset with level := 340, saving := saving })] }
theorem witness_TileTasks_picked : ((paying none).tile 0).owned = true ∧ (paying none).liveGroups 0 ≠ [] ∧ ((paying none).team 0).draining = none ∧
    (nget Bank.reset (paying none).seqBanks 0).issuedAt ≠ some ((paying none).clockOf 0) ∧
    ((paying none).tile 0).candidate (task (.tzero 0 0) false) = true ∧ taskPrice (.tzero 0 0) = 8 ∧
    after (.tileTaskIssue 0 0) (paying none) (fun s => ((nget Bank.reset s.seqBanks 0).level, (s.tile 0).table.map (·.issued))) = some (332, [true]) ∧
    after (.tileTaskIssue 0 0) (paying (some { price := 24, unit := 5, admission := 0, pc := 0x20100, mask := 0 })) (fun s => (s.tile 0).table.map (·.issued)) = some [false] := by decide +kernel
/-- An unassigned word at the entry's PC; a vector register that is not backed; the pair of `amocas`. -/
def miscoded : State := { coded with mem := mwriteN (mwriteN tables 0x13000 8 0x10B) 0x20040 4 0x03E00000 }
theorem witness_IssueStage_refused :
    wordBad placeGrid false [] [] 0 0x03E00000#32 = some (0, 0) ∧ wordBad placeGrid false [] [] 0 0x38040080#32 = some (8, 0) ∧
    wordBad placeGrid false [] [] 0 0x010C8083#32 = some (0x10, 0) ∧ isNop 0x03E00000#32 = false ∧
    wordBad { placeGrid with nv := 8 } false [] [] 0 0x00247083#32 = some (0x20, 0) ∧ wordBad placeGrid false [] [] 3 0x80241083#32 = some (0x30, 0) ∧
    wordBad placeGrid false [] [] 0 0x00241083#32 = none ∧ bundleBad placeGrid false [] [] [0x00241083#32, 0x03E00000#32] 0 = some (0, 0) ∧
    (match miscoded.fetchAt (miscoded.groupAgent 0) 0x20040 with | .words ws => bundleWords (miscoded.group 0) { Entry.reset with mask := 0xF, pc := 0x20040 } ws == [0x03E00000#32] | _ => false) = true ∧
    (match miscoded.verdict 0 { Entry.reset with mask := 0xF, pc := 0x20040 } with | .bad _ => true | _ => false) = true := by decide +kernel
/-- A line that a walk has marked, with one reference in it, and the host port trained. -/
def hosting (tags : List (Nat × BitVec 16)) : State := { port with modules := 1, tags := tags }
theorem witness_HostCommands_served : (hosting []).modules ≠ 0 ∧ (hosting []).boot.stage ≠ 15 ∧ (hosting []).frameBusy ((hosting []).heldSvc (.host 0x30000)).ticket 161 0x30000 = false ∧
    tagV ((hosting [(0xC00, 0x801)]).tagOf 0x30000) = true ∧ (tagRT ((hosting [(0xC00, 0x801)]).tagOf 0x30000)).getLsbD 0 = true ∧
    after (.hostCxlMemAccess 0x30000 true false 0xF 0x1234) (hosting [(0xC00, 0x801)]) (fun s => s.pread 0x30000 4) = some 0 ∧
    after (.hostCxlMemAccess (2 ^ 51 + 64) true false 0xF 0x1234) port (fun s => mreadN s.hostMem 64 4) = some 0x1234 ∧
    port.resetting = [] ∧ port.ringsEmpty 1 = true ∧ (booting 6 0).boot.stage = 6 ∧
    after (.scaleupPortFailed 0) { engine { held peerBlock false with sent := false } with ports := 1, portOf := [(0, 0)] }
      (fun s => (nget Req.reset s.reqs 0).down) = some true ∧
    (fleet.cluster 0).run = true ∧ ({ fleet.cluster 0 with state := .one 0 0 } : Cluster).state ≠ .idle ∧ (State.reset).takes = true ∧ State.reset.spdm = .closed := by decide +kernel
/-- A decision of a point at its end, over a device with two context slots, one of them held by a dormant team. -/
def acting (p : Point) (_tenant : Nat) (regs : NMap Nat) (cs : List Cand) : State :=
  { overOf p regs cs with
    bar0 := [(0x50, 0x10000), (0x2088, 2)], grids := [(1, { placeGrid with hdr := 0x20000, enqueued := true, gx := 3, gy := 1, gz := 1, next := 2, mask := 0xFFFFF })]
    saved := [(0, { Saved.reset with team := { Team.reset with grid := 1, id := 1 }, dormant := true })] }
theorem witness_Decisions_acting :
    (acting .block 0 [(0, 1)] []).residentTeam 1 0 = some 0 ∧ (acting .block 0 [(0, 1)] []).freeSlots.head? = some 1 ∧
    (acting .wake 0 [(0, 1)] []).dormantSlot 1 1 = some 0 ∧ (acting .migrate 0 [(5, 2)] []).homeDie 0 ≠ 2 ∧
    ((acting .migrate 0 [(5, 2)] []).frame 0).moving = none ∧ (acting .migrate 0 [(5, 2)] []).pinned 0 = false ∧
    (acting .hypTick 0 [(1, 2)] []).leavers 0 1 = [0] ∧ (acting .hypTick 0 [(1, 2)] []).unsaved [0] = [0] ∧
    ((acting .hypTick 0 [(1, 2)] []).evict [0] false).unsaved [0] = [] ∧
    (acting .pick 0 [(0, 0)] []).isCandidate 0 1 = true ∧ (acting .pick 0 [(0, 0)] []).nextTeam 1 0 = some 2 ∧
    ((acting .pick 0 [(0, 0)] []).openCores 0 ((acting .pick 0 [(0, 0)] []).grid 1)).head? = some 0 ∧
    (match takeTurn (.policy 0) (acting .block 0 [(0, 1)] []) with | .next u => (u.team 0).draining | _ => none) = some (1, true) := by decide +kernel
/-- Every byte memory is in the form, team memory and policy scratch among them; one that lists a zero byte is not. -/
theorem witness_StepInvariant_memories :
    ({ deciding 0 with teams := [(0, { Team.reset with tmem := [(3, 1), (5, 2)] })] } : State).canonical = true ∧
    ({ deciding 0 with teams := [(0, { Team.reset with tmem := [(3, 0)] })] } : State).canonical = false ∧
    ({ State.reset with saved := [(0, { Saved.reset with team := { Team.reset with tmem := [(5, 1), (3, 1)] } })] } : State).canonical = false ∧
    ({ State.reset with engines := [(0, { Engine.reset with run := some { decision 0 with scratch := [(3, 0)] } })] } : State).canonical = false := by decide +kernel

/-- A frame that moves: its home serves nothing. -/
def moving (n : Nat) (s : State) : State := { s with frames := nput s.frames n { s.frame n with moving := some 2 } }
/-- Does a home make an access of a sender wait? -/
def waits : AtHome → Bool
  | .wait _ => true
  | .ok _ => false
theorem witness_UniformAccesses_pref :
    (two.serveWord ((List.range 4).map fun i => ({ readAsk 1 true with noHost := true }, two.sreg 2 + BitVec.ofNat 64 (64 * i)))).1 = true := by decide +kernel
/-- Every comparison of an `amocas` fails; a `sc` without a reservation; homes that serve the lines asked for. -/
theorem witness_AtomicWords_fail : (lanesOf two.cur.act).all (fun l => two.pread (0x30000 + 8 * l) 8 != elem (nget 0 regs.v 2) 64 l) = true ∧
    (two.serveLines two.agent false two.cur.wpc.toNat (two.wordLines two.agent ((lanesOf two.cur.act).map fun l => (amoAsk 8, two.laneAddr 4 l)))).1 = true ∧
    ({ reserving with groups := [] } : State).holdsResv 0 false (0x30000 / 64) = false ∧
    (two.serveLines two.agent false two.cur.wpc.toNat (two.wordLines two.agent ((lanesOf two.cur.act).map fun l => (scAsk 8, two.laneAddr 4 l)))).1 = true := by
  decide +kernel
theorem witness_SynchronisationWords_bar : port.cur.arrived = false ∧ (port.mapCur fun c => { c with arrived := true }).ready = true := by decide +kernel
/-- No frame is queued for, whoever asks. -/
theorem witness_PublishingWords_idle : ∀ n p, publishing.frameBusy n publishing.agent.core p = false := by
  intro n p
  have h : publishing.waiters = [] := by decide +kernel
  have f : publishing.frame (p / 65536) = Frame.reset := rfl
  simp [State.frameBusy, h, f, Frame.reset]
theorem witness_PublishingWords_range :
    (publishing.serveLines publishing.agent false publishing.cur.wpc.toNat (publishing.rangePAs publishing.agent 1 (lineVas 0x40000 0x40))).1 = true := by
  decide +kernel
theorem witness_EngineWords_broken : (tilePort.mapCur fun c => { c with broken := true }).cur.broken = true ∧ tilePort.cur.broken = false ∧
    (pend .nbar (.nbarWait 0 0 3)).broken = false := by decide +kernel
/-- A fetch, an engine's, a task's and a dispatcher's access whose home cannot serve it now. -/
theorem witness_IssueStage_waits : (match (moving 2 coded).fetchAt ((moving 2 coded).fetcher 0 0x20040) 0x20040 with | .wait => true | _ => false) = true ∧
    (match (moving 4 (engine Req.reset)).objectAt { (moving 4 (engine Req.reset)).seqAgent 0 with who := .sender (.task 0 0) } 0x40000 with | .wait _ => true | _ => false) = true ∧
    (match ((moving 3 (waiting .launch (.launch 0 2))).accept (ioAgent 0 0 0 0 (.launch 0 0x20040)) 0x30000).1 with | .wait => true | _ => false) = true ∧
    ({ coded with quads := [(0, { Quad.reset with bank := { Bank.reset with starve := 256 } })] } : State).readyViews 0 ≠ [] := by decide +kernel
/-- The exit step of a team without a cloister id, and the write of a slot: served, and held up by a frame that moves. -/
theorem witness_TeamsAndGrids_homes : waits (teamGone.exitAtHome (teamGone.team 0)) = false ∧ waits (silentTeam.slotAtHome 7) = false ∧
    waits ((moving ((silentTeam.slotPA 7) / 65536) silentTeam).slotAtHome 7) = true ∧
    (((silentTeam.team 0).gks.map silentTeam.group).any fun x => x.frontier.any fun e => e.mask != 0) = true ∧
    (match (moving 3 (gridOver 0x30000)).ioObject ((moving 3 (gridOver 0x30000)).gridAgent 1) 0x30000 5 with | .wait _ => true | _ => false) = true ∧
    (({ gridOver 0x800000000 with grids := [(1, { placeGrid with ended := 1, doneva := 0x800000000, mute := true })] } : State).teamsOver 1 &&
      (placeGrid.mute == false)) = true := by decide +kernel
/-- A team with cloister id 5 whose window of one page is frame 3: its exit step waits while the frame moves. -/
def cloistered : State :=
  { teamGone with
    mem := mwriteN tables 0x13000 8 (0x117 + 5 * 2 ^ 48), teams := [(0, { teamGone.team 0 with cid := some 5 })]
    pools := [(0, BitVec.ofNat 256 (0x200050001 + 0x30000 * 2 ^ 64 + 0x10000 * 2 ^ 128))] }
theorem witness_TeamsAndGrids_exit : (cloistered.dropCloister 0 5).exitFrames (cloistered.team 0) = [3] ∧ cloistered.teamOver 0 = true ∧
    waits ((cloistered.dropCloister 0 5).exitAtHome (cloistered.team 0)) = false ∧
    waits (((moving 3 cloistered).dropCloister 0 5).exitAtHome (cloistered.team 0)) = true := by decide +kernel
theorem witness_Packets_waits : (match (moving 3 (queued [])).ioObject (ioAgent 0 0 0 0 (.head 5)) 0x30000 5 with | .wait _ => true | _ => false) = true ∧
    (match (moving 3 (queued [])).ioObject (ioAgent 0 0 0 0 (.head 5)) 0x30000 4 with | .wait _ => true | _ => false) = true ∧
    (match ((moving 3 launchable).accept (ioAgent 0 0 0 0 (.head 5)) 0x30000).1 with | .wait => true | _ => false) = true ∧
    waits ((started publishRaw 0).atHome (ioAgent 0 0 0 0 (.job 5)) ((started publishRaw 0).withNodes (ioAgent 0 0 0 0 (.job 5)) [0x30000] [0x30000])) = false ∧
    waits ((moving 3 (started publishRaw 0)).atHome (ioAgent 0 0 0 0 (.job 5)) [0x30000]) = true ∧
    (State.readImage (ioAgent 0 0 0 0 (.head 5)) 0x30000 1 0 [] (moving 3 (withRoutine (queued [])))).1 = none ∧
    (moving 3 (hosting [])).frameBusy ((moving 3 (hosting [])).heldSvc (.host 0x30000)).ticket 161 0x30000 = true := by decide +kernel
/-- A firmware core at an address in a frame that moves. -/
theorem witness_FirmwareWords_wait :
    (match (moving 3 (firmware 0)).rvFetch 0 { (firmware 0).hart 0 with pc := 0x10000030000 } with | .wait _ => true | _ => false) = true := by decide +kernel
/-- R220: 2^-25 lies midway between 0 and the least f16 number, and goes to the even one; f16 -25 is 0xCE40. -/
theorem test_exp2_tie : after (.exp2 1 0 3 8 9) (port.mapCur fun c => { c with src := { c.src with v := [(9, image 16 (fun _ => 0xCE40))] } })
    (vec 8 16 0) = some 0 := by decide +kernel
/-- R298: a sparse row of 33 columns is 16.5 bytes, more than a pitch of 16. -/
theorem test_slot_pitch : typeRowBits 5 33 = 132 ∧ slotCause 0x10000 (BitVec.ofNat 256 (1 * 2 ^ 32 + 33 * 2 ^ 48 + 16 * 2 ^ 64 + 5 * 2 ^ 128)) =
    some 0x0E0 := by decide +kernel

end Sys2Proof.Tests
end

section
/-! Refutations: a statement that fails on a concrete state, with the run of the model that shows it. -/

namespace Sys2Proof.Machine

/-! ## A completion record whose home waits -/

/-- Stage-2 tables in frame 0 whose one leaf takes IA 0 to host memory. -/
def hostLeafTables : List Host.Cell :=
  mwriteN (mwriteN (mwriteN [] 0x2000 8 0x3001) 0x3000 8 0x4001) 0x4000 8 (2 ^ 47 + 0x107)
/-- A completion record. -/
def waitingRecord : CompRec :=
  { time := 0, seq := 0, aqi := 0, type := 1, status := 2, evtag := 0, cause := 0, nflt := 0, detail := 0, irq := false }
/-- A record waits for event ring 0 of PF0, whose place is in host memory, while the frame that holds PF0's stage-2 tables moves. -/
def tablesMoving : State :=
  { State.reset with
    mem := hostLeafTables, vfTab := [(0, 0x2001)], frames := [(0, { Frame.reset with moving := some 1 })]
    ringWait := [(0, [waitingRecord])] }

theorem tablesMoving_target : tablesMoving.fnTarget 0 0 = some (2 ^ 51 * (1 + 2 ^ 20)) := by decide +kernel

/-- The read of the tables waits for the move, and the record with it (R115). -/
theorem tablesMoving_keeps_record : nget [] (tablesMoving.recordStep 0 0).ringWait 0 = [waitingRecord] := by decide +kernel

/-- Refutes O50: a ring in host memory does not make COMPLETION_RECORD_WRITE write at once. Its address is translated by stage-2 tables in
HBM, and while their frame moves the record waits (R115, R334), where the statement has it written. -/
theorem not_packetQueues : ¬ Obligations.PacketQueues := by
  unfold Obligations.PacketQueues
  rintro ⟨-, -, -, hring⟩
  obtain ⟨-, hwrite, -⟩ := hring 0 0 0 0 tablesMoving
  obtain ⟨-, hhost⟩ := hwrite waitingRecord [] (by decide) (by decide +kernel)
  obtain ⟨u, hu, hrest, -⟩ := hhost _ tablesMoving_target (by decide +kernel) (by decide)
  have hstep : u = tablesMoving.recordStep 0 0 := (Host.Outcome.next.inj hu).symm
  rw [hstep, tablesMoving_keeps_record] at hrest
  exact absurd hrest (by decide)

/-! ## A team listed twice -/

/-- A hypervisor TICK without a word left that takes every cluster from tenant 0. -/
def emptyMaskTick : Decision :=
  { raised := { Raised.reset with point := .hypTick }, slot := 512, routine := Routine.reset, arg := 0, cands := [], pc := 0, used := 0
    w := [], scratch := [], regs := [(1, 0)], loops := [] }
/-- A resident team of grid 1. -/
def residentOfGrid1 : Team := { Team.reset with present := true, grid := 1 }
/-- The table of teams lists team 0, of a cooperative grid, twice; two context slots are free, and the hypervisor's TICK ends. -/
def listedTwice : State :=
  { State.reset with
    teams := [(0, residentOfGrid1), (0, residentOfGrid1)], grids := [(1, { Grid.reset with present := true, coop := true })]
    bar0 := [(0x2088, 2)], engines := [(20, { Engine.reset with run := some emptyMaskTick })] }

/-- The save of a team that an outcome leaves in progress. -/
def Out.draining (tk : Nat) : Out → Option (Nat × Bool)
  | .next u => (u.team tk).draining
  | _ => none

/-- The team begins its save twice, and ends up with the second slot. -/
theorem listedTwice_takes_second_slot : Out.draining 0 (takeTurn (.policy 20) listedTwice) = some (1, false) := by decide +kernel

/-- Refutes O47: the statement gives the i-th team that begins its save the i-th free slot. The two entries of a table that lists one
team of a cooperative grid twice take two slots, and of the two saves of this one team the second stands. -/
theorem not_decisions : ¬ Obligations.Decisions := by
  unfold Obligations.Decisions
  rintro ⟨hengine, -⟩
  obtain ⟨-, -, hend, -⟩ := hengine 20 listedTwice
  obtain ⟨u, hu, -, -, -, -, -, -, -, -, -, htick, -⟩ := hend emptyMaskTick (by decide) (by decide) (by decide)
  have hslot : (u.team 0).draining = some (1, false) := by
    have h := listedTwice_takes_second_slot
    rwa [hu] at h
  have hsaves : (u.team 0).draining = some (0, false) := by
    rcases htick rfl with ⟨hdone, hwaits⟩
    by_cases hleft : (listedTwice.evict (listedTwice.leavers 0 (listedTwice.tenantMask 0 &&& ~~~(0 &&& listedTwice.quota 0))) false).unsaved
        (listedTwice.leavers 0 (listedTwice.tenantMask 0 &&& ~~~(0 &&& listedTwice.quota 0))) = []
    · obtain ⟨-, -, ⟨hfirst, -⟩, -⟩ := hdone hleft
      exact hfirst 0 0 0 (by decide +kernel) (by decide +kernel)
    · exact absurd (by decide +kernel) hleft
  rw [hslot] at hsaves
  exact absurd hsaves (by decide)

end Sys2Proof.Machine
end

section
/-! Lanes that have left a group stay out of it: what the frontier's own operations, the settling of landings and the end of lanes can do
with a lane that no entry and no landing holds (R45, R54, R55, R60). -/

namespace Sys2Proof.Machine

/-! ## Masks -/

/-- A bit of the union of masks. -/
theorem getLsbD_foldl_or {α : Type} (f : α → LaneMask) (l : List α) (m : LaneMask) (i : Nat) :
    (l.foldl (fun m x => m ||| f x) m).getLsbD i = true ↔ m.getLsbD i = true ∨ ∃ x ∈ l, (f x).getLsbD i = true := by
  induction l generalizing m with
  | nil => simp
  | cons a r ih => simp [ih, BitVec.getLsbD_or, or_assoc]

theorem getLsbD_foldl_or_false {α : Type} (f : α → LaneMask) (l : List α) (m : LaneMask) (i : Nat) :
    (l.foldl (fun m x => m ||| f x) m).getLsbD i = false ↔ m.getLsbD i = false ∧ ∀ x ∈ l, (f x).getLsbD i = false := by
  have h := getLsbD_foldl_or f l m i
  rw [← Bool.not_eq_true, h]
  simp

/-- The lanes of the frontier. -/
theorem frontLanes_bit (g : Group) (l : Nat) : g.frontLanes.getLsbD l = true ↔ ∃ e ∈ g.frontier, e.mask.getLsbD l = true := by
  simpa [Group.frontLanes] using getLsbD_foldl_or (fun e : Entry => e.mask) g.frontier 0 l

/-- The parked lanes. -/
theorem parkedLanes_bit (g : Group) (l : Nat) : g.parkedLanes.getLsbD l = true ↔ ∃ p ∈ g.parked, p.mask.getLsbD l = true := by
  simpa [Group.parkedLanes] using getLsbD_foldl_or (fun p : Parked => p.mask) g.parked 0 l

/-! ## A lane that no entry holds -/

/-- A lane is in no entry of a frontier. -/
def Absent (l : Nat) (f : List Entry) : Prop := ∀ e ∈ f, e.mask.getLsbD l = false
/-- A lane is awaited by no landing. -/
def Unawaited (l : Nat) (ls : List Landing) : Prop := ∀ x ∈ ls, x.await.getLsbD l = false

theorem absent_nil (l : Nat) : Absent l [] := fun _ h => absurd h List.not_mem_nil

theorem absent_insertEntry {l : Nat} {e : Entry} {f : List Entry} (he : e.mask.getLsbD l = false) (hf : Absent l f) :
    Absent l (insertEntry e f) := by
  induction f with
  | nil =>
    simp only [insertEntry]
    split
    · exact absent_nil l
    · simpa [Absent] using he
  | cons a r ih =>
    have ha : a.mask.getLsbD l = false := hf a List.mem_cons_self
    have hr : Absent l r := fun x hx => hf x (List.mem_cons_of_mem _ hx)
    simp only [insertEntry]
    split
    · exact hf
    · split
      · intro x hx
        rcases List.mem_cons.1 hx with rfl | hx
        · simp [BitVec.getLsbD_or, ha, he]
        · exact hr x hx
      · intro x hx
        rcases List.mem_cons.1 hx with rfl | hx
        · exact ha
        · exact ih hr x hx

theorem absent_foldl_insert {l : Nat} {es f : List Entry} (he : Absent l es) (hf : Absent l f) :
    Absent l (es.foldl (fun f e => insertEntry e f) f) := by
  induction es generalizing f with
  | nil => exact hf
  | cons a r ih =>
    exact ih (fun x hx => he x (List.mem_cons_of_mem _ hx)) (absent_insertEntry (he a List.mem_cons_self) hf)

theorem absent_normFrontier {l : Nat} {f : List Entry} (hf : Absent l f) : Absent l (normFrontier f) :=
  absent_foldl_insert hf (absent_nil l)

theorem absent_dropLanes {l : Nat} {m : LaneMask} {f : List Entry} (h : m.getLsbD l = true ∨ Absent l f) :
    Absent l (dropLanes m f) := by
  intro x hx
  obtain ⟨hx, -⟩ := List.mem_filter.1 hx
  obtain ⟨e, he, rfl⟩ := List.mem_map.1 hx
  rcases h with h | h
  · simp [BitVec.getLsbD_and, BitVec.getLsbD_not, h]
  · simp [BitVec.getLsbD_and, h e he]

theorem unawaited_leaveLandings {l : Nat} (m : LaneMask) (sel : Landing → Bool) {ls : List Landing} (h : Unawaited l ls) :
    Unawaited l (leaveLandings m sel ls) := by
  intro x hx
  obtain ⟨hx, -⟩ := List.mem_filter.1 hx
  obtain ⟨y, hy, rfl⟩ := List.mem_map.1 hx
  split
  · simp [BitVec.getLsbD_and, h y hy]
  · exact h y hy

/-- Lanes that leave every landing are awaited by none. -/
theorem unawaited_leaveLandings_all {l : Nat} {m : LaneMask} (hm : m.getLsbD l = true) (ls : List Landing) :
    Unawaited l (leaveLandings m (fun _ => true) ls) := by
  intro x hx
  obtain ⟨hx, -⟩ := List.mem_filter.1 hx
  obtain ⟨y, -, rfl⟩ := List.mem_map.1 hx
  simp [BitVec.getLsbD_and, BitVec.getLsbD_not, hm]

/-- Holding lanes changes the awaited lanes of no landing. -/
theorem holdLanes_await (h pc : Dword) (m : LaneMask) (ls : List Landing) :
    (holdLanes h pc m ls).2.map (·.await) = ls.map (·.await) := by
  induction ls with
  | nil => rfl
  | cons a r ih => simp [holdLanes, ih]

theorem unawaited_of_awaits {l : Nat} {xs ys : List Landing} (h : xs.map (·.await) = ys.map (·.await)) (hy : Unawaited l ys) :
    Unawaited l xs := by
  intro x hx
  have hm : x.await ∈ ys.map (·.await) := h ▸ List.mem_map_of_mem hx
  obtain ⟨y, hy', e⟩ := List.mem_map.1 hm
  rw [← e]; exact hy y hy'

theorem absent_releasedEntries {l : Nat} (h : Dword) (x : Landing) {f : List Entry} (hf : Absent l f) :
    Absent l (releasedEntries h x f) := by
  have hpart : Absent l ((f.filter (fun e => e.mask &&& x.await != 0)).map (fun e =>
      { e with prio := x.jprio, pc := x.pc h, mask := e.mask &&& x.await, held := false, count := 0, promoted := none })) := by
    intro y hy
    obtain ⟨e, he, rfl⟩ := List.mem_map.1 hy
    simp [BitVec.getLsbD_and, hf e (List.mem_filter.1 he).1]
  intro y hy
  simp only [releasedEntries] at hy
  rcases List.mem_cons.1 hy with rfl | hy
  · exact (getLsbD_foldl_or_false (fun e : Entry => e.mask) _ 0 l).2 ⟨by simp, fun e he => hpart e (List.mem_filter.1 he).1⟩
  · exact hpart y (List.mem_filter.1 hy).1

/-- What a group that a lane has left looks like to the frontier and the landings. -/
def Left (l : Nat) (g : Group) : Prop := Absent l g.frontier ∧ Unawaited l g.landings

theorem absent_append {l : Nat} {f : List Entry} {e : Entry} (hf : Absent l f) (he : e.mask.getLsbD l = false) : Absent l (f ++ [e]) := by
  intro x hx
  rcases List.mem_append.1 hx with hx | hx
  · exact hf x hx
  · rw [List.mem_singleton.1 hx]; exact he

theorem left_holdReleased {l : Nat} (h : Dword) (rel : LaneMask) {g : Group} (hg : Left l g) : Left l (holdReleased h rel g) := by
  obtain ⟨hf, hl⟩ := hg
  suffices key : ∀ x : List Entry × List Entry × List Landing,
      (Absent l x.1 ∧ Absent l x.2.1 ∧ Unawaited l x.2.2) → Left l { g with
        landings := x.2.2, frontier := x.2.1.foldl (fun l e => insertEntry e l) (x.1.filter (fun e => e.mask != 0)) } by
    refine key _ (List.foldlRecOn (β := List Entry × List Entry × List Landing)
      (motive := fun x => Absent l x.1 ∧ Absent l x.2.1 ∧ Unawaited l x.2.2) g.frontier _
      ⟨absent_nil l, absent_nil l, hl⟩ ?_)
    rintro ⟨a, b, ls⟩ ⟨ha, hb, hls⟩ e he
    have hm : e.mask.getLsbD l = false := hf e he
    dsimp only
    split
    · exact ⟨absent_append ha hm, hb, hls⟩
    · exact ⟨absent_append ha (by simp [BitVec.getLsbD_and, hm]), absent_append hb (by simp [BitVec.getLsbD_and, hm]),
        unawaited_of_awaits (holdLanes_await _ _ _ _) hls⟩
  rintro ⟨a, b, ls⟩ ⟨ha, hb, hls⟩
  exact ⟨absent_foldl_insert hb (fun x hx => ha x (List.mem_filter.1 hx).1), hls⟩

theorem left_releaseLanding {l : Nat} (h : Dword) (x : Landing) {g : Group} (hg : Left l g) : Left l (releaseLanding h x g) := by
  obtain ⟨hf, hl⟩ := hg
  refine left_holdReleased _ _ ⟨absent_foldl_insert (absent_releasedEntries h x hf) (absent_dropLanes (Or.inr hf)), ?_⟩
  exact List.foldlRecOn (motive := Unawaited l) _ _ (fun y hy => hl y (List.mem_of_mem_erase hy)) (fun ls hls e _ => unawaited_leaveLandings _ _ hls)

theorem left_settle {l : Nat} (h : Dword) {g : Group} (hg : Left l g) : Left l (settle h g) := by
  have key : ∀ (n : Nat) (g : Group), Left l g → Left l (completeLandings h n g) := by
    intro n
    induction n with
    | zero => exact fun _ h => h
    | succ n ih =>
      intro g hg
      rw [completeLandings]
      split
      · exact hg
      · exact ih _ (left_releaseLanding _ _ hg)
  exact key _ _ hg

/-! ## A lane that is gone -/

/-- A lane has left a group altogether. -/
def Group.gone (l : Nat) (g : Group) : Prop :=
  Left l g ∧ (∀ p ∈ g.parked, p.mask.getLsbD l = false) ∧ ∀ r ∈ g.resv, r.1 ≠ l

/-- A lane is gone from a group of the machine exactly when it is in no entry, landing, parked sub-group or reservation. -/
theorem laneGone_iff (u : State) (gk l : Nat) : LaneGone u gk l ↔ (u.group gk).gone l := by
  have hf : (u.group gk).frontLanes.getLsbD l = false ↔ Absent l (u.group gk).frontier := by
    rw [← Bool.not_eq_true, frontLanes_bit]; simp [Absent]
  have hp : (u.group gk).parkedLanes.getLsbD l = false ↔ ∀ p ∈ (u.group gk).parked, p.mask.getLsbD l = false := by
    rw [← Bool.not_eq_true, parkedLanes_bit]; simp
  unfold LaneGone Group.gone Left Unawaited
  rw [hf, hp, and_assoc]

/-- Settling leaves registers, parked sub-groups and reservations alone. -/
theorem settle_kept (h : Dword) (g : Group) :
    (settle h g).regs = g.regs ∧ (settle h g).parked = g.parked ∧ (settle h g).resv = g.resv ∧ (settle h g).gid = g.gid ∧
      (settle h g).tk = g.tk := by
  have e := rest_settle h g
  exact ⟨(congrArg Group.regs e :), (congrArg Group.parked e :), (congrArg Group.resv e :), (congrArg Group.gid e :), (congrArg Group.tk e :)⟩

theorem gone_settle {l : Nat} (h : Dword) {g : Group} (hg : g.gone l) : (settle h g).gone l := by
  obtain ⟨hl, hp, hr⟩ := hg
  obtain ⟨-, ep, er, -⟩ := settle_kept h g
  exact ⟨left_settle h hl, ep ▸ hp, er ▸ hr⟩

/-- The check of the loop owner changes loops alone. -/
theorem ownerCheck_kept (g : Group) : ownerCheck g = { g with loops := (ownerCheck g).loops } := by
  unfold ownerCheck; split <;> rfl

theorem gone_ownerCheck {l : Nat} {g : Group} (hg : g.gone l) : (ownerCheck g).gone l := by
  rw [ownerCheck_kept]; exact hg

/-- What the frontier comes to after its entries have been merged. -/
theorem gone_normFrontier {l : Nat} {g : Group} (hg : g.gone l) : ({ g with frontier := normFrontier g.frontier } : Group).gone l := by
  obtain ⟨⟨hf, hl⟩, hp, hr⟩ := hg
  exact ⟨⟨absent_normFrontier hf, hl⟩, hp, hr⟩

/-- A lane that ends is gone, and one that was gone stays so. -/
theorem gone_endLanes {l : Nat} (h : Dword) {m : LaneMask} {g : Group} (hl : m.getLsbD l = true ∨ g.gone l) : (endLanes h m g).gone l := by
  unfold endLanes
  split
  · rename_i hm
    rcases hl with hl | hl
    · simp [hm] at hl
    · exact hl
  · refine gone_settle _ (gone_normFrontier (gone_ownerCheck ⟨⟨absent_dropLanes ?_, ?_⟩, ?_, ?_⟩))
    · exact hl.imp id (fun hg => hg.1.1)
    · rcases hl with hl | ⟨⟨-, hw⟩, -⟩
      · exact unawaited_leaveLandings_all hl _
      · exact unawaited_leaveLandings _ _ hw
    · intro p hp
      obtain ⟨hp, -⟩ := List.mem_filter.1 hp
      obtain ⟨y, hy, rfl⟩ := List.mem_map.1 hp
      rcases hl with hl | ⟨-, hq, -⟩
      · simp [BitVec.getLsbD_and, BitVec.getLsbD_not, hl]
      · simp [BitVec.getLsbD_and, hq y hy]
    · intro r hr
      obtain ⟨hr, hb⟩ := List.mem_filter.1 hr
      rcases hl with hl | ⟨-, -, hq⟩
      · rintro rfl; simp [hl] at hb
      · exact hq r hr

/-- The end of lanes leaves registers, identity and fault state alone. -/
theorem endLanes_kept (h : Dword) (m : LaneMask) (g : Group) :
    (endLanes h m g).regs = g.regs ∧ (endLanes h m g).gid = g.gid ∧ (endLanes h m g).tk = g.tk := by
  have e := rest_endLanes h m g
  exact ⟨(congrArg Group.regs e :), (congrArg Group.gid e :), (congrArg Group.tk e :)⟩

end Sys2Proof.Machine
end

section
/-! The checks of a bundle's words (R185-R187) against the rules that the statement on the issue stage gives for them. -/

namespace Sys2Proof.Machine

/-! ## Check 3 -/

theorem vregReason_iff (g : Grid) (c : Nat) (wr rd : Bool) (n : Nat) (hc : c < 0x38) :
    vregReason g c = some n ↔ misused g ⟨true, c, wr, rd⟩ n := by
  simp only [vregReason, landingRegs, misused, Bool.true_eq_false, false_and, false_or, true_and]
  by_cases h0 : g.ld = 0
  · simp only [if_pos h0]
    grind
  · by_cases h1 : g.ld ≤ 32
    · simp only [if_neg h0, if_pos h1]
      grind
    · simp only [if_neg h0, if_neg h1]
      grind

/-- The reason of check 3 for a register field, as R20, R21, R179 and R187 give it. -/
theorem useReason_iff (g : Grid) (u : RegUse) (n : Nat) : useReason g u = some n ↔ misused g u n := by
  obtain ⟨vec, c, wr, rd⟩ := u
  cases vec with
  | false => simp [useReason, misused]; grind
  | true =>
    by_cases h : c < 0x38
    · rw [← vregReason_iff g c wr rd n h]
      simp [useReason, h]
    · simp only [useReason, misused]
      grind

theorem useReason_none (g : Grid) (u : RegUse) : useReason g u = none ↔ ∀ n, ¬misused g u n := by
  simp only [← useReason_iff]
  exact ⟨fun h n => by simp [h], Option.eq_none_iff_forall_ne_some.2⟩

/-- The pair rule of `amocas`, as check 3 tests it. -/
theorem badPair_iff (g : Grid) (w : Word) : badPair g w ↔ majorOf w = 12 ∧ fn5 w = 7 ∧ ((fld w 10 6).toNat % 2 = 1 ∨
    0x37 ≤ (fld w 10 6).toNat ∨ vregReason g ((fld w 10 6).toNat + 1) = some 0) := by
  have hf : fn5 w = 7 ↔ fld w 21 5 = 7 := by
    rw [fn5, ← BitVec.toNat_inj]; rfl
  rw [hf]
  by_cases h : 0x37 ≤ (fld w 10 6).toNat
  · simp [badPair, h]
  · rw [vregReason_iff g _ false true 0 (by omega)]
    rfl

theorem pairReason_bad {g : Grid} {w : Word} (h : badPair g w) : pairReason g w = some 5 := if_pos ((badPair_iff g w).1 h)

theorem pairReason_good {g : Grid} {w : Word} (h : ¬badPair g w) : pairReason g w = none := if_neg (mt (badPair_iff g w).2 h)

theorem findSome_none (g : Grid) {us : List RegUse} (h : ∀ x ∈ us, ∀ k, ¬misused g x k) : us.findSome? (useReason g) = none :=
  List.findSome?_eq_none_iff.2 fun x hx => (useReason_none g x).2 (h x hx)

/-- The first field that cannot be used decides. -/
theorem regReason_first (g : Grid) (w : Word) (p r : List RegUse) (u : RegUse) (n : Nat) (hw : regUses w = p ++ u :: r)
    (hp : ∀ x ∈ p, ∀ k, ¬misused g x k) (hpair : p ≠ [] → ¬badPair g w) (hu : misused g u n) : regReason g w = some n := by
  cases p with
  | nil => simp [regReason, hw, (useReason_iff g u n).2 hu]
  | cons d p =>
    have hd : useReason g d = none := (useReason_none g d).2 (hp d List.mem_cons_self)
    have hpr : p.findSome? (useReason g) = none := findSome_none g fun x hx => hp x (List.mem_cons_of_mem _ hx)
    simp [regReason, hw, hd, pairReason_good (hpair (by simp)), List.findSome?_append, hpr, (useReason_iff g u n).2 hu]

/-- The pair rule comes after D. -/
theorem regReason_pair (g : Grid) (w : Word) (u : RegUse) (r : List RegUse) (hw : regUses w = u :: r) (hu : ∀ k, ¬misused g u k)
    (hpair : badPair g w) : regReason g w = some 5 := by
  simp [regReason, hw, (useReason_none g u).2 hu, pairReason_bad hpair]

theorem regReason_none (g : Grid) (w : Word) (h : ∀ u ∈ regUses w, ∀ n, ¬misused g u n) (hpair : ¬badPair g w) :
    regReason g w = none := by
  unfold regReason
  split
  · rfl
  · rename_i d r hw
    rw [hw] at h
    have hd : useReason g d = none := (useReason_none g d).2 (h d List.mem_cons_self)
    simp [hd, pairReason_good hpair, findSome_none g fun x hx => h x (List.mem_cons_of_mem _ hx)]

/-! ## Check 4 -/

/-- The first of four conditions that holds, by number. -/
theorem firstOfFour_iff (a b c d : Prop) [Decidable a] [Decidable b] [Decidable c] [Decidable d] (n : Nat) :
    (if a then some 0 else if b then some 1 else if c then some 2 else if d then some 3 else none) = some n ↔
      (n = 0 ∧ a ∨ n = 1 ∧ b ∨ n = 2 ∧ c ∨ n = 3 ∧ d) ∧ ∀ k, k < n → ¬(k = 0 ∧ a ∨ k = 1 ∧ b ∨ k = 2 ∧ c ∨ k = 3 ∧ d) := by
  by_cases ha : a
  · simp only [ha]
    grind
  · by_cases hb : b
    · simp only [ha, hb]
      grind
    · by_cases hc : c <;> simp only [ha, hb, hc] <;> grind

/-- The packet rule of the lowest reason decides (log entry 42). -/
theorem packetReason_iff (bundle before : List Word) (pos : Nat) (w : Word) (n : Nat) :
    packetReason bundle before pos w = some n ↔
      packetRule bundle before pos w n ∧ ∀ k, k < n → ¬packetRule bundle before pos w k := by
  have hctl : isControl w = true ↔ majorOf w = 11 ∨ majorOf w = 15 ∧ fld w 21 5 ≠ 0 := by
    have : fn5 w = 0 ↔ fld w 21 5 = 0 := by rw [fn5, ← BitVec.toNat_inj]; rfl
    simp [isControl, this]
  have hres : resumable w = true ↔ majorOf w ∈ [9, 10, 12, 13] := by simp [resumable]
  have hpipe : (pipeOf w).isSome = true ↔ pipeOf w ≠ none := Option.isSome_iff_ne_none
  have hsame : (before.any fun v => pipeOf v == pipeOf w) = true ↔ ∃ v ∈ before, pipeOf v = pipeOf w := by simp
  have hlatch : bundle.any namesLatch = true ↔ ∃ v ∈ bundle, namesLatch v = true := by simp
  rw [packetReason, firstOfFour_iff, hctl, hres, hpipe, hsame, hlatch]
  rfl

theorem packetReason_none (bundle before : List Word) (pos : Nat) (w : Word) (h : ∀ n, ¬packetRule bundle before pos w n) :
    packetReason bundle before pos w = none :=
  Option.eq_none_iff_forall_ne_some.2 fun n hn => h n ((packetReason_iff _ _ _ _ n).1 hn).1

/-! ## All checks -/

/-- A word that no check before the fourth stops fails as its packet rules say, with the cause of major `m`. -/
theorem packet_verdict {bundle before : List Word} {pos : Nat} {w : Word} {bad : Option Bad} {m : Nat}
    (h : bad = (packetReason bundle before pos w).map (fun r => (0x030 + m, r))) :
    (∀ n, packetRule bundle before pos w n → (∀ k, k < n → ¬packetRule bundle before pos w k) → bad = some (0x030 + m, n)) ∧
      ((∀ n, ¬packetRule bundle before pos w n) → bad = none) := by
  subst h
  refine ⟨fun n hn hk => ?_, fun hn => ?_⟩
  · rw [(packetReason_iff _ _ _ _ n).2 ⟨hn, hk⟩]; rfl
  · rw [packetReason_none _ _ _ _ hn]; rfl

/-- `nop` is a word of major 0. -/
theorem majorOf_nop {w : Word} (h : isNop w = true) : majorOf w = 0 := by
  have h0 : w &&& 0x7FFFFFFF#32 = 0 := by simpa [isNop] using h
  have hf : fld w 26 4 = 0 := by
    apply BitVec.eq_of_getLsbD_eq
    intro i hi
    have hb := congrArg (fun x : Word => x.getLsbD (26 + i)) h0
    have hm : (0x7FFFFFFF#32).getLsbD (26 + i) = true := by interval_cases i <;> rfl
    simp only [BitVec.getLsbD_and, hm, Bool.and_true] at hb
    simp [fld, hi, hb]
  rw [majorOf, hf]; rfl

theorem wordBad_nop (g : Grid) (mezz : Bool) (bundle before : List Word) (pos : Nat) {w : Word} (h : isNop w = true) :
    wordBad g mezz bundle before pos w = (packetReason bundle before pos w).map (fun r => (0x030 + majorOf w, r)) := by
  rw [wordBad, if_pos h, majorOf_nop h]

section
variable (g : Grid) (mezz : Bool) (bundle before : List Word) (pos : Nat) {w : Word} (hn : isNop w = false)
include hn

theorem wordBad_error {e : DecodeError} (h : decodeGroup w = .error e) : wordBad g mezz bundle before pos w = some (e.code, 0) := by
  simp [wordBad, hn, h]

theorem wordBad_barred {i : Instr} (h : decodeGroup w = .ok i) (hm : mezz = true) (hb : mezzBarred w = true) :
    wordBad g mezz bundle before pos w = some (0x010 + majorOf w, 0) := by
  simp [wordBad, hn, h, hm, hb]

theorem wordBad_misused {i : Instr} (h : decodeGroup w = .ok i) (hm : mezz = false ∨ mezzBarred w = false) {n : Nat}
    (hr : regReason g w = some n) : wordBad g mezz bundle before pos w = some (0x020 + majorOf w, n) := by
  have : (mezz && mezzBarred w) = false := by rcases hm with hm | hm <;> simp [hm]
  simp [wordBad, hn, h, this, hr]

theorem wordBad_packet {i : Instr} (h : decodeGroup w = .ok i) (hm : mezz = false ∨ mezzBarred w = false) (hr : regReason g w = none) :
    wordBad g mezz bundle before pos w = (packetReason bundle before pos w).map (fun r => (0x030 + majorOf w, r)) := by
  have : (mezz && mezzBarred w) = false := by rcases hm with hm | hm <;> simp [hm]
  simp [wordBad, hn, h, this, hr]

end

/-- The first failing word decides for its bundle, and a bundle without one passes (R185). -/
theorem bundleBad_first (g : Grid) (mezz : Bool) (bundle : List Word) (r : List Word) :
    ∀ (p before : List Word) (pos : Nat),
      (∀ i x, p[i]? = some x → wordBad g mezz bundle (before ++ p.take i) (pos + i) x = none) →
      bundleBad g mezz bundle before (p ++ r) pos = bundleBad g mezz bundle (before ++ p) r (pos + p.length) := by
  intro p
  induction p with
  | nil => intro before pos _; simp
  | cons w p ih =>
    intro before pos h
    have hw : wordBad g mezz bundle before pos w = none := by simpa using h 0 w rfl
    have hr := ih (before ++ [w]) (pos + 1) (fun i x hx => by
      have := h (i + 1) x (by simpa using hx)
      simpa [Nat.add_assoc, Nat.add_comm 1 i] using this)
    simp only [List.cons_append, bundleBad, hw]
    rw [hr]
    simp [Nat.add_assoc, Nat.add_comm 1]

end Sys2Proof.Machine
end

section
/-! The events of the issue stage (R47, R68, R85, R186, R275). -/

namespace Sys2Proof.Machine

/-! ## An entry whose bundle fails a check -/

/-- The groups of failures after one more lane (R56). -/
def addLane (fs : List Fail) (acc : List (Option Nat × List Fail)) (l : Nat) : List (Option Nat × List Fail) :=
  match fs.find? (fun f => f.lane == l) with
  | none => acc
  | some f =>
    if acc.any (fun x => x.1 == f.cause) then acc.map (fun x => if x.1 == f.cause then (x.1, x.2 ++ [f]) else x)
    else acc ++ [(f.cause, [f])]

theorem groupFails_eq (fs : List Fail) : groupFails fs = lanes32.foldl (addLane fs) [] := rfl

/-- The failure that an entry's failures hold for a lane. -/
theorem find_entryFails (m : LaneMask) (f : Fail) {l : Nat} (hl : l < 32) :
    (entryFails m f).find? (fun x => x.lane == l) = if m.getLsbD l then some { f with lane := l } else none := by
  split
  · rename_i hm
    have hsome : ((entryFails m f).find? (fun x => x.lane == l)).isSome = true :=
      List.find?_isSome.2 ⟨_, List.mem_map_of_mem (List.mem_filter.2 ⟨List.mem_range.2 hl, hm⟩), by simp⟩
    obtain ⟨x, hx⟩ := Option.isSome_iff_exists.1 hsome
    obtain ⟨k, -, rfl⟩ := List.mem_map.1 (List.mem_of_find?_eq_some hx)
    have hk : k = l := by simpa using List.find?_some hx
    rw [hx, hk]
  · rename_i hm
    refine List.find?_eq_none.2 fun x hx => ?_
    obtain ⟨k, hk, rfl⟩ := List.mem_map.1 hx
    have := (List.mem_filter.1 hk).2
    simp only [beq_iff_eq]
    rintro rfl
    exact hm this

/-- The groups of an entry's failures after some of its lanes: none before the first, then one. -/
theorem foldl_addLane (m : LaneMask) (f : Fail) (ls : List Nat) (hl : ∀ l ∈ ls, l < 32) :
    ls.foldl (addLane (entryFails m f)) [] =
      if ls.filter (fun l => m.getLsbD l) = [] then []
      else [(f.cause, (ls.filter (fun l => m.getLsbD l)).map (fun l => { f with lane := l }))] := by
  induction ls using List.reverseRecOn with
  | nil => rfl
  | append_singleton ls l ih =>
    rw [List.foldl_append, ih (fun k hk => hl k (List.mem_append_left _ hk))]
    have hlt : l < 32 := hl l (by simp)
    simp only [List.foldl_cons, List.foldl_nil, addLane, find_entryFails m f hlt, List.filter_append, List.filter_cons, List.filter_nil]
    by_cases hm : m.getLsbD l = true
    · simp only [hm, if_true]
      split <;> simp [*]
    · simp [hm]

/-- The failures of all lanes of an entry have one cause, so that they form one group in lane order. -/
theorem groupFails_entryFails (m : LaneMask) (f : Fail) (hm : m ≠ 0) :
    groupFails (entryFails m f) = [(f.cause, entryFails m f)] := by
  have hne : lanesOf m ≠ [] := by
    intro h
    refine hm (BitVec.eq_of_getLsbD_eq fun i hi => ?_)
    have := List.filter_eq_nil_iff.1 h i (List.mem_range.2 hi)
    simpa using this
  rw [groupFails_eq, foldl_addLane m f lanes32 (fun l hl => List.mem_range.1 hl)]
  exact if_neg hne

/-- The lanes of failures of all lanes of a mask. -/
theorem entryFails_lanes (m : LaneMask) (f : Fail) :
    (entryFails m f).foldl (fun m f => m ||| oneLane f.lane) 0 = m := by
  apply BitVec.eq_of_getLsbD_eq
  intro i hi
  rw [Bool.eq_iff_iff, getLsbD_foldl_or (fun f : Fail => oneLane f.lane)]
  have hb : ∀ l, (oneLane l).getLsbD i = true ↔ l = i := by
    intro l
    simp [oneLane, hi]
    omega
  simp only [hb, entryFails, List.mem_map, lanesOf, List.mem_filter, lanes32, List.mem_range]
  constructor
  · rintro (h | ⟨x, ⟨l, ⟨-, hl⟩, rfl⟩, rfl⟩)
    · simp at h
    · exact hl
  · exact fun h => Or.inr ⟨_, ⟨i, ⟨hi, h⟩, rfl⟩, rfl⟩

/-- All lanes of an entry fail for a cause that does not park: one record about them, and they end (R56). -/
theorem raiseFails_entryFails (gk : Nat) (x : ParkContext) (m : LaneMask) (f : Fail) (c : Nat) (s : State) (hm : m ≠ 0)
    (hf : f.cause = some c) (hc : parkable c = false) :
    ∃ k, raiseFails gk x (entryFails m f) s =
      (s.raise (groupRec s gk { f with lane := k } c m x.pc false)).setGroup gk
        (endLanes (s.grid (s.team (s.group gk).tk).grid).hdr m { s.group gk with faulted := (s.group gk).faulted ||| m }) := by
  have hl := entryFails_lanes m f
  have hne : entryFails m f ≠ [] := by
    intro h0
    rw [h0] at hl
    exact hm hl.symm
  obtain ⟨f0, fs, hcons⟩ := List.exists_cons_of_ne_nil hne
  obtain ⟨k, -, hk⟩ := List.mem_map.1 (hcons ▸ List.mem_cons_self : f0 ∈ entryFails m f)
  refine ⟨k, ?_⟩
  rw [raiseFails, groupFails_entryFails m f hm, hf]
  simp only [List.foldl_cons, List.foldl_nil, raiseGroup]
  rw [hl, hcons, ← hk]
  simp [hc]
  rfl

/-- A failing entry leaves its frontier, its failures are raised, and the group settles (R186, R317). -/
theorem failEntry_eq (s : State) (gk idx : Nat) (e : Entry) (fs : List Fail) :
    ∃ (x : ParkContext) (h : Dword) (t : State), x.pc = e.pc ∧
      t = raiseFails gk x fs (s.setGroup gk { s.group gk with frontier := (s.group gk).frontier.eraseIdx idx }) ∧
      s.failEntry gk idx e fs =
        t.setGroup gk (settle h (ownerCheck { t.group gk with frontier := normFrontier (t.group gk).frontier })) :=
  ⟨_, _, _, rfl, rfl, rfl⟩

/-- An entry that fails for a cause that does not park its lanes: one record, and its lanes are gone (R186). -/
theorem failEntry_ends (s : State) (gk idx : Nat) (e : Entry) (c r : Nat) (hm : e.mask ≠ 0) (hc : parkable c = false) :
    ∃ x u, s.failEntry gk idx e (entryFails e.mask { lane := 0, cause := some c, va := 0, kind := 0, s2 := false, sz := r }) = u ∧
      u.recs = s.recs ++ [x] ∧ x.cause = c ∧ x.sz = r ∧ x.lanes = e.mask ∧ x.pc = some e.pc ∧ x.park = false ∧
      (u.group gk).regs = (s.group gk).regs ∧ (∀ b, u.byteAt b = s.byteAt b) ∧
      ∀ l, e.mask.getLsbD l = true → LaneGone u gk l := by
  obtain ⟨x, h, t, hx, ht, hu⟩ := failEntry_eq s gk idx e
    (entryFails e.mask { lane := 0, cause := some c, va := 0, kind := 0, s2 := false, sz := r })
  obtain ⟨k, hk⟩ := raiseFails_entryFails gk x e.mask { lane := 0, cause := some c, va := 0, kind := 0, s2 := false, sz := r } c
    (s.setGroup gk { s.group gk with frontier := (s.group gk).frontier.eraseIdx idx }) hm rfl hc
  rw [hk] at ht
  have hregs : (t.group gk).regs = (s.group gk).regs := by
    rw [ht, State.setGroup_group_same, (endLanes_kept _ _ _).1, State.setGroup_group_same]
  refine ⟨_, _, hu, by rw [ht]; rfl, rfl, rfl, rfl, congrArg some hx, rfl, ?_, fun b => by rw [ht]; rfl, fun l hl => ?_⟩
  · rw [State.setGroup_group_same, (settle_kept _ _).1, ownerCheck_kept, ← hregs]
  · rw [laneGone_iff, State.setGroup_group_same]
    refine gone_settle _ (gone_ownerCheck (gone_normFrontier ?_))
    rw [ht, State.setGroup_group_same]
    exact gone_endLanes _ (Or.inl hl)

/-- A bundle that fails a check is found bad at an entry that could run (R185, R186). -/
theorem verdict_bad (s : State) (gk : Nat) (e : Entry) (ws : List Word) (c r : Nat) (hheld : e.held = false)
    (hbar : e.barWait = false) (hsleep : e.sleep = 0) (hpend : e.pend = none)
    (howner : ∀ f ∈ (s.group gk).frontier, f.owner = false) (hfetch : s.fetchAt (s.fetcher gk e.pc) e.pc = .words ws)
    (hbad : bundleBad (s.grid (s.team (s.group gk).tk).grid) s.mezz.isSome (bundleWords (s.group gk) e ws) []
      (bundleWords (s.group gk) e ws) (e.pc.toNat / 4 % 4) = some (c, r)) :
    s.verdict gk e = .bad (entryFails e.mask { lane := 0, cause := some c, va := 0, kind := 0, s2 := false, sz := r }) := by
  have hno : (s.group gk).frontier.any (·.owner) = false := by simpa using howner
  have hstall : loopStall (s.group gk) e = false := by simp [loopStall, hno]
  simp [State.verdict, hheld, hbar, hsleep, hpend, hstall, hfetch, hno, hbad]

/-! ## Order, promotion and saving -/

/-- Promoted entries come first, the earlier promotion before the later; then the higher priority, then the lower PC (R47). -/
theorem ahead_iff (a b : Entry) : ahead a b = true ↔ match a.promoted, b.promoted with
    | some x, some y => x < y
    | some _, none => True
    | none, some _ => False
    | none, none => b.prio.toNat < a.prio.toNat ∨ a.prio = b.prio ∧ a.pc.toNat < b.pc.toNat := by
  unfold ahead
  cases a.promoted <;> cases b.promoted <;> simp [BitVec.ult]

/-- A quadrant whose bank stays the same is the same. -/
theorem mapBank_quad (s : State) (qk : Nat) (f : Bank → Bank) :
    (s.mapBank qk f).quad qk = { s.quad qk with bank := f (s.quad qk).bank } := by
  simp [State.mapBank]

/-! ## The dispatcher's answer to a launch -/

/-- A bundle of one word that is tried again executes its word on the port as it stood at issue (R265, R275). -/
theorem retry_reopened (s : State) (gk idx : Nat) (e : Entry) (p : Pend) (i : Instr) (x : Option Nat)
    (he : (s.group gk).frontier[idx]? = some e) (hp : e.pend = some p) (hw : p.words = [i]) :
    s.retry gk idx (fun c => { c with answer := x }) = execWord i (s.reopened gk idx e { p with answer := x }) := by
  simp only [State.retry, he, hp, hw, runBundle]
  congr 1
  simp [State.openEntry, reclaimLoops, State.reopened, State.mapCur]

end Sys2Proof.Machine
end

section
/-! What homes and translations change for an agent that is no team's: its place and its service, snoops, cached translations and
what a home keeps of a leaf (R89, R115, R319, R386). -/

namespace Sys2Proof.Machine

/-! ## The service of a sender -/

/-- A machine in which only what homes keep for senders has changed: their services, arrival numbers and snoops. -/
def Sent (s t : State) : Prop :=
  ∃ b h n, t = { s with bisnp := b, held := h, nextTicket := n }

theorem Sent.refl (s : State) : Sent s s := ⟨_, _, _, rfl⟩

theorem Sent.trans {s t u : State} (h : Sent s t) (h' : Sent t u) : Sent s u := by
  obtain ⟨_, _, _, rfl⟩ := h
  obtain ⟨b, h, n, rfl⟩ := h'
  exact ⟨b, h, n, rfl⟩

/-- The frame as the statements write it. -/
theorem Sent.same {s t : State} (h : Sent s t) : { t with bisnp := s.bisnp, held := s.held, nextTicket := s.nextTicket } = s := by
  obtain ⟨_, _, _, rfl⟩ := h
  rfl

theorem sent_setHeld (s : State) (k : Sender) (v : Svc) : Sent s (s.setHeld k v) := by
  unfold State.setHeld
  split <;> exact ⟨_, _, _, rfl⟩

theorem sent_sendSnoop (s : State) (pa : Nat) : Sent s (s.sendSnoop pa) := by
  unfold State.sendSnoop
  split <;> exact ⟨_, _, _, rfl⟩

theorem sent_useSnoop (s : State) (pa : Nat) : Sent s (s.useSnoop pa) := ⟨_, _, _, rfl⟩

section
variable (s : State) {ag : Agent} {k : Sender} (hk : ag.who = .sender k)
include hk

theorem sent_leave : Sent s (s.leave ag.who) := by
  rw [hk]
  unfold State.leave
  dsimp only
  split
  · exact sent_setHeld _ _ _
  · exact Sent.refl s

theorem sent_enqueue (v : Svc) : Sent s (s.enqueue ag.who v) := by
  rw [hk]
  unfold State.enqueue
  split
  · exact sent_setHeld _ _ _
  · exact Sent.trans ⟨_, _, _, rfl⟩ (sent_setHeld _ _ _)

theorem sent_setAside (v : Bool) : Sent s (s.setAside ag.who v) := by
  rw [hk]
  unfold State.setAside
  dsimp only
  split
  · exact Sent.refl s
  · exact sent_setHeld _ _ _

/-- What the homes of some lines come to: nothing has changed, or the sender has its place. -/
theorem places_sent (pas : List Nat) : (match s.places ag pas with | .ok t => t = s | .wait t => Sent s t) := by
  unfold State.places
  dsimp only
  split <;> rename_i h <;> split at h <;> cases h
  · rfl
  · exact sent_enqueue s hk _

theorem atHome_sent (pas : List Nat) : (match s.atHome ag pas with | .ok t => Sent s t | .wait t => Sent s t) := by
  have h := places_sent s hk pas
  unfold State.atHome
  cases hp : s.places ag pas with
  | ok t =>
    rw [hp] at h
    subst h
    exact sent_leave _ hk
  | wait t => rw [hp] at h; exact h

theorem writeAtHome_sent (pas : List Nat) (pa n : Nat) :
    (match s.writeAtHome ag pas pa n with | .ok t => Sent s t | .wait t => Sent s t) := by
  have h := places_sent s hk pas
  unfold State.writeAtHome State.writePlaces
  cases hp : s.places ag pas with
  | wait t => rw [hp] at h; exact h
  | ok t =>
    rw [hp] at h
    subst h
    cases hb : t.writeBlocked pa n false with
    | true => simpa [hb] using (sent_setAside t hk _).trans (sent_sendSnoop _ _)
    | false => simpa [hb] using (sent_useSnoop t pa).trans (sent_leave _ hk)

end

/-! ## A translation -/

/-- A machine in which, beside that, only cached translations and the homes' notes of leaves have changed. -/
def Visited (s t : State) : Prop :=
  ∃ b h n l1 l2 fr, t = { s with bisnp := b, held := h, nextTicket := n, tlb1 := l1, tlb2 := l2, frames := fr } ∧
    ∀ f, (t.frame f).aside = (s.frame f).aside

theorem Sent.visited {s t : State} (h : Sent s t) : Visited s t := by
  obtain ⟨_, _, _, rfl⟩ := h
  exact ⟨_, _, _, _, _, _, rfl, fun _ => rfl⟩

theorem Visited.refl (s : State) : Visited s s := (Sent.refl s).visited

theorem Visited.trans {s t u : State} (h : Visited s t) (h' : Visited t u) : Visited s u := by
  obtain ⟨_, _, _, _, _, _, rfl, hf⟩ := h
  obtain ⟨_, _, _, _, _, _, rfl, hf'⟩ := h'
  exact ⟨_, _, _, _, _, _, rfl, fun f => (hf' f).trans (hf f)⟩

/-- A machine in which only cached translations and the homes' notes of leaves have changed. -/
def Leafed (s t : State) : Prop :=
  ∃ l1 l2 fr, t = { s with tlb1 := l1, tlb2 := l2, frames := fr } ∧ ∀ f, (t.frame f).aside = (s.frame f).aside

theorem Leafed.refl (s : State) : Leafed s s := ⟨_, _, _, rfl, fun _ => rfl⟩

theorem Leafed.trans {s t u : State} (h : Leafed s t) (h' : Leafed t u) : Leafed s u := by
  obtain ⟨_, _, _, rfl, hf⟩ := h
  obtain ⟨_, _, _, rfl, hf'⟩ := h'
  exact ⟨_, _, _, rfl, fun f => (hf' f).trans (hf f)⟩

theorem Leafed.visited {s t : State} (h : Leafed s t) : Visited s t := by
  obtain ⟨_, _, _, rfl, hf⟩ := h
  exact ⟨_, _, _, _, _, _, rfl, hf⟩

theorem leafed_noteLeaf (s : State) (x : Xlat) : Leafed s (s.noteLeaf x) := by
  unfold State.noteLeaf
  dsimp only
  split
  · exact Leafed.refl s
  · refine ⟨_, _, _, rfl, fun f => ?_⟩
    by_cases hf : f = x.pa / 65536
    · rw [hf, State.setFrame_frame_same]
      rfl
    · rw [State.setFrame_frame_ne _ _ _ hf]

theorem leafed_cacheLeaves (s : State) (fn : Nat) (pasid : BitVec 20) (va : Dword) : Leafed s (s.cacheLeaves fn pasid va) := by
  unfold State.cacheLeaves
  dsimp only
  split
  · exact Leafed.refl s
  · split
    · exact ⟨_, _, _, rfl, fun _ => rfl⟩
    · split <;> exact ⟨_, _, _, rfl, fun _ => rfl⟩

theorem leafed_fillTlb (s : State) (fn : Nat) (pasid : BitVec 20) (va : Dword) : Leafed s (s.fillTlb fn pasid va) := by
  unfold State.fillTlb
  split
  · exact Leafed.refl s
  · exact (leafed_cacheLeaves _ _ _ _).trans (leafed_noteLeaf _ _)

/-! ## The dispatcher's reads -/

section
variable (s : State) {ag : Agent} {k : Sender} (hk : ag.who = .sender k)
include hk

theorem readPlaces_visited (va : Dword) (x : Xlat) (n : Nat) : Visited s (s.readPlaces ag va x n).2 := by
  have h := places_sent s hk (s.withNodes ag [va] [x.pa])
  unfold State.readPlaces
  cases hp : s.places ag (s.withNodes ag [va] [x.pa]) with
  | wait t => rw [hp] at h; exact h.visited
  | ok t =>
    rw [hp] at h
    subst h
    exact (leafed_fillTlb _ _ _ _).visited

theorem dispRead_visited (va : Dword) (n kind : Nat) : Visited s (s.dispRead ag va n kind).2 := by
  unfold State.dispRead
  split
  · exact Visited.refl s
  · split
    · exact Visited.refl s
    · exact readPlaces_visited s hk _ _ _

theorem headerRead_visited (va : Dword) : Visited s (s.headerRead ag va).2 := by
  unfold State.headerRead
  split
  · exact Visited.refl s
  · rename_i x _
    have h := readPlaces_visited s hk va x 64
    dsimp only
    split
    · exact Visited.refl s
    · split
      · exact Visited.refl s
      · split <;> exact h

theorem acceptHeader_visited (va : Dword) (b : Nat) : Visited s (s.acceptHeader ag va b).2 := by
  unfold State.acceptHeader
  split
  · exact Visited.refl s
  · exact headerRead_visited s hk _

theorem acceptBlock_visited (va : Dword) : Visited s (s.acceptBlock ag va).2 := by
  have h1 := dispRead_visited s hk va 64 6
  have h2 := dispRead_visited (s.dispRead ag va 64 6).2 hk (va + 64) 64 6
  unfold State.acceptBlock
  split
  · exact Visited.refl s
  · dsimp only
    split
    · exact h1
    · exact h1
    · split
      · exact h1.trans h2
      · exact h1.trans h2
      · exact (h1.trans h2).trans (acceptHeader_visited _ hk _ _)

/-- The dispatcher's reads of a launch block change no more than that (R33, R275). -/
theorem accept_visited (va : Dword) : Visited s (s.accept ag va).2 := by
  have h := acceptBlock_visited s hk va
  unfold State.accept
  dsimp only
  split
  · exact h
  · exact h.trans (sent_leave _ hk).visited

end

end Sys2Proof.Machine
end

section
/-! The statement on the issue stage (O44). -/

namespace Sys2Proof.Machine

/-! ## The events -/

/-- A decision raised on an engine changes engines alone. -/
theorem raiseOn_engines (s : State) (k : Nat) (r : Raised) : ∃ e, s.raiseOn k r = { s with engines := e } := by
  unfold State.raiseOn
  dsimp only
  split <;> exact ⟨_, rfl⟩

theorem raiseOn_groups (s : State) (k : Nat) (r : Raised) : (s.raiseOn k r).groups = s.groups := by
  obtain ⟨e, he⟩ := raiseOn_engines s k r
  rw [he]

theorem addGrid_groups (s : State) (g : Grid) : (s.addGrid g).2.groups = s.groups := by
  unfold State.addGrid
  dsimp only
  rw [raiseOn_groups]
  rfl

/-- A bundle that a bad verdict takes up fails as its entry does (R186). -/
theorem perform_bad (s : State) (qk gk idx : Nat) (e : Entry) (c r : Nat) (hm : e.mask ≠ 0) (hc : c < 0x040) :
    ∃ u x, s.perform qk (.bad gk idx e (entryFails e.mask { lane := 0, cause := some c, va := 0, kind := 0, s2 := false, sz := r })) = .next u ∧
      u.recs = s.recs ++ [x] ∧ x.cause = c ∧ x.sz = r ∧ x.lanes = e.mask ∧ x.pc = some e.pc ∧ x.park = false ∧
      (u.group gk).regs = (s.group gk).regs ∧ (∀ b, u.byteAt b = s.byteAt b) ∧
      ∀ l, e.mask.getLsbD l = true → LaneGone u gk l := by
  have hp : parkable c = false := by
    simp [parkable]
    omega
  obtain ⟨x, u, hu, h⟩ := failEntry_ends s gk idx e c r hm hp
  subst hu
  exact ⟨_, x, rfl, h⟩

theorem fairnessPromotion_entry (gk idx : Nat) (e : Entry) (s : State) (he : (s.group gk).frontier[idx]? = some e) :
    ∃ u, exec (.fairnessPromotion gk idx) s = .next u ∧ u.elsewhere = s.elsewhere ∧ (u.group gk).regs = (s.group gk).regs ∧
      (u.group gk).frontier[idx]? = some (if 2048 ≤ e.count ∧ e.promoted = none then
        { e with promoted := some (s.quad (gk / 16)).cycle } else e) ∧
      ∀ j, j ≠ idx → (u.group gk).frontier[j]? = (s.group gk).frontier[j]? := by
  refine ⟨_, rfl, rfl, ?_, ?_, fun j hj => ?_⟩
  · rw [State.setGroup_group_same]
  · rw [State.setGroup_group_same, List.getElem?_modify, he]
    simp [promote, quadOf]
  · rw [State.setGroup_group_same, List.getElem?_modify]
    simp [Ne.symm hj]

theorem savingEntry_held (core quad : Nat) (s : State) (h : (s.quad (core * 4 + quad)).hold ≠ none) :
    exec (.savingEntry core quad) s = .next s := by
  have : (s.quad (core * 4 + quad)).hold.isSome = true := Option.isSome_iff_ne_none.2 h
  show execSavingEntry core quad s = _
  simp [execSavingEntry, this]

theorem savingEntry_free (core quad : Nat) (s : State) (h : (s.quad (core * 4 + quad)).hold = none) :
    exec (.savingEntry core quad) s = .next (s.mapBank (core * 4 + quad) (s.enterSaving (s.readyViews (core * 4 + quad)))) := by
  show execSavingEntry core quad s = _
  simp [execSavingEntry, h]

theorem enterSaving_below (s : State) (vs : List View) (b : Bank) (h : b.starve ≠ 256) : s.enterSaving vs b = b := by
  unfold State.enterSaving
  split <;> simp [h]

theorem enterSaving_full (s : State) (gk i : Nat) (e : Entry) (vd : Verdict) (rest : List Candidate) (vs : List View) (b : Bank)
    (hb : b.starve = 256) (hn : b.saving = none) :
    s.enterSaving ((gk, (i, e, vd) :: rest) :: vs) b = { b with
      savepi := b.savepi + 1
      saving := some { price := (match vd with | .ok bd => bd.price | _ => 0), unit := gk, admission := (s.group gk).admission,
                       pc := e.pc, mask := e.mask } } := by
  simp only [State.enterSaving, hb, hn]
  rfl

/-- Of the state only quadrants change when the bank of one does. -/
theorem mapBank_rest (s : State) (qk : Nat) (f : Bank → Bank) : { s.mapBank qk f with quads := s.quads } = s := rfl

theorem sequencerSavingEntry_bank (core : Nat) (k : Task) (s : State)
    (hk : (s.tile core).table.find? (s.tile core).candidate = some k) :
    ∃ u, exec (.sequencerSavingEntry core) s = .next u ∧ { u with seqBanks := s.seqBanks } = s ∧
      nget Bank.reset u.seqBanks core =
        (if (nget Bank.reset s.seqBanks core).starve = 256 ∧ (nget Bank.reset s.seqBanks core).saving = none then
          { nget Bank.reset s.seqBanks core with
            saving := some { price := taskPrice k.word, unit := k.num, admission := 0, pc := k.pc, mask := 0 } }
        else nget Bank.reset s.seqBanks core) := by
  refine ⟨_, rfl, rfl, ?_⟩
  show nget Bank.reset (nput s.seqBanks core _) core = _
  rw [nget_nput_same, hk]
  simp [savingSeq, State.seqBank]

section
variable (gk idx : Nat) (e : Entry) (p : Pend) (a : BitVec 6) (s : State)
  (he : (s.group gk).frontier[idx]? = some e) (hp : e.pend = some p) (hkind : p.kind = .launch) (hw : p.words = [.launch 0 a])
include he hp hkind hw

/-- The event asks the dispatcher and does what it answers (R275). -/
theorem launchDecided_eq : exec (.launchDecided gk idx) s =
    if 255 ≤ s.childCount (s.team (s.group gk).tk).grid (s.team (s.group gk).tk).id then .next s
    else
      let t := s.team (s.group gk).tk
      let g := s.grid t.grid
      let x := s.accept (ioAgent g.fn g.pasid g.tenant g.queue (.launch gk e.pc.toNat)) (nget 0 p.src.s a.toNat)
      match x.1 with
      | .wait => .next x.2
      | .refused c _ => execWord (.launch 0 a) (x.2.reopened gk idx e { p with answer := some c })
      | .ok child => execWord (.launch 0 a) ((x.2.addGrid { child with
          depth := g.depth + 1, queue := g.queue, tenant := g.tenant, fn := g.fn, pasid := g.pasid,
          parent := some (t.grid, t.id) }).2.reopened gk idx e { p with answer := some 0 }) := by
  have hv : launchVa p = some (nget 0 p.src.s a.toNat) := by simp [launchVa, hw]
  have hg : ∀ g : Grid, (s.accept (ioAgent g.fn g.pasid g.tenant g.queue (.launch gk e.pc.toNat)) (nget 0 p.src.s a.toNat)).2.groups =
      s.groups := by
    intro g
    obtain ⟨_, _, _, _, _, _, h, -⟩ := accept_visited s (ag := ioAgent g.fn g.pasid g.tenant g.queue (.launch gk e.pc.toNat)) rfl
      (nget 0 p.src.s a.toNat)
    rw [h]
  show execLaunchDecided gk idx s = _
  unfold execLaunchDecided
  rw [he]
  dsimp only
  rw [hp]
  dsimp only
  by_cases h : 255 ≤ s.childCount (s.team (s.group gk).tk).grid (s.team (s.group gk).tk).id
  · rw [if_pos h, if_pos (Or.inr h)]
  · rw [if_neg h, if_neg (by simp [hkind, h]), hv]
    dsimp only
    generalize hx : s.accept _ _ = x
    have hxg : x.2.groups = s.groups := hx ▸ hg _
    obtain ⟨y, t⟩ := x
    cases y with
    | wait => rfl
    | refused c v => exact retry_reopened t gk idx e p _ _ (by rw [State.group, hxg]; exact he) hp hw
    | ok child => exact retry_reopened _ gk idx e p _ _ (by rw [State.group, addGrid_groups, hxg]; exact he) hp hw

end

/-- A `launch` that has its answer always answers a next state. -/
theorem launch_next (a : BitVec 6) (s : State) : ∃ u, exec (.launch 0 a) s = .next u := by
  show ∃ u, execLaunch 0 a s = .next u
  unfold execLaunch
  split
  · exact ⟨_, rfl⟩
  · split
    · exact ⟨_, rfl⟩
    · split <;> exact ⟨_, rfl⟩

/-! ## The statement -/

/-- The checks of a word, from the first to the last (R185-R187, R65, R176). -/
theorem wordBad_verdict (g : Grid) (mezz : Bool) (bundle before : List Word) (pos : Nat) (w : Word) :
    let bad := wordBad g mezz bundle before pos w
    let m := majorOf w
    let passes : Prop := (∀ u ∈ regUses w, ∀ n, ¬misused g u n) ∧ ¬badPair g w
    let packet : Prop := (∀ n, packetRule bundle before pos w n → (∀ k, k < n → ¬packetRule bundle before pos w k) →
        bad = some (0x030 + m, n)) ∧ ((∀ n, ¬packetRule bundle before pos w n) → bad = none)
    (isNop w = true → packet) ∧
    (isNop w = false →
      (∀ e, decodeGroup w = .error e →
        bad = some (match e with | .wrongStream => 0x008 | .unassigned k => k | .reservedField k => 0x010 + k, 0)) ∧
      (∀ i, decodeGroup w = .ok i →
        (mezz = true → mezzBarred w = true → bad = some (0x010 + m, 0)) ∧
        (mezz = false ∨ mezzBarred w = false →
          (∀ p u r n, regUses w = p ++ u :: r → (∀ x ∈ p, ∀ k, ¬misused g x k) → (p ≠ [] → ¬badPair g w) → misused g u n →
            bad = some (0x020 + m, n)) ∧
          (∀ u r, regUses w = u :: r → (∀ k, ¬misused g u k) → badPair g w → bad = some (0x020 + m, 5)) ∧
          (passes → packet)))) := by
  refine ⟨fun hn => packet_verdict (wordBad_nop g mezz bundle before pos hn), fun hn => ⟨fun e he => ?_, fun i hi => ?_⟩⟩
  · rw [wordBad_error g mezz bundle before pos hn he]
    cases e <;> rfl
  · refine ⟨wordBad_barred g mezz bundle before pos hn hi, fun hm => ⟨fun p u r n hw hp hpair hu => ?_, fun u r hw hu hpair => ?_, ?_⟩⟩
    · exact wordBad_misused g mezz bundle before pos hn hi hm (regReason_first g w p r u n hw hp hpair hu)
    · exact wordBad_misused g mezz bundle before pos hn hi hm (regReason_pair g w u r hw hu hpair)
    · rintro ⟨hu, hpair⟩
      exact packet_verdict (wordBad_packet g mezz bundle before pos hn hi hm (regReason_none g w hu hpair))

/-- Settles O44: the checks of a word give its verdict, and each event of the issue stage is its operation on the entry, the bank
or the port. -/
theorem issueStage : Obligations.IssueStage := by
  unfold Obligations.IssueStage
  refine ⟨wordBad_verdict, ?_, ?_, ahead_iff, fairnessPromotion_entry, ?_, sequencerSavingEntry_bank, ?_⟩
  · intro g mezz bundle before p r w pos b h
    refine ⟨fun hw => ?_, ?_⟩
    · rw [bundleBad_first g mezz bundle (w :: r) p before pos h]
      simp [bundleBad, hw]
    · have := bundleBad_first g mezz bundle [] p before pos h
      rw [List.append_nil] at this
      rw [this]; rfl
  · intro gk qk idx e ws c r s _ hm hheld hbar hsleep hpend howner hfetch hc words hbad
    have hv := verdict_bad s gk e ws c r hheld hbar hsleep hpend howner hfetch hbad
    exact ⟨_, hv, by rw [hv]; rfl, perform_bad s qk gk idx e c r hm hc⟩
  · intro core quad s qk b
    refine ⟨savingEntry_held core quad s, fun hh => ⟨fun gk i e vd rest vs hv hb hn => ?_, fun hb => ?_⟩⟩
    · refine ⟨_, savingEntry_free core quad s hh, mapBank_rest _ _ _, ?_⟩
      rw [mapBank_quad, hv, enterSaving_full s gk i e vd rest vs _ hb hn]
      exact ⟨rfl, rfl, rfl⟩
    · refine ⟨_, savingEntry_free core quad s hh, ?_, mapBank_rest _ _ _⟩
      rw [mapBank_quad, enterSaving_below _ _ _ hb]
  · intro gk idx e p a s he hp hkind hw t g asked
    have heq := launchDecided_eq gk idx e p a s he hp hkind hw
    refine ⟨fun h => by rw [heq, if_pos h], fun h => ?_⟩
    rw [if_neg (Nat.not_le.2 h)] at heq
    refine ⟨fun hx => ?_, fun c v hx => ?_, fun child hx => ?_⟩
    · rw [heq]
      dsimp only
      rw [hx]
    · obtain ⟨u, hu⟩ := launch_next a (asked.2.reopened gk idx e { p with answer := some c })
      refine ⟨u, ?_, hu⟩
      rw [heq]
      dsimp only
      rw [hx]
      exact hu
    · obtain ⟨u, hu⟩ := launch_next a ((asked.2.addGrid { child with
        depth := g.depth + 1, queue := g.queue, tenant := g.tenant, fn := g.fn, pasid := g.pasid,
        parent := some (t.grid, t.id) }).2.reopened gk idx e { p with answer := some 0 })
      refine ⟨u, _, ?_, rfl, hu⟩
      rw [heq]
      dsimp only
      rw [hx]
      exact hu

end Sys2Proof.Machine
end

section
/-! Bytes of memory as an agent reads them at their home, and what a write changes of them (R99, R117, R119). -/

namespace Sys2Proof.Machine

/-! ## Parts of a number in memory -/

/-- Some bytes of a range are a part of its number. -/
theorem mreadN_part (m : List Host.Cell) (a i k n : Nat) (h : i + k ≤ n) : mreadN m (a + i) k = mreadN m a n / 256 ^ i % 256 ^ k := by
  induction i generalizing a n with
  | zero =>
    induction k generalizing a n with
    | zero => simp [mreadN, Nat.mod_one]
    | succ k ih =>
      obtain ⟨n, rfl⟩ : ∃ j, n = j + 1 := ⟨n - 1, by omega⟩
      have := ih (a + 1) n (by omega)
      simp only [Nat.add_zero, pow_zero, Nat.div_one] at this ⊢
      have hb : (mread m a).toNat < 256 := (mread m a).isLt
      rw [mreadN, mreadN, this, pow_succ]
      rw [Nat.mul_comm (256 ^ k) 256, Nat.mod_mul, show ((mread m a).toNat + 256 * mreadN m (a + 1) n) / 256 = mreadN m (a + 1) n by omega]
      omega
  | succ i ih =>
    obtain ⟨n, rfl⟩ : ∃ j, n = j + 1 := ⟨n - 1, by omega⟩
    have hb : (mread m a).toNat < 256 := (mread m a).isLt
    rw [show a + (i + 1) = a + 1 + i by omega, ih (a + 1) n (by omega), mreadN, pow_succ, Nat.mul_comm (256 ^ i) 256, ← Nat.div_div_eq_div_mul]
    congr 2
    omega

/-! ## Reads at a home -/

/-- `n` bytes from an address lie in one frame. -/
def InFrame (pa n : Nat) : Prop := pa % 65536 + n ≤ 65536

theorem isHost_add {pa i : Nat} (h : pa % 65536 + i < 65536) : isHost (pa + i) = isHost pa := by
  simp only [isHost]
  congr 1
  rw [eq_iff_iff]
  omega

theorem pread_part (s : State) {pa i k n : Nat} (h : i + k ≤ n) (hk : 0 < k) (hf : InFrame pa n) :
    s.pread (pa + i) k = s.pread pa n / 256 ^ i % 256 ^ k := by
  unfold InFrame at hf
  have hd : (pa + i) / 65536 = pa / 65536 := by omega
  unfold State.pread
  rw [isHost_add (by omega), hd]
  split
  · rename_i hh
    have : 2 ^ 51 ≤ pa := by simpa [isHost] using hh
    rw [show pa + i - 2 ^ 51 = pa - 2 ^ 51 + i by omega, mreadN_part _ _ _ _ _ h]
  · split
    · simp
    · exact mreadN_part _ _ _ _ _ h

/-- What is read in one frame depends on its bytes alone. -/
theorem pread_congr {s t : State} {pa n : Nat} (hf : InFrame pa n) (h : ∀ b, pa ≤ b → b < pa + n → t.byteAt b = s.byteAt b) :
    t.pread pa n = s.pread pa n := by
  induction n generalizing pa with
  | zero => simp [State.pread, mreadN]
  | succ n ih =>
    have hsplit : ∀ u : State, u.pread pa (n + 1) = u.byteAt pa + 256 * u.pread (pa + 1) n := by
      intro u
      have h0 : pa + 0 = pa := rfl
      have hb := pread_part u (pa := pa) (i := 0) (k := 1) (n := n + 1) (by omega) (by omega) hf
      rw [h0] at hb
      rcases Nat.eq_zero_or_pos n with rfl | hn
      · simp [State.byteAt, State.pread, mreadN]
      · have hr := pread_part u (pa := pa) (i := 1) (k := n) (n := n + 1) (by omega) hn hf
        have hlt : u.pread pa (n + 1) < 256 ^ (n + 1) := by
          unfold State.pread
          split
          · exact mreadN_lt _ _ _
          · split
            · positivity
            · exact mreadN_lt _ _ _
        rw [State.byteAt, hb, hr, pow_zero, Nat.div_one, pow_one, Nat.mod_eq_of_lt (a := u.pread pa (n + 1) / 256)]
        · omega
        · rw [Nat.div_lt_iff_lt_mul (by omega), ← pow_succ]; exact hlt
    rw [hsplit t, hsplit s, h pa (le_refl _) (by omega), ih (by unfold InFrame at *; omega) (fun b h1 h2 => h b (by omega) (by omega))]

/-! ## The write at a home -/

/-- A machine in which only what a write at a home may change has changed. -/
def HomeWritten (s t : State) : Prop := ∃ m hm tg fr gr ha en,
  t = { s with mem := m, hostMem := hm, tags := tg, frames := fr, groups := gr, harts := ha, engines := en }

theorem HomeWritten.refl (s : State) : HomeWritten s s := ⟨_, _, _, _, _, _, _, rfl⟩

theorem HomeWritten.trans {s t u : State} (h : HomeWritten s t) (h' : HomeWritten t u) : HomeWritten s u := by
  obtain ⟨_, _, _, _, _, _, _, rfl⟩ := h
  obtain ⟨_, _, _, _, _, _, _, rfl⟩ := h'
  exact ⟨_, _, _, _, _, _, _, rfl⟩

/-- Raised decisions of dormant teams change engines alone. -/
theorem wakeRaise_engines (s : State) (l : Nat) : ∃ e, s.wakeRaise l = { s with engines := e } := by
  unfold State.wakeRaise
  refine List.foldlRecOn (motive := fun t : State => ∃ e, t = { s with engines := e }) _ _ ⟨_, rfl⟩ ?_
  rintro _ ⟨e, rfl⟩ x -
  dsimp only
  split
  · obtain ⟨e', he⟩ := raiseOn_engines { s with engines := e } x.2.cluster { Raised.reset with
      point := .wake, tenant := (({ s with engines := e } : State).grid x.2.team.grid).tenant, cluster := x.2.cluster,
      grid := x.2.team.grid, team := x.2.team.id }
    exact ⟨e', he⟩
  · exact ⟨e, rfl⟩

/-- A frame replaced by one of the same discard state. -/
theorem setFrame_disc {s : State} {k : Nat} {x : Frame} (h : x.disc = (s.frame k).disc) (f : Nat) :
    ((s.setFrame k x).frame f).disc = (s.frame f).disc := by
  by_cases hf : f = k
  · rw [hf, State.setFrame_frame_same, h]
  · rw [State.setFrame_frame_ne _ _ _ hf]

/-- The accesses that a home counts change the frame's counts and engines alone. -/
theorem countRaise_frames (s : State) (pa : Nat) (w : Writer) : ∃ fr en,
    (s.countLine pa w.die).migrateRaise w (pa / 65536) = { s with frames := fr, engines := en } ∧
      ∀ f, (nget Frame.reset fr f).disc = (s.frame f).disc := by
  have hc : ∀ f, ((s.countLine pa w.die).frame f).disc = (s.frame f).disc := by
    intro f
    unfold State.countLine
    exact setFrame_disc (by rfl) f
  unfold State.migrateRaise
  dsimp only
  split
  · obtain ⟨e, he⟩ := raiseOn_engines ((s.countLine pa w.die).setFrame (pa / 65536)
      { (s.countLine pa w.die).frame (pa / 65536) with migAt := some (s.countLine pa w.die).time }) (clusterOf w.core)
      { Raised.reset with point := .migrate, tenant := w.tenant, cluster := clusterOf w.core, frame := pa / 65536 }
    exact ⟨_, _, he, fun f => Eq.trans (setFrame_disc (s := s.countLine pa w.die) (by rfl) f) (hc f)⟩
  · exact ⟨_, _, rfl, hc⟩

/-- A byte of device memory, given the memory and the frames. -/
def deviceByte (m : List Host.Cell) (fr : NMap Frame) (b : Nat) : Byte :=
  if (nget Frame.reset fr (b / 65536)).disc then 0 else mread m b

theorem byteAt_eq (s : State) (b : Nat) :
    s.byteAt b = (if isHost b then mread s.hostMem (b - 2 ^ 51) else deviceByte s.mem s.frames b).toNat := by
  unfold State.byteAt State.pread deviceByte State.frame
  split
  · simp [mreadN]
  · split <;> simp [mreadN]

/-- The first write to a discarded frame takes its bytes as they read (R117). -/
theorem undiscard_bytes (s : State) (pa : Nat) : ∃ m tg fr, s.undiscard pa = { s with mem := m, tags := tg, frames := fr } ∧
    (nget Frame.reset fr (pa / 65536)).disc = false ∧ ∀ b, deviceByte m fr b = deviceByte s.mem s.frames b := by
  unfold State.undiscard
  dsimp only
  split
  · rename_i hd
    refine ⟨_, _, _, rfl, ?_, fun b => ?_⟩
    · exact congrArg Frame.disc (nget_nput_same _ _ _ _)
    · unfold deviceByte
      rw [mread_mclear]
      show (if (nget Frame.reset (nput s.frames _ _) _).disc then _ else _) = _
      by_cases hb : b / 65536 = pa / 65536
      · have hd' : (nget Frame.reset s.frames (pa / 65536)).disc = true := hd
        rw [hb, nget_nput_same, hd', if_pos rfl, if_neg Bool.false_ne_true, if_pos (by omega)]
      · rw [nget_nput_ne _ _ _ hb, if_neg (show ¬(pa / 65536 * 65536 ≤ b ∧ b < pa / 65536 * 65536 + 65536) by omega)]
  · rename_i hd
    exact ⟨_, _, _, rfl, by simpa [State.frame] using hd, fun _ => rfl⟩

/-- A write to device memory (R99, R117). -/
theorem pwrite_device (s : State) (pa n x : Nat) (tagged : Bool) (who : Option Writer) (h : isHost pa = false) : ∃ m tg fr gr ha en,
    s.pwrite pa n x tagged who =
      { s with mem := mwriteN m pa n x, tags := tg, frames := fr, groups := gr, harts := ha, engines := en } ∧
    (nget Frame.reset fr (pa / 65536)).disc = false ∧ ∀ b, deviceByte m fr b = deviceByte s.mem s.frames b := by
  obtain ⟨m, tg, fr, hu, hd, hb⟩ := undiscard_bytes s pa
  unfold State.pwrite
  rw [if_neg (by simp [h]), hu]
  dsimp only
  cases who with
  | none =>
    obtain ⟨en, he⟩ := wakeRaise_engines (State.dropResv { s with
      mem := mwriteN m pa n x, frames := fr,
      tags := nput tg (pa / 64) (setCS (if tagged then nget 0 tg (pa / 64) ||| (wordsTouched pa n).setWidth 16
        else nget 0 tg (pa / 64) &&& ~~~(wordsTouched pa n).setWidth 16) 0) } false (pa / 64)) (pa / 64)
    exact ⟨_, _, _, _, _, _, he, hd, hb⟩
  | some w =>
    obtain ⟨fr', en', hc, hdisc⟩ := countRaise_frames { s with
      mem := mwriteN m pa n x, frames := fr,
      tags := nput tg (pa / 64) (setCS (if tagged then nget 0 tg (pa / 64) ||| (wordsTouched pa n).setWidth 16
        else nget 0 tg (pa / 64) &&& ~~~(wordsTouched pa n).setWidth 16) 0) } pa w
    dsimp only
    rw [hc]
    obtain ⟨en, he⟩ := wakeRaise_engines (State.dropResv { s with
      mem := mwriteN m pa n x, frames := fr', engines := en',
      tags := nput tg (pa / 64) (setCS (if tagged then nget 0 tg (pa / 64) ||| (wordsTouched pa n).setWidth 16
        else nget 0 tg (pa / 64) &&& ~~~(wordsTouched pa n).setWidth 16) 0) } false (pa / 64)) (pa / 64)
    refine ⟨_, _, _, _, _, _, he, (hdisc _).trans hd, fun b => ?_⟩
    rw [← hb b]
    show (if (nget Frame.reset fr' (b / 65536)).disc then 0 else mread m b) = _
    rw [hdisc]
    rfl

/-- What a write at a home changes. -/
theorem pwrite_written (s : State) (pa n x : Nat) (tagged : Bool) (who : Option Writer) : HomeWritten s (s.pwrite pa n x tagged who) := by
  cases h : isHost pa with
  | true => rw [State.pwrite, if_pos h]; exact ⟨_, _, _, _, _, _, _, rfl⟩
  | false =>
    obtain ⟨m, tg, fr, gr, ha, en, he, -⟩ := pwrite_device s pa n x tagged who h
    rw [he]
    exact ⟨_, _, _, _, _, _, _, rfl⟩

/-- What has been written is read (R99). -/
theorem pread_pwrite_same (s : State) (pa n x : Nat) (tagged : Bool) (who : Option Writer) :
    (s.pwrite pa n x tagged who).pread pa n = x % 256 ^ n := by
  cases h : isHost pa with
  | true => rw [State.pwrite, if_pos h, State.pread, if_pos h, mreadN_mwriteN]
  | false =>
    obtain ⟨m, tg, fr, gr, ha, en, he, hd, -⟩ := pwrite_device s pa n x tagged who h
    rw [he, State.pread, if_neg (by simp [h]), if_neg (by simp [State.frame, hd]), mreadN_mwriteN]

/-- A write changes no byte that it does not write. -/
theorem byteAt_pwrite_outside (s : State) {pa n b : Nat} (x : Nat) (tagged : Bool) (who : Option Writer) (hb : b < pa ∨ pa + n ≤ b) :
    (s.pwrite pa n x tagged who).byteAt b = s.byteAt b := by
  rw [byteAt_eq, byteAt_eq]
  cases h : isHost pa with
  | true =>
    rw [State.pwrite, if_pos h]
    have hpa : 2 ^ 51 ≤ pa := by simpa [isHost] using h
    congr 1
    split
    · rename_i hh
      have : 2 ^ 51 ≤ b := by simpa [isHost] using hh
      exact mread_mwriteN_outside _ _ _ _ _ (by omega)
    · rfl
  | false =>
    obtain ⟨m, tg, fr, gr, ha, en, he, -, hm⟩ := pwrite_device s pa n x tagged who h
    rw [he]
    congr 1
    split
    · rfl
    · rw [← hm b]
      unfold deviceByte
      rw [mread_mwriteN_outside _ _ _ _ _ hb]

/-- A range of one frame that a write does not touch reads as before. -/
theorem pread_pwrite_outside (s : State) {pa n a k : Nat} (x : Nat) (tagged : Bool) (who : Option Writer) (hf : InFrame a k)
    (h : a + k ≤ pa ∨ pa + n ≤ a) : (s.pwrite pa n x tagged who).pread a k = s.pread a k :=
  pread_congr hf fun _ h1 h2 => byteAt_pwrite_outside s x tagged who (by omega)

end Sys2Proof.Machine
end

section
/-! The update of an arrival object (R288): what its line reads afterwards. -/

namespace Sys2Proof.Machine

/-- Fields of an aligned object lie in one frame. -/
theorem inFrame_object {pa a n : Nat} (h : pa % 16 = 0) (h1 : pa ≤ a) (h2 : a + n ≤ pa + 16) : InFrame a n := by
  unfold InFrame
  omega

/-! ## Flags -/

/-- The flags joined to the third word of an object leave its generation and its status. -/
theorem or_flags_parts (w : Nat) (fl : BitVec 8) :
    (w ||| fl.toNat * 2 ^ 16) % 2 ^ 16 = w % 2 ^ 16 ∧ (w ||| fl.toNat * 2 ^ 16) / 2 ^ 16 % 2 ^ 8 = w / 2 ^ 16 % 2 ^ 8 ||| fl.toNat ∧
      (w ||| fl.toNat * 2 ^ 16) / 2 ^ 24 = w / 2 ^ 24 := by
  have hfl : fl.toNat < 2 ^ 8 := fl.isLt
  refine ⟨?_, ?_, ?_⟩
  · rw [Nat.or_mod_two_pow]; simp
  · rw [Nat.or_div_two_pow, Nat.mul_div_cancel _ (by norm_num), Nat.or_mod_two_pow, Nat.mod_eq_of_lt hfl]
  · have : fl.toNat * 2 ^ 16 / 2 ^ 24 = 0 := Nat.div_eq_of_lt (by omega)
    rw [Nat.or_div_two_pow, this, Nat.or_zero]

/-- What the fields of an object read. -/
structure ObjectReads (s : State) (pa target arrived gen flags status : Nat) : Prop where
  /-- TARGET. -/
  target : s.pread pa 4 = target
  /-- ARRIVED. -/
  arrived : s.pread (pa + 4) 4 = arrived
  /-- GEN. -/
  gen : s.pread (pa + 8) 2 = gen
  /-- FLAGS. -/
  flags : s.pread (pa + 10) 1 = flags
  /-- STATUS. -/
  status : s.pread (pa + 11) 1 = status

/-- The third word of an object is GEN, FLAGS and STATUS. -/
theorem word_parts (s : State) {pa : Nat} (hp : pa % 16 = 0) :
    s.pread (pa + 8) 2 = s.pread (pa + 8) 4 % 2 ^ 16 ∧ s.pread (pa + 10) 1 = s.pread (pa + 8) 4 / 2 ^ 16 % 2 ^ 8 ∧
      s.pread (pa + 11) 1 = s.pread (pa + 8) 4 / 2 ^ 24 % 2 ^ 8 := by
  have hf : InFrame (pa + 8) 4 := inFrame_object hp (by omega) (by omega)
  have h2 := pread_part s (i := 0) (k := 2) (n := 4) (by omega) (by omega) hf
  have h1 := pread_part s (i := 2) (k := 1) (n := 4) (by omega) (by omega) hf
  have h0 := pread_part s (i := 3) (k := 1) (n := 4) (by omega) (by omega) hf
  norm_num [Nat.add_assoc] at h0 h1 h2 ⊢
  exact ⟨h2, h1, h0⟩

section
variable {s : State} {pa t a g f st : Nat} (h : ObjectReads s pa t a g f st) (hp : pa % 16 = 0) (x : Nat) (who : Option Writer)
include h hp

theorem ObjectReads.write_arrived : ObjectReads (s.pwrite (pa + 4) 4 x false who) pa t (x % 2 ^ 32) g f st where
  target := by rw [pread_pwrite_outside s x false who (inFrame_object hp (by omega) (by omega)) (by omega), h.target]
  arrived := by rw [pread_pwrite_same]; norm_num
  gen := by rw [pread_pwrite_outside s x false who (inFrame_object hp (by omega) (by omega)) (by omega), h.gen]
  flags := by rw [pread_pwrite_outside s x false who (inFrame_object hp (by omega) (by omega)) (by omega), h.flags]
  status := by rw [pread_pwrite_outside s x false who (inFrame_object hp (by omega) (by omega)) (by omega), h.status]

theorem ObjectReads.write_gen : ObjectReads (s.pwrite (pa + 8) 2 x false who) pa t a (x % 2 ^ 16) f st where
  target := by rw [pread_pwrite_outside s x false who (inFrame_object hp (by omega) (by omega)) (by omega), h.target]
  arrived := by rw [pread_pwrite_outside s x false who (inFrame_object hp (by omega) (by omega)) (by omega), h.arrived]
  gen := by rw [pread_pwrite_same]; norm_num
  flags := by rw [pread_pwrite_outside s x false who (inFrame_object hp (by omega) (by omega)) (by omega), h.flags]
  status := by rw [pread_pwrite_outside s x false who (inFrame_object hp (by omega) (by omega)) (by omega), h.status]

theorem ObjectReads.write_word : ObjectReads (s.pwrite (pa + 8) 4 x false who) pa t a (x % 2 ^ 16) (x / 2 ^ 16 % 2 ^ 8) (x / 2 ^ 24 % 2 ^ 8) where
  target := by rw [pread_pwrite_outside s x false who (inFrame_object hp (by omega) (by omega)) (by omega), h.target]
  arrived := by rw [pread_pwrite_outside s x false who (inFrame_object hp (by omega) (by omega)) (by omega), h.arrived]
  gen := by rw [(word_parts _ hp).1, pread_pwrite_same]; omega
  flags := by rw [(word_parts _ hp).2.1, pread_pwrite_same]; omega
  status := by rw [(word_parts _ hp).2.2, pread_pwrite_same]; omega

end

/-! ## Arrivals -/

/-- An object after `x` have arrived, as R108 steps it. -/
theorem ObjectReads.arriveAt {s : State} {pa t a g f st : Nat} (h : ObjectReads s pa t a g f st) (hp : pa % 16 = 0) (x : Nat)
    (who : Option Writer) : ObjectReads (s.arriveAt pa x who) pa t (arriveOnce t x (a, g)).1 (arriveOnce t x (a, g)).2 f st := by
  have ht : t < 2 ^ 32 := by
    rw [← h.target, State.pread]
    split
    · exact mreadN_lt _ _ 4
    · split
      · norm_num
      · exact mreadN_lt _ _ 4
  unfold State.arriveAt arriveOnce
  dsimp only
  rw [h.target, h.arrived, h.gen]
  split
  · have h' := (h.write_arrived hp 0 none).write_gen hp ((g + 1) % 65536) who
    simpa using h'
  · have h' := h.write_arrived hp (a + x) who
    rwa [Nat.mod_eq_of_lt (by omega)] at h'

/-- An object after its flags have been joined: the first write of an update. -/
theorem objectFlags_reads (s : State) {pa : Nat} (hp : pa % 16 = 0) (fl : BitVec 8) :
    ObjectReads (if s.pread (pa + 8) 4 ||| fl.toNat * 2 ^ 16 = s.pread (pa + 8) 4 then s
        else s.pwrite (pa + 8) 4 (s.pread (pa + 8) 4 ||| fl.toNat * 2 ^ 16) false none)
      pa (s.pread pa 4) (s.pread (pa + 4) 4) (s.pread (pa + 8) 2) (s.pread (pa + 10) 1 ||| fl.toNat) (s.pread (pa + 11) 1) := by
  obtain ⟨h1, h2, h3⟩ := word_parts s hp
  obtain ⟨f1, f2, f3⟩ := or_flags_parts (s.pread (pa + 8) 4) fl
  have hself : ObjectReads s pa (s.pread pa 4) (s.pread (pa + 4) 4) (s.pread (pa + 8) 2) (s.pread (pa + 10) 1) (s.pread (pa + 11) 1) :=
    ⟨rfl, rfl, rfl, rfl, rfl⟩
  split
  · rename_i he
    rw [he] at f2
    have : s.pread (pa + 10) 1 ||| fl.toNat = s.pread (pa + 10) 1 := by rw [h2, ← f2]
    rw [this]
    exact hself
  · have hw := hself.write_word hp (s.pread (pa + 8) 4 ||| fl.toNat * 2 ^ 16) none
    rwa [f1, f2, f3, ← h1, ← h2, ← h3] at hw

/-- What an object reads after its update without a fault (R288). -/
theorem objectUpdate_reads (s : State) {pa : Nat} (hp : pa % 16 = 0) (d : Nat) (fl : BitVec 8) (who : Option Writer) :
    ObjectReads (s.objectUpdate pa d fl false who) pa (s.pread pa 4)
      (arriveOnce (s.pread pa 4) d (s.pread (pa + 4) 4, s.pread (pa + 8) 2)).1
      (arriveOnce (s.pread pa 4) d (s.pread (pa + 4) 4, s.pread (pa + 8) 2)).2
      (s.pread (pa + 10) 1 ||| fl.toNat) (s.pread (pa + 11) 1) :=
  (objectFlags_reads s hp fl).arriveAt hp d who

/-- What it reads after one that reports a fault (R288, R290). -/
theorem objectUpdate_fault_reads (s : State) {pa : Nat} (hp : pa % 16 = 0) (d : Nat) (fl : BitVec 8) (who : Option Writer) :
    ObjectReads (s.objectUpdate pa d fl true who) pa (s.pread pa 4) ((s.pread (pa + 4) 4 + d) % 2 ^ 32) (s.pread (pa + 8) 2)
      (s.pread (pa + 10) 1 ||| fl.toNat) 0x80 := by
  have h := objectFlags_reads s hp fl
  obtain ⟨h1, h2, -⟩ := word_parts s hp
  obtain ⟨f1, f2, -⟩ := or_flags_parts (s.pread (pa + 8) 4) fl
  have h' := (h.write_arrived hp ((s.pread (pa + 4) 4 + d) % 2 ^ 32) none).write_word hp
    ((s.pread (pa + 8) 4 ||| fl.toNat * 2 ^ 16) % 2 ^ 24 + 0x80 * 2 ^ 24) who
  have e1 : ((s.pread (pa + 8) 4 ||| fl.toNat * 2 ^ 16) % 2 ^ 24 + 0x80 * 2 ^ 24) % 2 ^ 16 = s.pread (pa + 8) 2 := by
    rw [h1, ← f1]; omega
  have e2 : ((s.pread (pa + 8) 4 ||| fl.toNat * 2 ^ 16) % 2 ^ 24 + 0x80 * 2 ^ 24) / 2 ^ 16 % 2 ^ 8 = s.pread (pa + 10) 1 ||| fl.toNat := by
    rw [h2, ← f2]; omega
  have e3 : ((s.pread (pa + 8) 4 ||| fl.toNat * 2 ^ 16) % 2 ^ 24 + 0x80 * 2 ^ 24) / 2 ^ 24 % 2 ^ 8 = 0x80 := by omega
  rw [e1, e2, e3, Nat.mod_mod] at h'
  unfold State.objectUpdate
  dsimp only
  rw [if_pos rfl, h.arrived]
  exact h'

/-! ## What an update leaves alone -/

/-- Only what writes at a home may change has changed, and of memory only the fields of an object that its updates write. -/
def ObjectOnly (s : State) (pa : Nat) (u : State) : Prop :=
  HomeWritten s u ∧ ∀ b, b < pa + 4 ∨ pa + 12 ≤ b → u.byteAt b = s.byteAt b

theorem ObjectOnly.pwrite {s u : State} {pa a n : Nat} (h : ObjectOnly s pa u) (h1 : pa + 4 ≤ a) (h2 : a + n ≤ pa + 12) (x : Nat)
    (who : Option Writer) : ObjectOnly s pa (u.pwrite a n x false who) :=
  ⟨h.1.trans (pwrite_written _ _ _ _ _ _), fun b hb => (byteAt_pwrite_outside u x false who (by omega)).trans (h.2 b hb)⟩

theorem ObjectOnly.arriveAt {s u : State} {pa : Nat} (h : ObjectOnly s pa u) (x : Nat) (who : Option Writer) :
    ObjectOnly s pa (u.arriveAt pa x who) := by
  unfold State.arriveAt
  dsimp only
  split
  · exact (h.pwrite (by omega) (by omega) _ _).pwrite (by omega) (by omega) _ _
  · exact h.pwrite (by omega) (by omega) _ _

theorem objectUpdate_only (s : State) (pa d : Nat) (fl : BitVec 8) (fault : Bool) (who : Option Writer) :
    ObjectOnly s pa (s.objectUpdate pa d fl fault who) := by
  have hs : ObjectOnly s pa s := ⟨HomeWritten.refl s, fun _ _ => rfl⟩
  have h1 : ObjectOnly s pa (if s.pread (pa + 8) 4 ||| fl.toNat * 2 ^ 16 = s.pread (pa + 8) 4 then s
      else s.pwrite (pa + 8) 4 (s.pread (pa + 8) 4 ||| fl.toNat * 2 ^ 16) false none) := by
    split
    · exact hs
    · exact hs.pwrite (by omega) (by omega) _ _
  unfold State.objectUpdate
  dsimp only
  split
  · exact (h1.pwrite (by omega) (by omega) _ _).pwrite (by omega) (by omega) _ _
  · exact h1.arriveAt _ _

end Sys2Proof.Machine
end

section
/-! What the steps of an engine request change before they deliver: the service of its lines at their homes and arbiters, and its reads
of memory (R89, R90, R115, R283, R289). -/

namespace Sys2Proof.Machine

/-! ## The homes and arbiters -/

/-- A machine in which only what homes and arbiters count and keep for a line has changed. -/
def Charged (s t : State) : Prop := ∃ l2 bu ac iv lm fr,
  t = { s with l2 := l2, budgets := bu, acct := ac, interval := iv, l2miss := lm, free := fr }

theorem Charged.refl (s : State) : Charged s s := ⟨_, _, _, _, _, _, rfl⟩

theorem Charged.trans {s t u : State} (h : Charged s t) (h' : Charged t u) : Charged s u := by
  obtain ⟨_, _, _, _, _, _, rfl⟩ := h
  obtain ⟨_, _, _, _, _, _, rfl⟩ := h'
  exact ⟨_, _, _, _, _, _, rfl⟩

theorem charged_chargeLine (ag : Agent) (line cls : Nat) (asks : Bool) (v : Svc) (s : State) :
    Charged s (State.chargeLine ag line cls asks v s).2 := by
  unfold State.chargeLine
  dsimp only
  split <;> exact ⟨_, _, _, _, _, _, rfl⟩

theorem charged_arriveLine (s : State) (ag : Agent) (near : Bool) (tag pa : Nat) (v : Svc) :
    Charged s (s.arriveLine ag near tag pa v).2 := by
  unfold State.arriveLine
  dsimp only
  split
  · exact Charged.refl s
  · split
    · exact ⟨_, _, _, _, _, _, rfl⟩
    · exact Charged.trans ⟨_, _, _, _, _, _, rfl⟩
        (((charged_chargeLine _ _ _ _ _ _).trans (charged_chargeLine _ _ _ _ _ _)).trans (charged_chargeLine _ _ _ _ _ _))

theorem charged_arriveLines (ag : Agent) (near : Bool) (tag : Nat) (pas : List Nat) (v : Svc) (s : State) :
    Charged s (State.arriveLines ag near tag pas v s).2 := by
  induction pas generalizing v s with
  | nil => exact Charged.refl s
  | cons pa r ih =>
    unfold State.arriveLines
    split
    · exact ih _ _
    · exact (charged_arriveLine _ _ _ _ _ _).trans (ih _ _)

theorem charged_payDue (ag : Agent) (t : Option Nat) (ds : List DueLine) (s : State) : Charged s (State.payDue ag t ds s).2 := by
  induction ds generalizing s with
  | nil => exact Charged.refl s
  | cons d r ih =>
    unfold State.payDue
    split
    · exact Charged.trans ⟨_, _, _, _, _, _, rfl⟩ (ih _)
    · exact ih s

/-! ## A request -/

/-- A machine in which a request has been served: its own service, what homes and arbiters count, and what translations leave behind. -/
def Served (n : Nat) (s t : State) : Prop := ∃ l2 bu ac iv lm fr tl1 tl2 fs rq,
  t = { s with l2 := l2, budgets := bu, acct := ac, interval := iv, l2miss := lm, free := fr, tlb1 := tl1, tlb2 := tl2, frames := fs, reqs := rq } ∧
    (∀ f, (t.frame f).aside = (s.frame f).aside) ∧ ndel t.reqs n = ndel s.reqs n

section
variable {n : Nat} {s t u : State}

theorem Served.refl (n : Nat) (s : State) : Served n s s := ⟨_, _, _, _, _, _, _, _, _, _, rfl, fun _ => rfl, rfl⟩

theorem Served.trans (h : Served n s t) (h' : Served n t u) : Served n s u := by
  obtain ⟨_, _, _, _, _, _, _, _, _, _, rfl, hf, hr⟩ := h
  obtain ⟨_, _, _, _, _, _, _, _, _, _, rfl, hf', hr'⟩ := h'
  exact ⟨_, _, _, _, _, _, _, _, _, _, rfl, fun f => (hf' f).trans (hf f), hr'.trans hr⟩

theorem Charged.served (h : Charged s t) : Served n s t := by
  obtain ⟨_, _, _, _, _, _, rfl⟩ := h
  exact ⟨_, _, _, _, _, _, _, _, _, _, rfl, fun _ => rfl, rfl⟩

theorem Leafed.served (h : Leafed s t) : Served n s t := by
  obtain ⟨_, _, _, rfl, hf⟩ := h
  exact ⟨_, _, _, _, _, _, _, _, _, _, rfl, hf, rfl⟩

/-- An entry that is set and then dropped. -/
theorem ndel_nput {α : Type} (m : NMap α) (n : Nat) (x : α) : ndel (nput m n x) n = ndel m n := by
  induction m with
  | nil => simp [nput, ndel]
  | cons a r ih =>
    obtain ⟨k, v⟩ := a
    simp only [nput]
    split
    · simp [ndel]
    · split
      · rename_i h
        simp [ndel, h]
      · rename_i h
        simp only [ndel, List.filter_cons] at ih ⊢
        rw [ih]

theorem served_setReq (n : Nat) (s : State) (q : Req) : Served n s { s with reqs := nput s.reqs n q } :=
  ⟨_, _, _, _, _, _, _, _, _, _, rfl, fun _ => rfl, ndel_nput _ _ _⟩

/-! What it leaves alone. -/

theorem Served.disc (h : Served n s t) (f : Nat) : (t.frame f).disc = (s.frame f).disc := by
  obtain ⟨_, _, _, _, _, _, _, _, _, _, -, hf, -⟩ := h
  exact (congrArg Frame.disc (hf f) :)

theorem Served.pread (h : Served n s t) (pa k : Nat) : t.pread pa k = s.pread pa k := by
  have hd := h.disc (pa / 65536)
  obtain ⟨_, _, _, _, _, _, _, _, _, _, rfl, -⟩ := h
  unfold State.pread
  rw [hd]

theorem Served.byteAt (h : Served n s t) (b : Nat) : t.byteAt b = s.byteAt b := h.pread b 1

theorem Served.aside (h : Served n s t) : { t.accessAside with reqs := s.reqs } = s.accessAside := by
  obtain ⟨_, _, _, _, _, _, _, _, _, _, rfl, -⟩ := h
  rfl

theorem Served.groups (h : Served n s t) : t.groups = s.groups := by
  obtain ⟨_, _, _, _, _, _, _, _, _, _, rfl, -⟩ := h
  rfl

theorem Served.teams (h : Served n s t) : t.teams = s.teams := by
  obtain ⟨_, _, _, _, _, _, _, _, _, _, rfl, -⟩ := h
  rfl

theorem Served.tiles (h : Served n s t) : t.tiles = s.tiles := by
  obtain ⟨_, _, _, _, _, _, _, _, _, _, rfl, -⟩ := h
  rfl

theorem Served.recs (h : Served n s t) : t.recs = s.recs := by
  obtain ⟨_, _, _, _, _, _, _, _, _, _, rfl, -⟩ := h
  rfl

theorem Served.peerOut (h : Served n s t) : t.peerOut = s.peerOut := by
  obtain ⟨_, _, _, _, _, _, _, _, _, _, rfl, -⟩ := h
  rfl

theorem Served.others (h : Served n s t) : ndel t.reqs n = ndel s.reqs n := by
  obtain ⟨_, _, _, _, _, _, _, _, _, _, -, -, hr⟩ := h
  exact hr

end

/-! ## Its accesses -/

section
variable {n : Nat} {ag : Agent} (hn : ag.who = .req n) (s : State)
include hn

/-- Lines that have all been served. -/
theorem serveLines_served (near : Bool) (tag : Nat) (pas : List Nat) (h : (s.serveLines ag near tag pas).1 = true) :
    Served n s (s.serveLines ag near tag pas).2 := by
  unfold State.serveLines at h ⊢
  dsimp only at h ⊢
  split at h
  · rename_i hd
    rw [if_pos hd, hn]
    exact (((charged_arriveLines _ _ _ _ _ _).trans (charged_payDue _ _ _ _)).served).trans (served_setReq _ _ _)
  · exact absurd h (by simp)

theorem serveEng_served (near : Bool) (tag : Nat) (va : Dword) (pa : Nat) (h : (s.serveEng ag near tag va pa).1 = true) :
    Served n s (s.serveEng ag near tag va pa).2 := by
  unfold State.serveEng at h ⊢
  cases near with
  | false => exact serveLines_served hn s _ _ _ h
  | true =>
    simp only [if_true] at h ⊢
    cases h1 : (s.serveLines ag false 3 (s.withNodes ag [va] [])).1 with
    | false => simp [h1] at h
    | true =>
      rw [h1, if_pos rfl] at h
      rw [if_pos rfl]
      exact (serveLines_served hn s _ _ _ h1).trans (serveLines_served hn _ _ _ _ h)

/-! What they come to. -/

/-- The machine that an access of a request meets when it is made or fails; one that waits keeps its places. -/
def EngRes.servedFrom {α : Type} (n : Nat) (s : State) : EngRes α → Prop
  | .ok _ t => Served n s t
  | .fault _ _ _ _ t => Served n s t
  | .wait _ => True

omit hn in
theorem EngRes.servedFrom.trans {α : Type} {n : Nat} {s t : State} {r : EngRes α} (h : Served n s t) (hr : r.servedFrom n t) :
    r.servedFrom n s := by
  cases r with
  | ok x u => exact h.trans hr
  | fault c v k b u => exact h.trans hr
  | wait u => trivial

omit hn in
theorem servedFrom_andThen {α β : Type} {n : Nat} {s : State} {r : EngRes α} {f : α → State → EngRes β} (hr : r.servedFrom n s)
    (hf : ∀ x t, (f x t).servedFrom n t) : (r.andThen f).servedFrom n s := by
  cases r with
  | ok x u => exact EngRes.servedFrom.trans hr (hf x u)
  | fault c v k b u => exact hr
  | wait u => trivial

theorem engLine_served (va : Dword) (k : Nat) (write near : Bool) : (s.engLine ag va k write near).servedFrom n s := by
  unfold State.engLine
  dsimp only
  generalize (if write = true then 5 else 4) = kd
  generalize (if write = true then 1 else 0) = tag
  split
  · exact Served.refl n s
  · rename_i x _
    split
    · exact Served.refl n s
    · split
      · exact Served.refl n s
      · have hs := serveEng_served hn s near tag va x.pa
        generalize s.serveEng ag near tag va x.pa = r at hs
        obtain ⟨b, s1⟩ := r
        cases b with
        | false => trivial
        | true =>
          dsimp only
          split
          · trivial
          · exact hs rfl

theorem engRead_served (near : Bool) (fuel : Nat) (va : Dword) (k : Nat) : (engRead ag near fuel va k s).servedFrom n s := by
  induction fuel generalizing va k s with
  | zero => exact Served.refl n s
  | succ fuel ih =>
    unfold engRead
    split
    · exact Served.refl n s
    · refine servedFrom_andThen (engLine_served hn s _ _ _ _) fun x t => ?_
      refine EngRes.servedFrom.trans (leafed_fillTlb t ag.fn ag.pasid va).served ?_
      refine servedFrom_andThen (ih _ _ _) fun w u => Served.refl n u

theorem srcBytes_served (q : Req) (row off k : Nat) : (srcBytes ag q row off k s).servedFrom n s := by
  unfold srcBytes
  dsimp only
  split
  · exact Served.refl n s
  · split
    · exact Served.refl n s
    · exact engRead_served hn s _ _ _ _

theorem streamBytes_served (q : Req) (fuel pos k : Nat) : (streamBytes ag q fuel pos k s).servedFrom n s := by
  induction fuel generalizing pos k s with
  | zero => exact Served.refl n s
  | succ fuel ih =>
    unfold streamBytes
    split
    · exact Served.refl n s
    · exact servedFrom_andThen (srcBytes_served hn s _ _ _ _) fun v t =>
        servedFrom_andThen (ih t _ _) fun w u => Served.refl n u

theorem unitBytes_served (q : Req) (row off k : Nat) : (unitBytes ag q row off k s).servedFrom n s := by
  unfold unitBytes
  dsimp only
  split
  · split
    · exact servedFrom_andThen (srcBytes_served hn s _ _ _ _) fun v t => Served.refl n t
    · refine servedFrom_andThen (srcBytes_served hn s _ _ _ _) fun v t => servedFrom_andThen ?_ fun w u => Served.refl n u
      split
      · exact Served.refl n t
      · exact engRead_served hn t _ _ _ _
  · exact servedFrom_andThen (srcBytes_served hn s _ _ _ _) fun v t =>
      servedFrom_andThen (engRead_served hn t _ _ _ _) fun w u => Served.refl n u
  · exact servedFrom_andThen (srcBytes_served hn s _ _ _ _) fun v t => Served.refl n t

theorem nbUnit_served (q : Req) (r k : Nat) : (nbUnit ag q r k s).servedFrom n s := by
  induction k with
  | zero => exact Served.refl n s
  | succ k ih =>
    unfold nbUnit
    exact servedFrom_andThen ih fun v t => servedFrom_andThen (engRead_served hn t _ _ _ _) fun w u => Served.refl n u

end

end Sys2Proof.Machine
end

section
/-! The statement on engine events (O39). -/

namespace Sys2Proof.Machine

/-! ## Team memory -/

/-- Of the machine only one team's memory, which reads as `m`, and reservations of groups may have changed. -/
def TmWritten (s : State) (tk : Nat) (m : List Host.Cell) (t : State) : Prop :=
  (∃ te gr, t = { s with teams := te, groups := gr }) ∧ (∀ j, j ≠ tk → t.team j = s.team j) ∧ ∀ b, mread (t.team tk).tmem b = mread m b

theorem tmWritten_refl (s : State) (tk : Nat) : TmWritten s tk (s.team tk).tmem s := ⟨⟨_, _, rfl⟩, fun _ _ => rfl, fun _ => rfl⟩

theorem tmUnit_written (s : State) (tk a n v : Nat) : TmWritten s tk (mwriteN (s.team tk).tmem a n v) (s.tmUnit tk a n v) := by
  unfold State.tmUnit
  split
  · rename_i h
    rw [h]
    exact tmWritten_refl s tk
  · refine ⟨⟨_, _, rfl⟩, fun j hj => nget_nput_ne _ _ _ hj, fun b => ?_⟩
    exact congrArg (fun t : Team => mread t.tmem b) (nget_nput_same _ _ _ _)

/-- Bytes written in blocks of 64 are the bytes of the number (R257). -/
theorem tmBytes_written (tk fuel : Nat) : ∀ (a n v : Nat) (s : State), n ≤ 64 * fuel →
    TmWritten s tk (mwriteN (s.team tk).tmem a n v) (tmBytes tk fuel a n v s) := by
  induction fuel with
  | zero =>
    intro a n v s h
    obtain rfl : n = 0 := by omega
    exact tmWritten_refl s tk
  | succ fuel ih =>
    intro a n v s h
    unfold tmBytes
    split
    · rename_i h0
      rw [h0]
      exact tmWritten_refl s tk
    · obtain ⟨⟨te, gr, h1⟩, h2, h3⟩ := tmUnit_written s tk a (min n 64) (v % 256 ^ 64)
      obtain ⟨⟨te', gr', h1'⟩, h2', h3'⟩ := ih (a + 64) (n - 64) (v / 256 ^ 64) (s.tmUnit tk a (min n 64) (v % 256 ^ 64)) (by omega)
      refine ⟨⟨te', gr', by rw [h1', h1]⟩, fun j hj => (h2' j hj).trans (h2 j hj), fun b => ?_⟩
      rw [h3', mread_mwriteN, h3, mread_mwriteN, mread_mwriteN]
      by_cases hlo : a ≤ b ∧ b < a + 64
      · rw [if_neg (by omega)]
        by_cases hn : b < a + n
        · rw [if_pos (by omega), if_pos (by omega)]
          apply BitVec.eq_of_toNat_eq
          obtain ⟨i, rfl⟩ : ∃ i, b = a + i := ⟨b - a, by omega⟩
          have hi : 256 ^ 64 = 256 ^ i * 256 ^ (64 - i) := by rw [← pow_add]; congr 1; omega
          have h256 : (256 : Nat) ∣ 256 ^ (64 - i) := dvd_pow_self _ (by omega)
          simp only [BitVec.toNat_ofNat, Nat.add_sub_cancel_left]
          rw [hi, Nat.mod_mul_right_div_self]
          exact Nat.mod_mod_of_dvd _ h256
        · rw [if_neg (by omega), if_neg (by omega)]
      · by_cases hn : a + 64 ≤ b ∧ b < a + n
        · rw [if_pos (by omega), if_pos (by omega), Nat.div_div_eq_div_mul, ← pow_add, show 64 + (b - (a + 64)) = b - a by omega]
        · rw [if_neg (by omega), if_neg (by omega), if_neg (by omega)]

section
variable {s t : State} {tk a n v : Nat} (h : TmWritten s tk (mwriteN (s.team tk).tmem a n v) t)
include h

theorem TmWritten.read : mreadN (t.team tk).tmem a n = v % 256 ^ n := by
  rw [mreadN_congr _ (mwriteN (s.team tk).tmem a n v) a n fun b _ _ => h.2.2 b, mreadN_mwriteN]

theorem TmWritten.outside {b : Nat} (hb : b < a ∨ a + n ≤ b) : mread (t.team tk).tmem b = mread (s.team tk).tmem b := by
  rw [h.2.2, mread_mwriteN_outside _ _ _ _ _ hb]

theorem TmWritten.byteAt (b : Nat) : t.byteAt b = s.byteAt b := by
  obtain ⟨te, gr, rfl⟩ := h.1
  rfl

theorem TmWritten.reqs : t.reqs = s.reqs := by
  obtain ⟨te, gr, rfl⟩ := h.1
  rfl

end

/-! ## A request that stops -/

/-- An event stops a request with its record and changes no memory (R120, R290). -/
def StopsAt (n : Nat) (s : State) (o : Out) (c : Nat) (va : Dword) : Prop :=
  ∃ v, o = .next v ∧ { v.accessAside with reqs := s.reqs } = s.accessAside ∧ v.groups = s.groups ∧
    (∀ b, v.byteAt b = s.byteAt b) ∧ (nget Req.reset v.reqs n).closed = true ∧
    ∃ r, (nget Req.reset v.reqs n).fault = some r ∧ r.cause = c ∧ r.va = va

theorem Served.stops {n : Nat} {s t : State} (h : Served n s t) (q : Req) (c : Nat) (va : Dword) (kd : Nat) (b : Bool) :
    StopsAt n s (.next (t.stopReq n q c va kd b)) c va := by
  have h' : Served n s (t.stopReq n q c va kd b) := h.trans (served_setReq _ _ _)
  refine ⟨_, rfl, h'.aside, h'.groups, h'.byteAt, ?_, ?_⟩
  · exact congrArg Req.closed (nget_nput_same _ _ _ _)
  · exact ⟨_, congrArg Req.fault (nget_nput_same _ _ _ _), rfl, rfl⟩

/-- A step whose access fails stops its request. -/
theorem reqStep_stops {α : Type} {n : Nat} {s t : State} {r : EngRes α} (ht : Served n s t) (q : Req) (f : α → State → Out)
    {c : Nat} {va : Dword} {kd : Nat} {b : Bool} (h : r = .fault c va kd b t) : StopsAt n s (State.reqStep n q r f) c va := by
  subst h
  exact ht.stops q c va kd b

theorem served_of_fault {α : Type} {n : Nat} {s t : State} {r : EngRes α} (hr : r.servedFrom n s) {c : Nat} {va : Dword} {kd : Nat}
    {b : Bool} (h : r = .fault c va kd b t) : Served n s t := by
  subst h
  exact hr

theorem served_of_ok {α : Type} {n : Nat} {s t : State} {r : EngRes α} (hr : r.servedFrom n s) {x : α} (h : r = .ok x t) : Served n s t := by
  subst h
  exact hr

/-! ## A line written -/

/-- A machine that differs in no byte of memory, no team and no request. -/
def Unwritten (s t : State) : Prop := t.teams = s.teams ∧ t.reqs = s.reqs ∧ ∀ pa k, t.pread pa k = s.pread pa k

theorem Unwritten.trans {s t u : State} (h : Unwritten s t) (h' : Unwritten t u) : Unwritten s u :=
  ⟨h'.1.trans h.1, h'.2.1.trans h.2.1, fun pa k => (h'.2.2 pa k).trans (h.2.2 pa k)⟩

theorem Leafed.unwritten {s t : State} (h : Leafed s t) : Unwritten s t := by
  have hp := (h.served (n := 0)).pread
  obtain ⟨_, _, _, rfl, -⟩ := h
  exact ⟨rfl, rfl, hp⟩

theorem clearPoison_unwritten (s : State) (pa n : Nat) : Unwritten s (s.clearPoison pa n) := by
  unfold State.clearPoison
  split
  · refine ⟨rfl, rfl, fun a k => ?_⟩
    unfold State.pread
    dsimp only
    rw [setFrame_disc (by rfl)]
    rfl
  · exact ⟨rfl, rfl, fun _ _ => rfl⟩

theorem HomeWritten.teams {s t : State} (h : HomeWritten s t) : t.teams = s.teams := by
  obtain ⟨_, _, _, _, _, _, _, rfl⟩ := h
  rfl

/-- A line that an engine writes at its home (R119, R127). -/
theorem engWrite_ok {ag : Agent} {va : Dword} {n v : Nat} {s s1 : State} {x : Xlat} (h : s.engLine ag va n true false = .ok x s1) :
    ∃ t, engWrite ag va n v s = .ok () t ∧ t.teams = s1.teams ∧ t.pread x.pa n = v % 256 ^ n ∧
      ∀ b, b < x.pa ∨ x.pa + n ≤ b → t.byteAt b = s1.byteAt b := by
  have hu : Unwritten s1 (((s1.fillTlb ag.fn ag.pasid va).useSnoop x.pa).clearPoison x.pa n) :=
    (leafed_fillTlb s1 ag.fn ag.pasid va).unwritten.trans
      (Unwritten.trans ⟨rfl, rfl, fun _ _ => rfl⟩ (clearPoison_unwritten _ _ _))
  have hw := pwrite_written (((s1.fillTlb ag.fn ag.pasid va).useSnoop x.pa).clearPoison x.pa n) x.pa n v false (some ag.writer)
  unfold engWrite
  rw [h]
  exact ⟨_, rfl, hw.teams.trans hu.1, pread_pwrite_same _ _ _ _ _ _,
    fun b hb => (byteAt_pwrite_outside _ v false (some ag.writer) hb).trans (hu.2.2 b 1)⟩

theorem engWrite_fault {ag : Agent} {va w : Dword} {n v c kd : Nat} {b : Bool} {s s1 : State}
    (h : s.engLine ag va n true false = .fault c w kd b s1) : engWrite ag va n v s = .fault c w kd b s1 := by
  unfold engWrite
  rw [h]
  rfl

/-! ## Copy units -/

/-- The request is a copy whose units the event delivers. -/
def FullCopy (q : Req) : Prop :=
  q.closed = false ∧ q.nearBank = false ∧ q.sent = false ∧ (rqKind q.raw < 3 ∨ rqKind q.raw = 5 ∨ rqKind q.raw = 6)

/-- A peer's line without a port (R340). -/
def NoPort (n : Nat) (s : State) (q : Req) : Prop := rqKind q.raw = 6 ∧ (q.down = true ∨ s.peerPort n (rqPdev q.raw) = none)

section
variable {n : Nat} {s : State} (hc : FullCopy (nget Req.reset s.reqs n))
include hc

theorem fullCopy_guard : ((nget Req.reset s.reqs n).closed || (nget Req.reset s.reqs n).nearBank ||
    rqKind (nget Req.reset s.reqs n).raw == 3 || rqKind (nget Req.reset s.reqs n).raw == 4 || (nget Req.reset s.reqs n).sent) = false := by
  obtain ⟨h1, h2, h3, h4⟩ := hc
  have h5 : rqKind (nget Req.reset s.reqs n).raw ≠ 3 := by omega
  have h6 : rqKind (nget Req.reset s.reqs n).raw ≠ 4 := by omega
  simp [h1, h2, h3, h5, h6]

/-- Without its port a peer copy stops before it reads (R43, R340). -/
theorem copyUnitDeliver_noPort (hp : NoPort n s (nget Req.reset s.reqs n)) :
    exec (.copyUnitDeliver n) s = .next (s.stopReq n (nget Req.reset s.reqs n) 0x112 (BitVec.ofNat 64
      (dstAddr (nget Req.reset s.reqs n).raw (nget Req.reset s.reqs n).row + (nget Req.reset s.reqs n).off)) 0 false) := by
  obtain ⟨hk, hd⟩ := hp
  show execCopyUnitDeliver n s = _
  unfold execCopyUnitDeliver
  dsimp only
  rw [fullCopy_guard hc, if_neg Bool.false_ne_true, if_pos]
  refine ⟨hk, ?_⟩
  rcases hd with hd | hd
  · simp [hd]
  · split <;> simp [hd]

/-- Else the unit is read, and goes where its kind says (R283). -/
theorem copyUnitDeliver_eq (hp : ¬NoPort n s (nget Req.reset s.reqs n)) :
    let q := nget Req.reset s.reqs n
    let ag := s.reqAgent n q
    let u := unitLen q.raw q.row q.off
    let dst := dstAddr q.raw q.row + q.off
    ∃ f : Nat × BitVec 8 → State → Out,
      exec (.copyUnitDeliver n) s = State.reqStep n q (unitBytes ag q q.row q.off u s) f ∧
      (rqKind q.raw = 0 → ∀ x fl s1, f (x, fl) s1 = State.reqStep n q (writeScales ag q s1)
        (fun _ s2 => .next ((s2.tmUnit q.tk dst u x).setReq n (q.advance u (dataBytes q.raw q.off u) fl)))) ∧
      (rqKind q.raw = 1 ∨ rqKind q.raw = 2 ∨ rqKind q.raw = 5 → ∀ x fl s1, f (x, fl) s1 =
        State.reqStep n q (engWrite ag (BitVec.ofNat 64 dst) u x s1)
          (fun _ s2 => .next (s2.setReq n (q.advance u (dataBytes q.raw q.off u) fl)))) ∧
      (rqKind q.raw = 6 → ∃ p, ∀ x fl s1, f (x, fl) s1 = .next { s1.setReq n { q with sent := true, svc := Svc.reset } with
        portOf := nput s1.portOf n p, peerOut := s1.peerOut ++ [(n, dst, x)] }) := by
  intro q ag u dst
  have he : exec (.copyUnitDeliver n) s = execCopyUnitDeliver n s := rfl
  unfold execCopyUnitDeliver at he
  dsimp only at he
  generalize hport : (if rqKind (nget Req.reset s.reqs n).raw = 6 ∧ (!(nget Req.reset s.reqs n).down) = true
    then s.peerPort n (rqPdev (nget Req.reset s.reqs n).raw) else none) = port at he
  have hsome : ¬(rqKind q.raw = 6 ∧ port.isNone = true) := by
    rintro ⟨hk, hn⟩
    rw [Option.isNone_iff_eq_none] at hn
    refine hp ⟨hk, or_iff_not_imp_left.2 fun hd => ?_⟩
    rw [← hn, ← hport, if_pos ⟨hk, by simpa using hd⟩]
  rw [fullCopy_guard hc, if_neg Bool.false_ne_true, if_neg hsome] at he
  refine ⟨_, he, fun hk x fl s1 => ?_, fun hk x fl s1 => ?_, fun hk => ⟨port.getD 0, fun x fl s1 => ?_⟩⟩
  · simp only [show rqKind (nget Req.reset s.reqs n).raw = 0 from hk]
    rfl
  · rcases hk with hk | hk | hk <;> simp only [show rqKind (nget Req.reset s.reqs n).raw = _ from hk] <;> rfl
  · simp only [show rqKind (nget Req.reset s.reqs n).raw = 6 from hk]
    rfl

end

end Sys2Proof.Machine
end

section
/-! The clauses of the statement on engine events, and the statement (O39). -/

namespace Sys2Proof.Machine

/-! ## Scales -/

section
variable {n : Nat} {ag : Agent} (hn : ag.who = .req n) (q : Req) (s : State)

theorem writeScales_none (h : 2 ≤ rqCty q.raw ∨ q.off ≠ 0) : writeScales ag q s = .ok () s := by
  unfold writeScales
  dsimp only
  rw [if_neg]
  rintro ⟨-, h1, h2⟩
  omega

/-- The scales of a row are read, and written to team memory (R283). -/
theorem writeScales_row (hk : rqKind q.raw = 0) (hc : rqCty q.raw < 2) (ho : q.off = 0) :
    writeScales ag q s =
      (engRead ag false (rqExt q.raw / 32 / 64 + 2) (BitVec.ofNat 64 (rawField q.raw 0x18 8 + q.row * (rqExt q.raw / 32)))
        (rqExt q.raw / 32) s).andThen (fun v s => .ok ()
          (tmBytes q.tk (rqExt q.raw / 32 / 64 + 1) (rqScd q.raw + q.row * (rqExt q.raw / 32)) (rqExt q.raw / 32) v s)) := by
  unfold writeScales
  dsimp only
  rw [if_pos ⟨hk, hc, ho⟩]

include hn in
/-- Scales that cannot be read leave memory alone. -/
theorem writeScales_fault {c : Nat} {va : Dword} {kd : Nat} {b : Bool} {t : State} (h : writeScales ag q s = .fault c va kd b t) :
    Served n s t := by
  unfold writeScales at h
  dsimp only at h
  split at h
  · have hr := engRead_served hn s false (rqExt q.raw / 32 / 64 + 2)
      (BitVec.ofNat 64 (rawField q.raw 0x18 8 + q.row * (rqExt q.raw / 32))) (rqExt q.raw / 32)
    generalize engRead ag false _ _ _ s = r at h hr
    cases r with
    | ok x u => cases h
    | fault c' v' k' b' u => cases h; exact hr
    | wait u => cases h
  · cases h

include hn in
/-- Scales that are written change team memory alone. -/
theorem writeScales_ok {t : State} (h : writeScales ag q s = .ok () t) : ∃ u m, Served n s u ∧ TmWritten u q.tk m t := by
  unfold writeScales at h
  dsimp only at h
  split at h
  · have hr := engRead_served hn s false (rqExt q.raw / 32 / 64 + 2)
      (BitVec.ofNat 64 (rawField q.raw 0x18 8 + q.row * (rqExt q.raw / 32))) (rqExt q.raw / 32)
    generalize engRead ag false _ _ _ s = r at h hr
    cases r with
    | ok x u => cases h; exact ⟨u, _, hr, tmBytes_written _ _ _ _ _ _ (by omega)⟩
    | fault c' v' k' b' u => cases h
    | wait u => cases h
  · cases h; exact ⟨s, _, Served.refl n s, tmWritten_refl s q.tk⟩

end

/-! ## Copy units -/

section
variable {n : Nat} {s : State}

theorem team_of_teams {s t : State} (h : t.teams = s.teams) (j : Nat) : t.team j = s.team j := by
  unfold State.team
  rw [h]

/-- The unit of a copy to team memory (R283). -/
theorem deliver_team (q : Req) (u dst x : Nat) (q' : Req) {s1 s2 : State} (h1 : Served n s s1)
    (h : writeScales (s.reqAgent n q) q s1 = .ok () s2) (f : Unit → State → Out)
    (hf : ∀ t, f () t = .next ((t.tmUnit q.tk dst u x).setReq n q')) :
    ∃ v, State.reqStep n q (writeScales (s.reqAgent n q) q s1) f = .next v ∧ nget Req.reset v.reqs n = q' ∧
      (∀ b, v.byteAt b = s.byteAt b) ∧ (∀ j, j ≠ q.tk → v.team j = s.team j) ∧ mreadN (v.team q.tk).tmem dst u = x % 256 ^ u ∧
      ∀ b, b < dst ∨ dst + u ≤ b → mread (v.team q.tk).tmem b = mread (s2.team q.tk).tmem b := by
  obtain ⟨w, m, hw, ⟨te, gr, ht⟩, hteam, -⟩ := writeScales_ok (n := n) rfl q s1 h
  have hu := tmUnit_written s2 q.tk dst u x
  rw [h]
  refine ⟨_, hf s2, nget_nput_same _ _ _ _, fun b => ?_, fun j hj => ?_, hu.read, fun b hb => hu.outside hb⟩
  · refine (hu.byteAt b).trans ?_
    rw [← (h1.trans hw).byteAt b, ht]
    rfl
  · exact (hu.2.1 j hj).trans ((hteam j hj).trans (team_of_teams (h1.trans hw).teams j))

/-- The unit of a copy to global memory (R283). -/
theorem deliver_global (q : Req) (dst : Dword) (u x : Nat) (q' : Req) {s1 s2 : State} {y : Xlat} (h1 : Served n s s1)
    (h : s1.engLine (s.reqAgent n q) dst u true false = .ok y s2) (f : Unit → State → Out)
    (hf : ∀ t, f () t = .next (t.setReq n q')) :
    ∃ v, State.reqStep n q (engWrite (s.reqAgent n q) dst u x s1) f = .next v ∧ nget Req.reset v.reqs n = q' ∧ v.teams = s.teams ∧
      v.pread y.pa u = x % 256 ^ u ∧ ∀ b, b < y.pa ∨ y.pa + u ≤ b → v.byteAt b = s.byteAt b := by
  have h2 : Served n s s2 := h1.trans (served_of_ok (engLine_served (n := n) rfl s1 dst u true false) h)
  obtain ⟨t, ht, hte, hr, hb⟩ := engWrite_ok (v := x) h
  rw [ht]
  exact ⟨_, hf t, nget_nput_same _ _ _ _, hte.trans h2.teams, hr, fun b ho => (hb b ho).trans (h2.byteAt b)⟩

/-- A line that cannot be written stops its request. -/
theorem deliver_stops (q : Req) (dst : Dword) (u x : Nat) {s1 s2 : State} {c : Nat} {va : Dword} {kd : Nat} {b : Bool}
    (h1 : Served n s s1) (h : s1.engLine (s.reqAgent n q) dst u true false = .fault c va kd b s2) (f : Unit → State → Out) :
    StopsAt n s (State.reqStep n q (engWrite (s.reqAgent n q) dst u x s1) f) c va :=
  reqStep_stops (h1.trans (served_of_fault (engLine_served (n := n) rfl s1 dst u true false) h)) q f (engWrite_fault h)

end

/-- COPY_UNIT_DELIVER of a unit that has its port (R120, R283). -/
theorem copyUnitDeliver_unit (n : Nat) (s : State) (hc : FullCopy (nget Req.reset s.reqs n)) (hp : ¬NoPort n s (nget Req.reset s.reqs n)) :
    let q := nget Req.reset s.reqs n
    let ag := s.reqAgent n q
    let kind := rqKind q.raw
    let u := unitLen q.raw q.row q.off
    let dst := dstAddr q.raw q.row + q.off
    (∀ c va kd b s2, unitBytes ag q q.row q.off u s = .fault c va kd b s2 → StopsAt n s (exec (.copyUnitDeliver n) s) c va) ∧
    (∀ s2, unitBytes ag q q.row q.off u s = .wait s2 → exec (.copyUnitDeliver n) s = .next s2) ∧
    (∀ x fl s1, unitBytes ag q q.row q.off u s = .ok (x, fl) s1 →
      let next := q.advance u (dataBytes q.raw q.off u) fl
      (kind = 0 →
        (2 ≤ rqCty q.raw ∨ q.off ≠ 0 → writeScales ag q s1 = .ok () s1) ∧
        (rqCty q.raw < 2 → q.off = 0 →
          let k := rqExt q.raw / 32
          let scd := rqScd q.raw + q.row * k
          ∀ sc s3, engRead ag false (k / 64 + 2) (BitVec.ofNat 64 (rawField q.raw 0x18 8 + q.row * k)) k s1 = .ok sc s3 →
            ∃ s2, writeScales ag q s1 = .ok () s2 ∧ mreadN (s2.team q.tk).tmem scd k = sc % 256 ^ k ∧
              ∀ b, b < scd ∨ scd + k ≤ b → mread (s2.team q.tk).tmem b = mread (s.team q.tk).tmem b) ∧
        (∀ c va kd b s2, writeScales ag q s1 = .fault c va kd b s2 → StopsAt n s (exec (.copyUnitDeliver n) s) c va) ∧
        (∀ s2, writeScales ag q s1 = .ok () s2 →
          ∃ v, exec (.copyUnitDeliver n) s = .next v ∧ nget Req.reset v.reqs n = next ∧ (∀ b, v.byteAt b = s.byteAt b) ∧
            (∀ j, j ≠ q.tk → v.team j = s.team j) ∧ mreadN (v.team q.tk).tmem dst u = x % 256 ^ u ∧
            ∀ b, b < dst ∨ dst + u ≤ b → mread (v.team q.tk).tmem b = mread (s2.team q.tk).tmem b)) ∧
      (kind = 1 ∨ kind = 2 ∨ kind = 5 →
        (∀ c va kd b s2, s1.engLine ag (BitVec.ofNat 64 dst) u true false = .fault c va kd b s2 →
          StopsAt n s (exec (.copyUnitDeliver n) s) c va) ∧
        (∀ y s2, s1.engLine ag (BitVec.ofNat 64 dst) u true false = .ok y s2 →
          ∃ v, exec (.copyUnitDeliver n) s = .next v ∧ nget Req.reset v.reqs n = next ∧ v.teams = s.teams ∧
            v.pread y.pa u = x % 256 ^ u ∧ ∀ b, b < y.pa ∨ y.pa + u ≤ b → v.byteAt b = s.byteAt b)) ∧
      (kind = 6 →
        ∃ v, exec (.copyUnitDeliver n) s = .next v ∧ nget Req.reset v.reqs n = { q with sent := true, svc := Svc.reset } ∧
          v.peerOut = s.peerOut ++ [(n, dst, x)] ∧ v.teams = s.teams ∧ ∀ b, v.byteAt b = s.byteAt b)) := by
  intro q ag kind u dst
  obtain ⟨f, he, hteam, hglobal, hpeer⟩ := copyUnitDeliver_eq hc hp
  have hserved : (unitBytes ag q q.row q.off u s).servedFrom n s := unitBytes_served rfl s q q.row q.off u
  rw [he]
  refine ⟨fun c va kd b s2 h => ?_, fun s2 h => ?_, fun x fl s1 h => ?_⟩
  · exact reqStep_stops (served_of_fault hserved h) q f h
  · show State.reqStep n q (unitBytes ag q q.row q.off u s) f = _
    rw [h]
    rfl
  · have h1 : Served n s s1 := served_of_ok hserved h
    have hstep : State.reqStep n q (unitBytes ag q q.row q.off u s) f = f (x, fl) s1 := by
      rw [h]
      rfl
    refine ⟨fun hk => ?_, fun hk => ?_, fun hk => ?_⟩
    · refine ⟨writeScales_none q s1, fun hcty hoff => ?_, fun c va kd b s2 hw => ?_, fun s2 hw => ?_⟩
      · intro k scd sc s3 hr
        have h3 : Served n s s3 := h1.trans (served_of_ok (engRead_served (n := n) (ag := ag) rfl s1 _ _ _ _) hr)
        have hw := writeScales_row (ag := ag) q s1 hk hcty hoff
        have ht := tmBytes_written q.tk (k / 64 + 1) scd k sc s3 (by omega)
        refine ⟨_, hw.trans (by rw [show engRead ag false _ _ _ s1 = _ from hr]; rfl), ht.read, fun b hb => ?_⟩
        rw [ht.outside hb, team_of_teams h3.teams]
      · rw [hstep, hteam hk]
        exact reqStep_stops (h1.trans (writeScales_fault (n := n) (ag := ag) rfl q s1 hw)) q _ hw
      · rw [hstep, hteam hk]
        exact deliver_team q u dst x _ h1 hw _ fun t => rfl
    · refine ⟨fun c va kd b s2 hw => ?_, fun y s2 hw => ?_⟩
      · rw [hstep, hglobal hk]
        exact deliver_stops q _ u x h1 hw _
      · rw [hstep, hglobal hk]
        exact deliver_global q _ u x _ h1 hw _ fun t => rfl
    · obtain ⟨p, hp⟩ := hpeer hk
      rw [hstep, hp]
      exact ⟨_, rfl, nget_nput_same _ _ _ _, congrArg (· ++ [(n, dst, x)]) h1.peerOut, h1.teams, h1.byteAt⟩

end Sys2Proof.Machine
end

section
/-! The other engine events, and the statement (O39). -/

namespace Sys2Proof.Machine

/-! ## The peer's answer, metadata and codebooks -/

theorem peerLineAck_taken {n : Nat} {s : State} (hs : (nget Req.reset s.reqs n).sent = true) (hc : (nget Req.reset s.reqs n).closed = false) :
    let q := nget Req.reset s.reqs n
    let u := unitLen q.raw q.row q.off
    ∃ v, exec (.peerLineAck n true) s = .next v ∧ nget Req.reset v.reqs n = ({ q with sent := false } : Req).advance u u 0 ∧
      ∀ x ∈ v.peerOut, x.1 ≠ n := by
  intro q u
  have he : exec (.peerLineAck n true) s = execPeerLineAck n true s := rfl
  unfold execPeerLineAck at he
  dsimp only at he
  rw [if_neg (by simp [hs, hc]), if_pos rfl] at he
  refine ⟨_, he, nget_nput_same _ _ _ _, fun x hx => ?_⟩
  simpa using (List.mem_filter.1 hx).2

theorem peerLineAck_refused {n : Nat} {s : State} (hs : (nget Req.reset s.reqs n).sent = true) (hc : (nget Req.reset s.reqs n).closed = false) :
    ∃ v, exec (.peerLineAck n false) s = .next v ∧ (nget Req.reset v.reqs n).closed = true ∧
      (∃ r, (nget Req.reset v.reqs n).fault = some r ∧ r.cause = 0x113) ∧ ∀ x ∈ v.peerOut, x.1 ≠ n := by
  have he : exec (.peerLineAck n false) s = execPeerLineAck n false s := rfl
  unfold execPeerLineAck at he
  dsimp only at he
  rw [if_neg (by simp [hs, hc]), if_neg Bool.false_ne_true] at he
  refine ⟨_, he, congrArg Req.closed (nget_nput_same _ _ _ _), ⟨_, congrArg Req.fault (nget_nput_same _ _ _ _), rfl⟩, fun x hx => ?_⟩
  simpa using (List.mem_filter.1 hx).2

/-- METADATA_ENTRY_PUSH onto a queue with room (R283). -/
theorem metadataEntryPush_room {n : Nat} {s : State} (hc : (nget Req.reset s.reqs n).closed = false)
    (hnb : (nget Req.reset s.reqs n).nearBank = false) (hk : rqKind (nget Req.reset s.reqs n).raw = 3)
    (hl : (nget [] (s.tile (nget Req.reset s.reqs n).core).sq (rqSq (nget Req.reset s.reqs n).raw)).length < 8) :
    let q := nget Req.reset s.reqs n
    let ag := s.reqAgent n q
    (∀ c va kd b s2, streamBytes ag q 514 (512 * q.row) 512 s = .fault c va kd b s2 → StopsAt n s (exec (.metadataEntryPush n) s) c va) ∧
    ∀ x s1, streamBytes ag q 514 (512 * q.row) 512 s = .ok x s1 →
      ∃ v, exec (.metadataEntryPush n) s = .next v ∧ (∀ b, v.byteAt b = s.byteAt b) ∧
        nget [] (v.tile q.core).sq (rqSq q.raw) = nget [] (s.tile q.core).sq (rqSq q.raw) ++ [BitVec.ofNat 4096 x] ∧
        (nget Req.reset v.reqs n).row = q.row + 1 ∧ (nget Req.reset v.reqs n).bytes = q.bytes + 512 := by
  intro q ag
  have he : exec (.metadataEntryPush n) s = execMetadataEntryPush n s := rfl
  unfold execMetadataEntryPush at he
  dsimp only at he
  rw [if_neg (by simp [hc, hnb, hk]), if_neg (Nat.not_le.2 hl)] at he
  have hserved : (streamBytes ag q 514 (512 * q.row) 512 s).servedFrom n s := streamBytes_served rfl s q _ _ _
  rw [he]
  refine ⟨fun c va kd b s2 h => reqStep_stops (served_of_fault hserved h) q _ h, fun x s1 h => ?_⟩
  have h1 : Served n s s1 := served_of_ok hserved h
  rw [show streamBytes (s.reqAgent n (nget Req.reset s.reqs n)) (nget Req.reset s.reqs n) 514 (512 * (nget Req.reset s.reqs n).row) 512 s = _
    from h]
  refine ⟨_, rfl, h1.byteAt, ?_, congrArg Req.row (nget_nput_same _ _ _ _), congrArg Req.bytes (nget_nput_same _ _ _ _)⟩
  show nget [] ((s1.setTile q.core _).tile q.core).sq _ = _
  rw [State.setTile_tile_same]
  exact nget_nput_same _ _ _ _

/-- CODEBOOK_WRITE of a codebook that no issued task reads (R283). -/
theorem codebookWrite_free {n : Nat} {s : State} (hc : (nget Req.reset s.reqs n).closed = false)
    (hnb : (nget Req.reset s.reqs n).nearBank = false) (hk : rqKind (nget Req.reset s.reqs n).raw = 4)
    (hfree : ((s.tile (nget Req.reset s.reqs n).core).table.any fun k => k.issued && taskReadsBook k (rqCb (nget Req.reset s.reqs n).raw)) = false) :
    let q := nget Req.reset s.reqs n
    let ag := s.reqAgent n q
    (∀ c va kd b s2, srcBytes ag q 0 0 32 s = .fault c va kd b s2 → StopsAt n s (exec (.codebookWrite n) s) c va) ∧
    ∀ x s1, srcBytes ag q 0 0 32 s = .ok x s1 →
      ∃ v, exec (.codebookWrite n) s = .next v ∧ (∀ b, v.byteAt b = s.byteAt b) ∧
        nget 0 (v.tile q.core).cb (rqCb q.raw) = BitVec.ofNat 256 x ∧
        (∀ j, j ≠ rqCb q.raw → nget 0 (v.tile q.core).cb j = nget 0 (s.tile q.core).cb j) ∧
        nget Req.reset v.reqs n = { q with bytes := 32, closed := true, svc := Svc.reset } := by
  intro q ag
  have he : exec (.codebookWrite n) s = execCodebookWrite n s := rfl
  unfold execCodebookWrite at he
  dsimp only at he
  rw [if_neg (by simp [hc, hnb, hk]), hfree, if_neg Bool.false_ne_true] at he
  have hserved : (srcBytes ag q 0 0 32 s).servedFrom n s := srcBytes_served rfl s q _ _ _
  rw [he]
  refine ⟨fun c va kd b s2 h => reqStep_stops (served_of_fault hserved h) q _ h, fun x s1 h => ?_⟩
  have h1 : Served n s s1 := served_of_ok hserved h
  rw [show srcBytes (s.reqAgent n (nget Req.reset s.reqs n)) (nget Req.reset s.reqs n) 0 0 32 s = _ from h]
  refine ⟨_, rfl, h1.byteAt, ?_, fun j hj => ?_, nget_nput_same _ _ _ _⟩
  · show nget 0 ((s1.setTile q.core _).tile q.core).cb _ = _
    rw [State.setTile_tile_same]
    exact nget_nput_same _ _ _ _
  · show nget 0 ((s1.setTile q.core _).tile q.core).cb _ = _
    rw [State.setTile_tile_same]
    exact nget_nput_ne _ _ _ hj

/-! ## Near-bank requests -/

/-- The stack that a near-bank request's B lies in (R286). -/
def State.stackAt (s : State) (ag : Agent) (va : Dword) : Nat :=
  match s.access ag.fn ag.pasid va 4 false false with
  | .ok x => stackOf x.pa
  | .error _ => 0

/-- NEAR_BANK_TRANSLATE once the codebook has been read (R286). -/
theorem nearBankTranslate_lines {n : Nat} {s : State} (hc : (nget Req.reset s.reqs n).closed = false)
    (hnb : (nget Req.reset s.reqs n).nearBank = true) (hck : (nget Req.reset s.reqs n).checked = false) :
    let q := nget Req.reset s.reqs n
    let ag := s.reqAgent n q
    let stack := s.stackAt ag (BitVec.ofNat 64 (rawField q.raw 8 8))
    ∀ book s1, (nbFmt q.raw = 0 → engRead ag false 2 (BitVec.ofNat 64 (rawField q.raw 0x30 8)) 32 s = .ok book s1) →
      (nbFmt q.raw ≠ 0 → book = 0 ∧ s1 = s) →
      (nbLines ag stack s1 (nbVas q.raw) = none →
        ∃ v, exec (.nearBankTranslate n) s = .next v ∧ { v.accessAside with reqs := s.reqs } = s.accessAside ∧
          (∀ b, v.byteAt b = s.byteAt b) ∧
          let p := nget Req.reset v.reqs n
          p.checked = true ∧ p.closed = false ∧ p.book = BitVec.ofNat 256 book ∧
            p.a = mreadN (s.team q.tk).tmem (rawField q.raw 0x18 4) (nbABytes q.raw)) ∧
      (∀ c va kd s2, nbLines ag stack s1 (nbVas q.raw) = some (c, va, kd, s2) → StopsAt n s (exec (.nearBankTranslate n) s) c va) := by
  intro q ag stack book s1 hbook hnone
  have hr : (if nbFmt q.raw = 0 then engRead ag false 2 (BitVec.ofNat 64 (rawField q.raw 0x30 8)) 32 s else .ok 0 s) = EngRes.ok book s1 := by
    split
    · rename_i h
      exact hbook h
    · rename_i h
      obtain ⟨rfl, rfl⟩ := hnone h
      rfl
  have h1 : Served n s s1 := by
    split at hr
    · exact served_of_ok (engRead_served (n := n) (ag := ag) rfl s _ _ _ _) hr
    · cases hr
      exact Served.refl n s
  have he : exec (.nearBankTranslate n) s = execNearBankTranslate n s := rfl
  unfold execNearBankTranslate at he
  dsimp only at he
  rw [if_neg (by simp [hc, hnb, hck]), show (if nbFmt (nget Req.reset s.reqs n).raw = 0 then _ else _) = _ from hr] at he
  rw [he]
  refine ⟨fun hl => ?_, fun c va kd s2 hl => ?_⟩
  · have h2 := h1.trans (served_setReq n s1 { q with
      checked := true, a := s.tmRead q.tk (rawField q.raw 0x18 4) (nbABytes q.raw), book := BitVec.ofNat 256 book, svc := Svc.reset,
      asc := if nbFmt q.raw = 2 then 0 else s.tmRead q.tk (rawField q.raw 0x1C 4) (nbK q.raw / 32) })
    refine ⟨_, ?_, h2.aside, h2.byteAt, ?_⟩
    · simp only [State.reqStep]
      split
      · rename_i h
        cases h.symm.trans hl
      · rfl
    · dsimp only
      rw [nget_nput_same]
      exact ⟨rfl, hc, rfl, rfl⟩
  · simp only [State.reqStep]
    split
    · rename_i h
      cases h.symm.trans hl
      exact h1.stops q c va kd s2
    · rename_i h
      cases h.symm.trans hl

/-- NEAR_BANK_ROW_DELIVER of a checked request (R286). -/
theorem nearBankRowDeliver_rows {n : Nat} {s : State} (hc : (nget Req.reset s.reqs n).closed = false)
    (hnb : (nget Req.reset s.reqs n).nearBank = true) (hck : (nget Req.reset s.reqs n).checked = true) :
    let q := nget Req.reset s.reqs n
    let ag := s.reqAgent n q
    let rows := min (64 / nbOut q.raw) (nbRows q.raw - q.row)
    let len := rows * nbOut q.raw
    let at_ := rawField q.raw 0x20 8 + q.row * nbOut q.raw
    let goesOn : State → Prop := fun v =>
      (nget Req.reset v.reqs n).row = q.row + rows ∧ (nget Req.reset v.reqs n).bytes = q.bytes + len ∧
        ((nget Req.reset v.reqs n).closed = true ↔ nbRows q.raw ≤ q.row + rows)
    (∀ c va kd b s2, nbUnit ag q q.row rows s = .fault c va kd b s2 → StopsAt n s (exec (.nearBankRowDeliver n) s) c va) ∧
    ∀ x fl s1, nbUnit ag q q.row rows s = .ok (x, fl) s1 →
      (nbGlobal q.raw = false →
        ∃ v, exec (.nearBankRowDeliver n) s = .next v ∧ (∀ b, v.byteAt b = s.byteAt b) ∧
          mreadN (v.team q.tk).tmem at_ len = x % 256 ^ len ∧
          (∀ b, b < at_ ∨ at_ + len ≤ b → mread (v.team q.tk).tmem b = mread (s.team q.tk).tmem b) ∧ goesOn v) ∧
      (nbGlobal q.raw = true → ∀ y s2, s1.engLine ag (BitVec.ofNat 64 at_) len true false = .ok y s2 →
        ∃ v, exec (.nearBankRowDeliver n) s = .next v ∧ v.teams = s.teams ∧ v.pread y.pa len = x % 256 ^ len ∧
          (∀ b, b < y.pa ∨ y.pa + len ≤ b → v.byteAt b = s.byteAt b) ∧ goesOn v) := by
  intro q ag rows len at_ goesOn
  have he : exec (.nearBankRowDeliver n) s = execNearBankRowDeliver n s := rfl
  unfold execNearBankRowDeliver at he
  dsimp only at he
  rw [if_neg (by simp [hc, hnb, hck])] at he
  have hserved : (nbUnit ag q q.row rows s).servedFrom n s := nbUnit_served rfl s q _ _
  have hgoes : ∀ (v : State) (fl : BitVec 8), nget Req.reset v.reqs n = { q with
      row := q.row + rows, bytes := q.bytes + len, flags := q.flags ||| fl, svc := Svc.reset,
      closed := decide (nbRows q.raw ≤ q.row + rows) } → goesOn v := by
    intro v fl hv
    dsimp only [goesOn]
    rw [hv]
    exact ⟨rfl, rfl, decide_eq_true_iff⟩
  rw [he]
  refine ⟨fun c va kd b s2 h => reqStep_stops (served_of_fault hserved h) q _ h, fun x fl s1 h => ?_⟩
  have h1 : Served n s s1 := served_of_ok hserved h
  rw [show nbUnit (s.reqAgent n (nget Req.reset s.reqs n)) (nget Req.reset s.reqs n) (nget Req.reset s.reqs n).row _ s = _ from h]
  refine ⟨fun hg => ?_, fun hg y s2 hw => ?_⟩
  · have hu := tmUnit_written s1 q.tk at_ len x
    refine ⟨_, if_neg (by simp [show nbGlobal (nget Req.reset s.reqs n).raw = false from hg]), fun b => ?_, hu.read, fun b hb => ?_,
      hgoes _ fl (nget_nput_same _ _ _ _)⟩
    · exact (hu.byteAt b).trans (h1.byteAt b)
    · exact (hu.outside hb).trans (by rw [team_of_teams h1.teams])
  · obtain ⟨v, hv, hreq, hrest⟩ := deliver_global (n := n) q (BitVec.ofNat 64 at_) len x { q with
      row := q.row + rows, bytes := q.bytes + len, flags := q.flags ||| fl, svc := Svc.reset,
      closed := decide (nbRows q.raw ≤ q.row + rows) } h1 hw (fun _ t => .next (t.setReq n { q with
        row := q.row + rows, bytes := q.bytes + len, flags := q.flags ||| fl, svc := Svc.reset,
        closed := decide (nbRows q.raw ≤ q.row + rows) })) fun t => rfl
    exact ⟨v, (if_pos hg).trans hv, hrest.1, hrest.2.1, hrest.2.2, hgoes v fl hreq⟩

/-! ## Arrival objects -/

/-- An object that can be updated: its homes have served it. -/
theorem objectAt_ok {n : Nat} {s s1 : State} {ag : Agent} (hn : ag.who = .req n) {va : Dword} {pa : Nat} (h : s.objectAt ag va = .ok pa s1) :
    ∃ t b, Served n s t ∧ s1 = { t with bisnp := b } := by
  unfold State.objectAt at h
  split at h
  · cases h
  · split at h
    · cases h
    · rename_i x _
      dsimp only at h
      split at h
      · cases h
      · have hs := serveEng_served hn s false 2 va x.pa
        generalize s.serveEng ag false 2 va x.pa = r at h hs
        obtain ⟨b, u⟩ := r
        cases b with
        | false => cases h
        | true =>
          dsimp only at h
          split at h
          · cases h
          · rw [hn] at h
            cases h
            exact ⟨_, _, (hs rfl).trans (leafed_fillTlb u ag.fn ag.pasid va).served, rfl⟩

/-- A machine after a request that is over: its record is raised, it is counted, and it is gone (R288, R424). -/
def State.withoutReq (u : State) (n : Nat) (fault : Option FaultRec) (near : Bool) (tenant bytes : Nat) : State :=
  let s := match fault with | some r => u.raise r | none => u
  let s := if near then s else s.tally tenant 3 bytes
  { s with reqs := ndel s.reqs n, portOf := ndel s.portOf n }

theorem withoutReq_eq (u : State) (n : Nat) (fault : Option FaultRec) (near : Bool) (tenant bytes : Nat) : ∃ ac,
    u.withoutReq n fault near tenant bytes =
      { u with acct := ac, reqs := ndel u.reqs n, portOf := ndel u.portOf n, recs := u.recs ++ fault.toList } := by
  cases fault with
  | none =>
    rw [Option.toList_none, List.append_nil]
    cases near <;> exact ⟨_, rfl⟩
  | some r => cases near <;> exact ⟨_, rfl⟩

section
variable {n : Nat} {s : State} {q : Req} (hq : nget Req.reset s.reqs n = q) (hc : q.closed = true) (hx : ∃ x ∈ s.reqs, x.1 = n)
include hq hc hx

theorem arrival_guard : ¬((!(nget Req.reset s.reqs n).closed || !s.reqs.any (fun x => x.1 == n)) = true) := by
  have : s.reqs.any (fun x => x.1 == n) = true := by simpa using hx
  simp [hq, hc, this]

theorem arrivalObjectUpdate_wait {s1 : State}
    (h : s.objectAt (s.reqAgent n q) (BitVec.ofNat 64 q.aova) = .wait s1) :
    exec (.arrivalObjectUpdate n) s = .next s1 := by
  show execArrivalObjectUpdate n s = _
  unfold execArrivalObjectUpdate
  dsimp only
  rw [if_neg (arrival_guard hq hc hx), hq, h]

/-- The event with an object that can be updated (R288). -/
theorem arrivalObjectUpdate_ok {pa : Nat} {s1 : State}
    (h : s.objectAt (s.reqAgent n q) (BitVec.ofNat 64 q.aova) = .ok pa s1) :
    exec (.arrivalObjectUpdate n) s = .next
      (((s1.objectUpdate pa q.bytes q.flags q.fault.isSome (some (s.reqAgent n q).writer)).l1Drop q.core pa).withoutReq n q.fault q.nearBank
        (s.reqAgent n q).tenant q.bytes) := by
  show execArrivalObjectUpdate n s = _
  unfold execArrivalObjectUpdate
  dsimp only
  rw [if_neg (arrival_guard hq hc hx), hq, h]
  rfl

/-- The event with an object that cannot be reached (R290). -/
theorem arrivalObjectUpdate_bad {b : Bool}
    (h : s.objectAt (s.reqAgent n q) (BitVec.ofNat 64 q.aova) = .bad b) :
    ∃ r, r.cause = 0x111 ∧ r.va = BitVec.ofNat 64 q.aova ∧ r.s2 = b ∧
      exec (.arrivalObjectUpdate n) s = .next ((s.withoutReq n q.fault q.nearBank (s.reqAgent n q).tenant q.bytes).raise r) := by
  refine ⟨{ q.base with
    cause := 0x111, va := BitVec.ofNat 64 q.aova, kind := 5, s2 := b, sz := 4,
    tstamp := BitVec.ofNat 22 (s.time / 1024) }, rfl, rfl, rfl, ?_⟩
  show execArrivalObjectUpdate n s = _
  unfold execArrivalObjectUpdate
  dsimp only
  rw [if_neg (arrival_guard hq hc hx), hq, h]
  rfl

end

/-- ARRIVAL_OBJECT_UPDATE of an object at a home (R288). -/
theorem arrivalObjectUpdate_object {n : Nat} {s : State} {q : Req} (hq : nget Req.reset s.reqs n = q) (hc : q.closed = true) (hx : ∃ x ∈ s.reqs, x.1 = n)
    {pa : Nat} {s1 : State} (hp : pa % 16 = 0)
    (h : s.objectAt (s.reqAgent n q) (BitVec.ofNat 64 q.aova) = .ok pa s1) :
    let flags := s.pread (pa + 10) 1 ||| q.flags.toNat
    let arrived := s.pread (pa + 4) 4
    let gen := s.pread (pa + 8) 2
    ∃ v, exec (.arrivalObjectUpdate n) s = .next v ∧ v.reqs = ndel s.reqs n ∧
      v.recs = s.recs ++ q.fault.toList ∧ v.pread (pa + 10) 1 = flags ∧ v.pread pa 4 = s.pread pa 4 ∧
      (q.fault = none → (v.pread (pa + 4) 4, v.pread (pa + 8) 2) = arriveOnce (s.pread pa 4) q.bytes (arrived, gen) ∧
        v.pread (pa + 11) 1 = s.pread (pa + 11) 1) ∧
      (q.fault ≠ none → v.pread (pa + 4) 4 = (arrived + q.bytes) % 2 ^ 32 ∧ v.pread (pa + 8) 2 = gen ∧ v.pread (pa + 11) 1 = 0x80) ∧
      ∀ b, b < pa + 4 ∨ pa + 12 ≤ b → v.byteAt b = s.byteAt b := by
  intro flags arrived gen
  have he := arrivalObjectUpdate_ok hq hc hx h
  obtain ⟨t, bi, ht, rfl⟩ := objectAt_ok (n := n) rfl h
  obtain ⟨hw, hb⟩ := objectUpdate_only { t with bisnp := bi } pa q.bytes q.flags q.fault.isSome (some (s.reqAgent n q).writer)
  have hread : ∀ a k, ({ t with bisnp := bi } : State).pread a k = s.pread a k := ht.pread
  have hok := objectUpdate_reads { t with bisnp := bi } hp q.bytes q.flags (some (s.reqAgent n q).writer)
  have hbad := objectUpdate_fault_reads { t with bisnp := bi } hp q.bytes q.flags (some (s.reqAgent n q).writer)
  simp only [hread] at hok hbad
  generalize hu : ({ t with bisnp := bi } : State).objectUpdate pa q.bytes q.flags q.fault.isSome (some (s.reqAgent n q).writer) = u
    at he hw hb
  obtain ⟨ac, hac⟩ := withoutReq_eq (u.l1Drop q.core pa) n q.fault q.nearBank (s.reqAgent n q).tenant q.bytes
  rw [hac] at he
  obtain ⟨_, _, _, _, _, _, _, hwu⟩ := hw
  have hreqs : u.reqs = t.reqs := by rw [hwu]
  have hrecs : u.recs = t.recs := by rw [hwu]
  have hfinal : ∀ (v : State), (∀ a k, v.pread a k = u.pread a k) → v.pread (pa + 10) 1 = flags ∧ v.pread pa 4 = s.pread pa 4 ∧
      (q.fault = none → (v.pread (pa + 4) 4, v.pread (pa + 8) 2) = arriveOnce (s.pread pa 4) q.bytes (arrived, gen) ∧
        v.pread (pa + 11) 1 = s.pread (pa + 11) 1) ∧
      (q.fault ≠ none → v.pread (pa + 4) 4 = (arrived + q.bytes) % 2 ^ 32 ∧ v.pread (pa + 8) 2 = gen ∧ v.pread (pa + 11) 1 = 0x80) := by
    intro v hv
    simp only [hv]
    cases hf : q.fault with
    | none =>
      rw [hf, Option.isSome_none] at hu
      rw [hu] at hok
      exact ⟨hok.flags, hok.target, fun _ => ⟨by rw [hok.arrived, hok.gen], hok.status⟩, fun hne => absurd rfl hne⟩
    | some r =>
      rw [hf, Option.isSome_some] at hu
      rw [hu] at hbad
      exact ⟨hbad.flags, hbad.target, fun hne => absurd hne (by simp), fun _ => ⟨hbad.arrived, hbad.gen, hbad.status⟩⟩
  obtain ⟨f1, f2, f3, f4⟩ := hfinal { u.l1Drop q.core pa with
    acct := ac, reqs := ndel (u.l1Drop q.core pa).reqs n, portOf := ndel (u.l1Drop q.core pa).portOf n,
    recs := (u.l1Drop q.core pa).recs ++ q.fault.toList } fun _ _ => rfl
  refine ⟨_, he, ?_, ?_, f1, f2, f3, f4, fun b ho => (hb b ho).trans (ht.byteAt b)⟩
  · exact (congrArg (ndel · n) hreqs).trans ht.others
  · exact congrArg (· ++ q.fault.toList) (hrecs.trans ht.recs)

/-- ARRIVAL_OBJECT_UPDATE of an object that cannot be reached (R290). -/
theorem arrivalObjectUpdate_unreachable {n : Nat} {s : State} {q : Req} (hq : nget Req.reset s.reqs n = q) (hc : q.closed = true) (hx : ∃ x ∈ s.reqs, x.1 = n)
    {b : Bool} (h : s.objectAt (s.reqAgent n q) (BitVec.ofNat 64 q.aova) = .bad b) :
    ∃ v, exec (.arrivalObjectUpdate n) s = .next v ∧ v.reqs = ndel s.reqs n ∧ (∀ b, v.byteAt b = s.byteAt b) ∧
      ∃ r, v.recs = s.recs ++ q.fault.toList ++ [r] ∧ r.cause = 0x111 ∧ r.va = BitVec.ofNat 64 q.aova ∧ r.s2 = b := by
  obtain ⟨r, h1, h2, h3, he⟩ := arrivalObjectUpdate_bad hq hc hx h
  obtain ⟨ac, hac⟩ := withoutReq_eq s n q.fault q.nearBank (s.reqAgent n q).tenant q.bytes
  rw [hac] at he
  exact ⟨_, he, rfl, fun _ => rfl, r, rfl, h1, h2, h3⟩

/-- Settles O39: each engine event reads, writes and stops as its request's kind says. -/
theorem engineEvents : Obligations.EngineEvents := by
  unfold Obligations.EngineEvents
  intro n s
  dsimp only
  refine ⟨fun hc hp => ?_, fun hc hp => copyUnitDeliver_unit n s hc hp,
    fun h1 h2 => ⟨peerLineAck_taken h1 h2, peerLineAck_refused h1 h2⟩, fun h1 h2 h3 h4 => metadataEntryPush_room h1 h2 h3 h4,
    fun h1 h2 h3 h4 => codebookWrite_free h1 h2 h3 h4, fun h1 h2 h3 => nearBankTranslate_lines h1 h2 h3,
    fun h1 h2 h3 => nearBankRowDeliver_rows h1 h2 h3, fun h1 h2 => ⟨fun pa s1 h hp => arrivalObjectUpdate_object rfl h1 h2 hp h,
      fun s1 h => arrivalObjectUpdate_wait rfl h1 h2 h, fun s2 h => arrivalObjectUpdate_unreachable rfl h1 h2 h⟩⟩
  rw [copyUnitDeliver_noPort hc hp]
  exact (Served.refl n s).stops _ _ _ _ _

end Sys2Proof.Machine
end

section
/-! What the end of teams and grids never undoes: the steps that Ending.lean is made of, as one order on machines (R27, R28, R60, R135). -/

namespace Sys2Proof.Machine

/-! ## The order -/

/-- A later machine on the way of ending teams and grids. -/
structure Ends (s t : State) : Prop where
  /-- Resident teams. -/
  teams : t.teams = s.teams
  /-- Tile sequencers. -/
  tiles : t.tiles = s.tiles
  /-- Records are raised and none is taken back. -/
  recs : ∃ rs, t.recs = s.recs ++ rs
  /-- Entries join the dispatcher's event ring. -/
  ring : ∃ es, nget [] t.hwRings 3 = nget [] s.hwRings 3 ++ es
  /-- No team is saved. -/
  saved : ∀ k, (∀ x ∈ s.saved, x.1 ≠ k) → ∀ x ∈ t.saved, x.1 ≠ k
  /-- A cancelled grid stays so. -/
  cancelled : ∀ id, (s.grid id).cancelled = true → (t.grid id).cancelled = true
  /-- And one that has had a fault. -/
  fault : ∀ id, (s.grid id).fault = true → (t.grid id).fault = true
  /-- A lane that is gone stays out of its group. -/
  gone : ∀ gk l, (s.group gk).gone l → (t.group gk).gone l

theorem Ends.refl (s : State) : Ends s s :=
  ⟨rfl, rfl, ⟨[], by simp⟩, ⟨[], by simp⟩, fun _ h => h, fun _ h => h, fun _ h => h, fun _ _ h => h⟩

theorem Ends.trans {s t u : State} (h : Ends s t) (h' : Ends t u) : Ends s u := by
  obtain ⟨rs, hr⟩ := h.recs
  obtain ⟨rs', hr'⟩ := h'.recs
  obtain ⟨es, he⟩ := h.ring
  obtain ⟨es', he'⟩ := h'.ring
  exact ⟨h'.teams.trans h.teams, h'.tiles.trans h.tiles, ⟨rs ++ rs', by rw [hr', hr, List.append_assoc]⟩,
    ⟨es ++ es', by rw [he', he, List.append_assoc]⟩, fun k hk => h'.saved k (h.saved k hk),
    fun id hc => h'.cancelled id (h.cancelled id hc), fun id hc => h'.fault id (h.fault id hc),
    fun gk l hg => h'.gone gk l (h.gone gk l hg)⟩

/-- Steps one after the other. -/
theorem ends_foldl {α : Type} (f : State → α → State) (h : ∀ s x, Ends s (f s x)) (l : List α) (s : State) : Ends s (l.foldl f s) :=
  List.foldlRecOn (motive := Ends s) l f (Ends.refl s) fun t ht x _ => ht.trans (h t x)

/-- A machine in which nothing of that has changed. -/
theorem ends_of_same {s t : State} (h1 : t.teams = s.teams) (h2 : t.tiles = s.tiles) (h3 : t.recs = s.recs) (h4 : t.hwRings = s.hwRings)
    (h5 : t.saved = s.saved) (h6 : t.grids = s.grids) (h7 : ∀ gk l, (s.group gk).gone l → (t.group gk).gone l) : Ends s t := by
  refine ⟨h1, h2, ⟨[], by simp [h3]⟩, ⟨[], by simp [h4]⟩, fun k h => by rwa [h5], ?_, ?_, h7⟩ <;>
  · intro id h
    unfold State.grid at *
    rwa [h6]

theorem Sent.ends {s t : State} (h : Sent s t) : Ends s t := by
  obtain ⟨_, _, _, rfl⟩ := h
  exact ends_of_same rfl rfl rfl rfl rfl rfl fun _ _ h => h

/-- A grid whose cancel and fault stand. -/
theorem ends_setGrid (s : State) (id : BitVec 32) (g : Grid) (hc : (s.grid id).cancelled = true → g.cancelled = true)
    (hf : (s.grid id).fault = true → g.fault = true) : Ends s (s.setGrid id g) := by
  refine ⟨rfl, rfl, ⟨[], by simp⟩, ⟨[], by simp [State.setGrid]⟩, fun _ h => h, fun j h => ?_, fun j h => ?_, fun _ _ h => h⟩
  · by_cases hj : j = id
    · rw [hj] at h ⊢
      rw [State.setGrid_grid_same]
      exact hc h
    · rwa [State.setGrid_grid_ne _ _ _ hj]
  · by_cases hj : j = id
    · rw [hj] at h ⊢
      rw [State.setGrid_grid_same]
      exact hf h
    · rwa [State.setGrid_grid_ne _ _ _ hj]

theorem ends_raise (s : State) (r : FaultRec) : Ends s (s.raise r) :=
  ⟨rfl, rfl, ⟨[r], rfl⟩, ⟨[], by simp [State.raise]⟩, fun _ h => h, fun _ h => h, fun _ h => h, fun _ _ h => h⟩

/-- An entry of the dispatcher's ring. -/
theorem ends_dispEvent (s : State) : Ends s s.dispEvent := by
  unfold State.dispEvent State.hwPush
  dsimp only
  split
  · refine ⟨rfl, rfl, ⟨[], by simp⟩, ⟨_, nget_nput_same _ _ _ _⟩, fun _ h => h, fun _ h => h, fun _ h => h, fun _ _ h => h⟩
  · exact ends_of_same rfl rfl rfl rfl rfl rfl fun _ _ h => h

/-- Decisions raised. -/
theorem raisePicks_engines (s : State) : ∃ e, s.raisePicks = { s with pickHeld := [], engines := e } := by
  unfold State.raisePicks
  refine List.foldlRecOn (motive := fun t : State => ∃ e, t = { s with pickHeld := [], engines := e }) _ _ ⟨_, rfl⟩ ?_
  rintro _ ⟨e, rfl⟩ c -
  unfold State.raisePick
  split
  · exact ⟨e, rfl⟩
  · exact raiseOn_engines { s with pickHeld := [], engines := e } _ _
  · exact raiseOn_engines { s with pickHeld := [], engines := e } _ _

theorem ends_raisePicks (s : State) : Ends s s.raisePicks := by
  obtain ⟨e, he⟩ := raisePicks_engines s
  rw [he]
  exact ends_of_same rfl rfl rfl rfl rfl rfl fun _ _ h => h

/-! ## Lanes -/

/-- The records of a group whose lanes end: one for the lanes that were not parked (R376). -/
def ToldOf (g : Group) (c : Nat) (rs : List FaultRec) : Prop :=
  (∀ r ∈ rs, r.cause = c ∧ r.park = false) ∧ (g.frontLanes ≠ 0 → ∃ r ∈ rs, r.lanes = g.frontLanes ∧ r.group = g.gid)

/-- Every live lane of a group ends (R376): its records, and what its lanes come to. -/
theorem killGroup_live (c : Nat) (s : State) (gk : Nat) (h : (s.group gk).live = true) : ∃ rs w f x, ToldOf (s.group gk) c rs ∧
    State.killGroup c false s gk = ({ s with recs := s.recs ++ rs } : State).setGroup gk
      (endLanes x ((s.group gk).frontLanes ||| (s.group gk).parkedLanes) { s.group gk with faulted := f, walks := w }) := by
  unfold State.killGroup
  dsimp only
  rw [h, if_neg (by decide)]
  by_cases h0 : (s.group gk).frontLanes = 0
  · simp only [Bool.false_eq_true, if_false, if_pos h0]
    exact ⟨[], _, _, _, ⟨fun r hr => absurd hr List.not_mem_nil, fun hne => absurd h0 hne⟩, by rw [List.append_nil]⟩
  · simp only [Bool.false_eq_true, if_false, if_neg h0]
    refine ⟨[_], _, _, _, ⟨fun r hr => ?_, fun _ => ⟨_, List.mem_singleton_self _, ?_⟩⟩, rfl⟩
    · rw [List.mem_singleton.1 hr]
      exact ⟨rfl, rfl⟩
    · exact ⟨rfl, rfl⟩

theorem killGroup_dead (c : Nat) (p : Bool) (s : State) (gk : Nat) (h : (s.group gk).live = false) : State.killGroup c p s gk = s := by
  unfold State.killGroup
  dsimp only
  rw [h]
  rfl

theorem ends_killGroup (c : Nat) (s : State) (gk : Nat) : Ends s (State.killGroup c false s gk) := by
  cases h : (s.group gk).live with
  | false =>
    rw [killGroup_dead c false s gk h]
    exact Ends.refl s
  | true =>
    obtain ⟨rs, w, f, x, -, he⟩ := killGroup_live c s gk h
    rw [he]
    refine ⟨rfl, rfl, ⟨rs, rfl⟩, ⟨[], by simp [State.setGroup]⟩, fun _ h => h, fun _ h => h, fun _ h => h, fun k l hg => ?_⟩
    by_cases hk : k = gk
    · rw [hk] at hg ⊢
      rw [State.setGroup_group_same]
      exact gone_endLanes _ (Or.inr hg)
    · rwa [State.setGroup_group_ne _ _ _ hk]

theorem ends_killTeam (s : State) (tk c : Nat) : Ends s (s.killTeam tk c false) := ends_foldl _ (ends_killGroup c) _ _

/-! ## The exit step -/

/-- Every group changed in one way. -/
theorem nget_map {α : Type} (d : α) (f : α → α) (hd : f d = d) (m : NMap α) (n : Nat) :
    nget d (m.map (fun x => (x.1, f x.2))) n = f (nget d m n) := by
  induction m with
  | nil => exact hd.symm
  | cons a r ih =>
    obtain ⟨k, v⟩ := a
    simp only [List.map_cons, nget]
    split
    · rfl
    · exact ih

/-- A machine in which frames have been cleared, and reservations on them lost. -/
def Swept (s t : State) : Prop := (∃ gr tg fr m bi, t = { s with groups := gr, tags := tg, frames := fr, mem := m, bisnp := bi }) ∧
  ∀ gk l, (s.group gk).gone l → (t.group gk).gone l

theorem Swept.refl (s : State) : Swept s s := ⟨⟨_, _, _, _, _, rfl⟩, fun _ _ h => h⟩

theorem Swept.trans {s t u : State} (h : Swept s t) (h' : Swept t u) : Swept s u := by
  obtain ⟨⟨_, _, _, _, _, rfl⟩, hg⟩ := h
  obtain ⟨⟨_, _, _, _, _, rfl⟩, hg'⟩ := h'
  exact ⟨⟨_, _, _, _, _, rfl⟩, fun gk l hx => hg' gk l (hg gk l hx)⟩

theorem swept_foldl {α : Type} (f : State → α → State) (h : ∀ s x, Swept s (f s x)) (l : List α) (s : State) : Swept s (l.foldl f s) :=
  List.foldlRecOn (motive := Swept s) l f (Swept.refl s) fun t ht x _ => ht.trans (h t x)

theorem Swept.ends {s t : State} (h : Swept s t) : Ends s t := by
  obtain ⟨⟨_, _, _, _, _, rfl⟩, hg⟩ := h
  exact ends_of_same rfl rfl rfl rfl rfl rfl hg

/-- Lanes lose reservations and nothing else. -/
theorem gone_filterResv {l : Nat} {g : Group} (h : g.gone l) (p : Nat × Reservation → Bool) : ({ g with resv := g.resv.filter p } : Group).gone l :=
  ⟨h.1, h.2.1, fun r hr => h.2.2 r (List.mem_filter.1 hr).1⟩

theorem swept_discardFrame (s : State) (f : Nat) : Swept s (s.discardFrame f) := by
  refine ⟨⟨_, _, _, _, _, rfl⟩, fun gk l h => ?_⟩
  show (nget Group.reset (s.groups.map _) gk).gone l
  rw [nget_map Group.reset (fun g : Group => { g with resv := g.resv.filter (fun r => r.2.tm || r.2.granule / 1024 != f) }) rfl]
  exact gone_filterResv h _

theorem swept_clearLine (s : State) (pa : Nat) : Swept s (s.clearLine pa) := by
  unfold State.clearLine
  split
  · exact Swept.refl s
  · obtain ⟨m, tg, fr, hu, -⟩ := undiscard_bytes s pa
    rw [hu]
    exact ⟨⟨_, _, _, _, _, rfl⟩, fun _ _ h => h⟩

theorem swept_exitStep (s : State) (t : Team) : Swept s (s.exitStep t) := by
  refine swept_foldl _ (fun u f => ?_) _ _
  unfold State.exitFrame
  split
  · exact swept_foldl _ swept_clearLine _ _
  · exact swept_discardFrame u f

/-- The homes of an exit step: nothing but places and snoops. -/
theorem exitAtHome_sent (s : State) (t : Team) : (match s.exitAtHome t with | .ok u => Sent s u | .wait u => Sent s u) := by
  have hk : (s.senderAgent (.exit t.grid.toNat t.id)).who = .sender (.exit t.grid.toNat t.id) := rfl
  have h := places_sent s hk ((s.exitFrames t).map (· * 65536))
  unfold State.exitAtHome
  dsimp only
  cases hp : s.places (s.senderAgent (.exit t.grid.toNat t.id)) ((s.exitFrames t).map (· * 65536)) with
  | wait u => rw [hp] at h; exact h
  | ok u =>
    rw [hp] at h
    subst h
    dsimp only
    split <;> rename_i he <;> split at he <;> cases he
    · exact sent_leave u hk
    · exact List.foldlRecOn (motive := Sent u) _ _ (sent_setAside u hk false) fun v hv pa _ => hv.trans (sent_sendSnoop v pa)

/-! ## The end of a team -/

/-- A record about each item of a list that wants one, and nothing else. -/
theorem foldl_raise {α : Type} (f : State → α → State) (skip : α → Prop) (P : α → FaultRec → Prop) (h0 : ∀ s x, skip x → f s x = s)
    (h1 : ∀ s x, ¬skip x → ∃ r, f s x = s.raise r ∧ P x r) (xs : List α) (s : State) :
    ∃ rs, xs.foldl f s = { s with recs := s.recs ++ rs } ∧ ∀ x ∈ xs, ¬skip x → ∃ r ∈ rs, P x r := by
  induction xs generalizing s with
  | nil => exact ⟨[], by rw [List.append_nil]; rfl, fun x hx => absurd hx List.not_mem_nil⟩
  | cons a xs ih =>
    rw [List.foldl_cons]
    by_cases ha : skip a
    · rw [h0 s a ha]
      obtain ⟨rs, he, hr⟩ := ih s
      refine ⟨rs, he, fun x hx hne => ?_⟩
      rcases List.mem_cons.1 hx with rfl | hx
      · exact absurd ha hne
      · exact hr x hx hne
    · obtain ⟨r, hf, hp⟩ := h1 s a ha
      obtain ⟨rs, he, hr⟩ := ih (s.raise r)
      rw [hf, he]
      refine ⟨r :: rs, by simp [State.raise], fun x hx hne => ?_⟩
      rcases List.mem_cons.1 hx with rfl | hx
      · exact ⟨r, List.mem_cons_self, hp⟩
      · obtain ⟨r', hm, hp'⟩ := hr x hx hne
        exact ⟨r', List.mem_cons_of_mem _ hm, hp'⟩

/-- The reports of a team's groups (R380). -/
theorem tmvRecords_recs (s : State) (t : Team) (gs : List Group) : ∃ rs, s.tmvRecords t gs = { s with recs := s.recs ++ rs } ∧
    ∀ x ∈ gs, x.faultmask ≠ 0 → ∃ r ∈ rs, r.tmv = true ∧ r.lanes = x.faultmask ∧ r.group = x.gid ∧ r.grid = t.grid := by
  refine foldl_raise _ (fun x => x.faultmask = 0)
    (fun x r => r.tmv = true ∧ r.lanes = x.faultmask ∧ r.group = x.gid ∧ r.grid = t.grid) (fun _ _ h => if_pos h) (fun _ _ h => ?_) gs s
  rw [if_neg h]
  exact ⟨_, rfl, rfl, rfl, rfl, rfl⟩

/-- What an ended team leaves behind: its reports, cleared frames, and its count on the grid (R27, R380, R381). -/
theorem finishTeam_eq (s : State) (t : Team) (gs : List Group) : ∃ rs u, Swept { s with recs := s.recs ++ rs } u ∧
    s.finishTeam t gs = u.setGrid t.grid { s.grid t.grid with
      ended := (s.grid t.grid).ended + 1, fault := (s.grid t.grid).fault || endedByFault t gs } ∧
    ∀ x ∈ gs, x.faultmask ≠ 0 → ∃ r ∈ rs, r.tmv = true ∧ r.lanes = x.faultmask ∧ r.group = x.gid ∧ r.grid = t.grid := by
  obtain ⟨rs, he, hr⟩ := tmvRecords_recs s t gs
  have hsw := swept_exitStep { s with recs := s.recs ++ rs } t
  refine ⟨rs, _, hsw, ?_, hr⟩
  unfold State.finishTeam
  rw [he]
  have hg : (State.exitStep { s with recs := s.recs ++ rs } t).grid t.grid = s.grid t.grid := by
    obtain ⟨⟨_, _, _, _, _, h⟩, -⟩ := hsw
    rw [h]
    rfl
  dsimp only
  rw [hg]

theorem ends_finishTeam (s : State) (t : Team) (gs : List Group) : Ends s (s.finishTeam t gs) := by
  obtain ⟨rs, u, hsw, he, -⟩ := finishTeam_eq s t gs
  have hr : Ends s { s with recs := s.recs ++ rs } :=
    ⟨rfl, rfl, ⟨rs, rfl⟩, ⟨[], by simp⟩, fun _ h => h, fun _ h => h, fun _ h => h, fun _ _ h => h⟩
  have hg : u.grid t.grid = s.grid t.grid := by
    obtain ⟨⟨_, _, _, _, _, h⟩, -⟩ := hsw
    rw [h]
    rfl
  rw [he]
  refine (hr.trans hsw.ends).trans (ends_setGrid u _ _ ?_ ?_) <;> rw [hg]
  · exact id
  · intro h
    simp [h]

/-- A team that is not resident ends (R27, R135). -/
theorem ends_endTeam (s : State) (t : Team) (gs : List Group) : Ends s (s.endTeam t gs) := by
  have h := exitAtHome_sent s t
  unfold State.endTeam
  cases he : s.exitAtHome t with
  | ok u =>
    rw [he] at h
    exact h.ends.trans (ends_finishTeam _ _ _)
  | wait u =>
    rw [he] at h
    exact h.ends.trans (ends_of_same rfl rfl rfl rfl rfl rfl fun _ _ h => h)

/-- A saved team that leaves its slot. -/
theorem ends_freeSlot (s : State) (slot : Nat) : Ends s { s with saved := ndel s.saved slot } :=
  ⟨rfl, rfl, ⟨[], by simp⟩, ⟨[], by simp⟩, fun _ h x hx => h x (List.mem_filter.1 hx).1, fun _ h => h, fun _ h => h, fun _ _ h => h⟩

/-- The records of a saved team whose lanes end (R383, R400). -/
theorem savedRecords_recs (t : Team) (c : Nat) (gs : List Group) (s : State) : ∃ rs,
    gs.foldl (fun s g => if g.frontLanes = 0 then s else s.raise (savedRec s t g c g.frontLanes)) s = { s with recs := s.recs ++ rs } ∧
    ∀ g ∈ gs, g.frontLanes ≠ 0 → ∃ r ∈ rs, r.cause = c ∧ r.lanes = g.frontLanes ∧ r.group = g.gid := by
  refine foldl_raise _ (fun g => g.frontLanes = 0) (fun g r => r.cause = c ∧ r.lanes = g.frontLanes ∧ r.group = g.gid)
    (fun _ _ h => if_pos h) (fun _ _ h => ?_) gs s
  rw [if_neg h]
  exact ⟨_, rfl, rfl, rfl, rfl⟩

/-- A saved team whose lanes end: its records, then the machine with its slot free, then the end of a team. -/
theorem killSaved_eq (s : State) (c slot : Nat) (x : Saved) : ∃ rs t gs,
    s.killSaved c slot x = ({ s with recs := s.recs ++ rs, saved := ndel s.saved slot } : State).endTeam t gs ∧
    ∀ g ∈ x.groups, g.frontLanes ≠ 0 → ∃ r ∈ rs, r.cause = c ∧ r.lanes = g.frontLanes ∧ r.group = g.gid := by
  obtain ⟨rs, he, hr⟩ := savedRecords_recs x.team c x.groups s
  refine ⟨rs, x.team, x.groups.map killSavedGroup, ?_, hr⟩
  unfold State.killSaved
  dsimp only
  rw [he]
  unfold State.endSaved
  dsimp only
  rw [nget_nput_same, ndel_nput]

theorem ends_recordsAndSlot (s : State) (rs : List FaultRec) (slot : Nat) :
    Ends s { s with recs := s.recs ++ rs, saved := ndel s.saved slot } :=
  ⟨rfl, rfl, ⟨rs, rfl⟩, ⟨[], by simp⟩, fun _ h x hx => h x (List.mem_filter.1 hx).1, fun _ h => h, fun _ h => h, fun _ _ h => h⟩

theorem ends_killSaved (s : State) (c slot : Nat) (x : Saved) : Ends s (s.killSaved c slot x) := by
  obtain ⟨rs, t, gs, he, -⟩ := killSaved_eq s c slot x
  rw [he]
  exact (ends_recordsAndSlot s rs slot).trans (ends_endTeam _ _ _)

/-- A killed saved team holds its slot no longer. -/
theorem killSaved_slot (s : State) (c slot : Nat) (x : Saved) : ∀ y ∈ (s.killSaved c slot x).saved, y.1 ≠ slot := by
  obtain ⟨rs, t, gs, he, -⟩ := killSaved_eq s c slot x
  rw [he]
  refine (ends_endTeam _ _ _).saved slot fun y hy => ?_
  simpa using (List.mem_filter.1 hy).2

/-! ## Cancelled grids -/

/-- The cancel of one grid, before its teams end. -/
def State.cancelMark (s : State) (id : BitVec 32) : State := (s.setGrid id { s.grid id with cancelled := true, fault := true }).dispEvent

theorem ends_cancelMark (s : State) (id : BitVec 32) : Ends s (s.cancelMark id) :=
  (ends_setGrid s id { s.grid id with cancelled := true, fault := true } (fun _ => rfl) (fun _ => rfl)).trans (ends_dispEvent _)

theorem cancelOne_eq (c : Nat) (s : State) (id : BitVec 32) : State.cancelOne c s id =
    ((s.cancelMark id).allTeams.filter (fun tk => ((s.cancelMark id).team tk).grid == id)).foldl
      (fun s tk => s.killTeam tk c false) (s.cancelMark id) := rfl

theorem ends_cancelOne (c : Nat) (s : State) (id : BitVec 32) : Ends s (State.cancelOne c s id) := by
  rw [cancelOne_eq]
  exact (ends_cancelMark s id).trans (ends_foldl _ (fun u tk => ends_killTeam u tk c) _ _)

theorem ends_cancelAll (s : State) (c : Nat) (ids : List (BitVec 32)) : Ends s (s.cancelAll c ids) := by
  unfold State.cancelAll
  dsimp only
  refine Ends.trans (ends_foldl (State.cancelOne c) (ends_cancelOne c) ids s) ?_
  exact ends_foldl (fun (s : State) (x : Nat × Saved) => s.killSaved c x.1 x.2) (fun u x => ends_killSaved u c x.1 x.2) _ _

theorem ends_cancelBelow (s : State) (id : BitVec 32) : Ends s (s.cancelBelow id) := ends_cancelAll s _ _

theorem ends_cancelGrids (s : State) (c : Nat) (ids : List (BitVec 32)) : Ends s (s.cancelGrids c ids) := by
  unfold State.cancelGrids
  dsimp only
  exact (ends_cancelAll s c ids).trans (ends_foldl _ ends_cancelBelow _ _)

end Sys2Proof.Machine
end

section
/-! Aborts and the watchdog: the clauses of the statement on teams and grids about lanes that the system ends (R28, R376, R400). -/

namespace Sys2Proof.Machine

/-! ## The lanes of a team -/

/-- Every lane that a group had is gone. -/
def LanesGone (s : State) (gk : Nat) (u : State) : Prop :=
  ∀ l, ((s.group gk).frontLanes ||| (s.group gk).parkedLanes).getLsbD l = true → LaneGone u gk l

theorem LanesGone.later {s t u : State} {gk : Nat} (h : LanesGone s gk t) (he : Ends t u) : LanesGone s gk u := fun l hl =>
  (laneGone_iff u gk l).2 (he.gone gk l ((laneGone_iff t gk l).1 (h l hl)))

theorem LanesGone.of_same {s s1 u : State} {gk : Nat} (h : LanesGone s1 gk u) (hs : s1.group gk = s.group gk) : LanesGone s gk u := by
  unfold LanesGone at *
  rwa [hs] at h

/-- What the end of some groups' lanes leaves: no lane, other groups and memory as they were, and the records. -/
structure Killed (s : State) (c : Nat) (gks : List Nat) (u : State) : Prop where
  /-- No lane is left. -/
  lanes : ∀ gk ∈ gks, (s.group gk).live = true → LanesGone s gk u
  /-- Other groups. -/
  others : ∀ k, k ∉ gks → u.group k = s.group k
  /-- The rest of the machine. -/
  rest : ∃ gr rc, u = { s with groups := gr, recs := rc }
  /-- One record for the lanes of each group that were not parked. -/
  recs : ∃ rs, u.recs = s.recs ++ rs ∧ (∀ r ∈ rs, r.cause = c ∧ r.park = false) ∧
    ∀ gk ∈ gks, (s.group gk).live = true → (s.group gk).frontLanes ≠ 0 →
      ∃ r ∈ rs, r.lanes = (s.group gk).frontLanes ∧ r.group = (s.group gk).gid

theorem killGroup_killed (c : Nat) (s : State) (gk : Nat) : Killed s c [gk] (State.killGroup c false s gk) := by
  cases h : (s.group gk).live with
  | false =>
    rw [killGroup_dead c false s gk h]
    refine ⟨fun k hk hl => ?_, fun _ _ => rfl, ⟨_, _, rfl⟩, ⟨[], by simp, fun r hr => absurd hr List.not_mem_nil, fun k hk hl => ?_⟩⟩ <;>
    · rw [List.mem_singleton.1 hk, h] at hl
      cases hl
  | true =>
    obtain ⟨rs, w, f, x, ⟨h1, h2⟩, he⟩ := killGroup_live c s gk h
    rw [he]
    refine ⟨fun k hk _ l hl => ?_, fun k hk => ?_, ⟨_, _, rfl⟩, ⟨rs, rfl, h1, fun k hk _ hne => ?_⟩⟩
    · rw [List.mem_singleton.1 hk] at hl ⊢
      rw [laneGone_iff, State.setGroup_group_same]
      exact gone_endLanes _ (Or.inl hl)
    · exact State.setGroup_group_ne _ _ _ (by simpa using hk)
    · rw [List.mem_singleton.1 hk] at hne ⊢
      exact h2 hne

theorem killGroups_killed (c : Nat) (gks : List Nat) (s : State) : Killed s c gks (gks.foldl (State.killGroup c false) s) := by
  induction gks generalizing s with
  | nil => exact ⟨fun _ h => absurd h List.not_mem_nil, fun _ _ => rfl, ⟨_, _, rfl⟩, ⟨[], by simp, fun _ h => absurd h List.not_mem_nil,
      fun _ h => absurd h List.not_mem_nil⟩⟩
  | cons a gks ih =>
    rw [List.foldl_cons]
    have h := killGroup_killed c s a
    have h' := ih (State.killGroup c false s a)
    have hends : Ends (State.killGroup c false s a) (gks.foldl (State.killGroup c false) (State.killGroup c false s a)) :=
      ends_foldl _ (ends_killGroup c) _ _
    have hsame : ∀ k, k ≠ a → (State.killGroup c false s a).group k = s.group k := fun k hk => h.others k (by simpa using hk)
    obtain ⟨rs, hr, hc, hg⟩ := h.recs
    obtain ⟨rs', hr', hc', hg'⟩ := h'.recs
    refine ⟨fun k hk hl => ?_, fun k hk => ?_, ?_, ⟨rs ++ rs', by rw [hr', hr, List.append_assoc], fun r hm => ?_, fun k hk hl hne => ?_⟩⟩
    · by_cases hka : k = a
      · rw [hka] at hl ⊢
        exact (h.lanes a (List.mem_singleton_self a) hl).later hends
      · exact (h'.lanes k ((List.mem_cons.1 hk).resolve_left hka) (by rwa [hsame k hka])).of_same (hsame k hka)
    · obtain ⟨hka, hk⟩ := not_or.1 (mt List.mem_cons.2 hk)
      exact (h'.others k hk).trans (hsame k hka)
    · obtain ⟨_, _, h1⟩ := h.rest
      obtain ⟨_, _, h2⟩ := h'.rest
      rw [h2, h1]
      exact ⟨_, _, rfl⟩
    · exact (List.mem_append.1 hm).elim (hc r) (hc' r)
    · by_cases hka : k = a
      · rw [hka] at hl hne ⊢
        obtain ⟨r, hm, hp⟩ := hg a (List.mem_singleton_self a) hl hne
        exact ⟨r, List.mem_append_left _ hm, hp⟩
      · rw [← hsame k hka] at hl hne ⊢
        obtain ⟨r, hm, hp⟩ := hg' k ((List.mem_cons.1 hk).resolve_left hka) hl hne
        exact ⟨r, List.mem_append_right _ hm, hp⟩

/-- Every live lane of a resident team ends (R59, R376, R400). -/
theorem killTeam_killed (s : State) (tk c : Nat) : Killed s c (s.team tk).gks (s.killTeam tk c false) := killGroups_killed c _ s

theorem Killed.teams {s u : State} {c : Nat} {gks : List Nat} (h : Killed s c gks u) : u.teams = s.teams := by
  obtain ⟨_, _, he⟩ := h.rest
  rw [he]

/-- The end of a team's lanes, as the statement has it. -/
def EndedBy (s : State) (c tk : Nat) (u : State) : Prop :=
  (∀ gk ∈ (s.team tk).gks, (s.group gk).live = true → LanesGone s gk u) ∧ (∀ k, k ∉ (s.team tk).gks → u.group k = s.group k) ∧
    (∀ b, u.byteAt b = s.byteAt b) ∧ ∃ rs, u.recs = s.recs ++ rs ∧ (∀ r ∈ rs, r.cause = c ∧ r.park = false) ∧
      ∀ gk ∈ (s.team tk).gks, (s.group gk).live = true → (s.group gk).frontLanes ≠ 0 →
        ∃ r ∈ rs, r.lanes = (s.group gk).frontLanes ∧ r.group = (s.group gk).gid

theorem killTeam_endedBy (s : State) (tk c : Nat) : EndedBy s c tk (s.killTeam tk c false) := by
  have h := killTeam_killed s tk c
  refine ⟨h.lanes, h.others, fun b => ?_, h.recs⟩
  obtain ⟨_, _, he⟩ := h.rest
  rw [he]
  rfl

/-! ## ABORT_TEAM -/

section
variable (s : State) (grid : BitVec 32) (team : Nat)

theorem abortTeam_none (h : s.findTeam grid team = none) : exec (.abortTeam grid team) s = .next s := by
  show execAbortTeam grid team s = _
  simp [execAbortTeam, State.abortTeam, h]

theorem abortTeam_ended {tk : Nat} (h : s.findTeam grid team = some (.inl tk)) (hl : s.liveGroups tk = []) :
    exec (.abortTeam grid team) s = .next s := by
  show execAbortTeam grid team s = _
  simp [execAbortTeam, State.abortTeam, h, hl]

theorem abortTeam_resident {tk : Nat} (h : s.findTeam grid team = some (.inl tk)) (hl : s.liveGroups tk ≠ []) :
    ∃ u, exec (.abortTeam grid team) s = .next u ∧ u.teams = s.teams ∧ EndedBy s 0x146 tk u := by
  refine ⟨s.killTeam tk 0x146 false, ?_, (killTeam_killed s tk 0x146).teams, killTeam_endedBy s tk 0x146⟩
  show execAbortTeam grid team s = _
  simp [execAbortTeam, State.abortTeam, h, hl]

/-- A saved team ends where it is (R400). -/
theorem abortTeam_saved {slot : Nat} (h : s.findTeam grid team = some (.inr slot)) :
    ∃ u rs, exec (.abortTeam grid team) s = .next u ∧ u.recs = s.recs ++ rs ∧
      (∀ g ∈ (nget Saved.reset s.saved slot).groups, g.frontLanes ≠ 0 →
        ∃ r ∈ rs, r.cause = 0x146 ∧ r.lanes = g.frontLanes ∧ r.group = g.gid) ∧
      (∀ x ∈ u.saved, x.1 ≠ slot) := by
  have hu : exec (.abortTeam grid team) s =
      .next ((s.killSaved 0x146 slot (nget Saved.reset s.saved slot)).cancelBelow grid).raisePicks := by
    show execAbortTeam grid team s = _
    simp [execAbortTeam, State.abortTeam, h]
  have he : Ends (s.killSaved 0x146 slot (nget Saved.reset s.saved slot))
      ((s.killSaved 0x146 slot (nget Saved.reset s.saved slot)).cancelBelow grid).raisePicks :=
    (ends_cancelBelow _ _).trans (ends_raisePicks _)
  obtain ⟨rs, t, gs, hk, hr⟩ := killSaved_eq s 0x146 slot (nget Saved.reset s.saved slot)
  obtain ⟨rs1, h1⟩ := (ends_endTeam ({ s with recs := s.recs ++ rs, saved := ndel s.saved slot } : State) t gs).recs
  obtain ⟨rs2, h2⟩ := he.recs
  refine ⟨_, rs ++ rs1 ++ rs2, hu, ?_, fun g hg hne => ?_, he.saved slot (killSaved_slot _ _ _ _)⟩
  · rw [h2, hk, h1]
    simp only [List.append_assoc]
  · obtain ⟨r, hm, hp⟩ := hr g hg hne
    exact ⟨r, List.mem_append_left _ (List.mem_append_left _ hm), hp⟩

end

/-! ## ABORT_GRID -/

/-- An entry joins a ring that has room (R398). -/
theorem dispEvent_room (s : State) (h : (nget [] s.hwRings 3).length < 256) :
    ∃ e, nget [] s.dispEvent.hwRings 3 = nget [] s.hwRings 3 ++ [(e, false)] := by
  unfold State.dispEvent State.hwPush
  dsimp only
  rw [if_pos h]
  exact ⟨_, nget_nput_same _ _ _ _⟩

theorem dispEvent_rest (s : State) : ∃ hw, s.dispEvent = { s with hwRings := hw, free := s.free + 1 } := by
  unfold State.dispEvent State.hwPush
  dsimp only
  split <;> exact ⟨_, rfl⟩

/-- The dispatcher's ring is told, if it has room. -/
def RingTold (s u : State) : Prop := (nget [] s.hwRings 3).length < 256 → ∃ e es, nget [] u.hwRings 3 = nget [] s.hwRings 3 ++ (e, false) :: es

theorem RingTold.later {s t u : State} (h : RingTold s t) (he : Ends t u) : RingTold s u := by
  intro hl
  obtain ⟨e, es, hr⟩ := h hl
  obtain ⟨es', hr'⟩ := he.ring
  exact ⟨e, es ++ es', by rw [hr', hr, List.append_assoc, List.cons_append]⟩

theorem cancelMark_told (s : State) (id : BitVec 32) : RingTold s (s.cancelMark id) ∧ ((s.cancelMark id).grid id).cancelled = true ∧
    ((s.cancelMark id).grid id).fault = true ∧ (s.cancelMark id).teams = s.teams ∧ (s.cancelMark id).groups = s.groups := by
  have hg : ∀ j, (s.cancelMark id).grid j = (s.setGrid id { s.grid id with cancelled := true, fault := true }).grid j := by
    intro j
    obtain ⟨hw, h⟩ := dispEvent_rest (s.setGrid id { s.grid id with cancelled := true, fault := true })
    unfold State.cancelMark
    rw [h]
    rfl
  refine ⟨fun hl => ?_, by rw [hg, State.setGrid_grid_same], by rw [hg, State.setGrid_grid_same], (ends_cancelMark s id).teams, ?_⟩
  · obtain ⟨e, he⟩ := dispEvent_room (s.setGrid id { s.grid id with cancelled := true, fault := true }) hl
    exact ⟨e, [], he⟩
  · obtain ⟨hw, h⟩ := dispEvent_rest (s.setGrid id { s.grid id with cancelled := true, fault := true })
    unfold State.cancelMark
    rw [h]
    rfl

/-- Teams whose lanes end one after the other leave none. -/
theorem killTeams_lanes (c : Nat) (tks : List Nat) (s : State) : ∀ tk ∈ tks, ∀ gk ∈ (s.team tk).gks, (s.group gk).live = true →
    LanesGone s gk (tks.foldl (fun s tk => s.killTeam tk c false) s) := by
  induction tks generalizing s with
  | nil => exact fun _ h => absurd h List.not_mem_nil
  | cons a tks ih =>
    intro tk htk gk hgk hl
    rw [List.foldl_cons]
    have hk := killTeam_killed s a c
    by_cases hin : gk ∈ (s.team a).gks
    · exact (hk.lanes gk hin hl).later (ends_foldl _ (fun u tk => ends_killTeam u tk c) _ _)
    · have hsame := hk.others gk hin
      have hne : tk ≠ a := by
        rintro rfl
        exact hin hgk
      refine (ih (s.killTeam a c false) tk ((List.mem_cons.1 htk).resolve_left hne) gk ?_ ?_).of_same hsame
      · rwa [team_of_teams hk.teams]
      · rwa [hsame]

/-- A cancelled grid: its teams end, and firmware is told (R28, R398). -/
theorem cancelOne_told (c : Nat) (s : State) (id : BitVec 32) :
    RingTold s (State.cancelOne c s id) ∧ ((State.cancelOne c s id).grid id).cancelled = true ∧
    ((State.cancelOne c s id).grid id).fault = true ∧
    ∀ tk ∈ s.allTeams, (s.team tk).grid = id → ∀ gk ∈ (s.team tk).gks, (s.group gk).live = true → LanesGone s gk (State.cancelOne c s id) := by
  obtain ⟨h1, h2, h3, hte, hgr⟩ := cancelMark_told s id
  rw [cancelOne_eq]
  have he : Ends (s.cancelMark id) (((s.cancelMark id).allTeams.filter (fun tk => ((s.cancelMark id).team tk).grid == id)).foldl
      (fun s tk => s.killTeam tk c false) (s.cancelMark id)) := ends_foldl _ (fun u tk => ends_killTeam u tk c) _ _
  refine ⟨h1.later he, he.cancelled id h2, he.fault id h3, fun tk htk hid gk hgk hl => ?_⟩
  have hteam : ∀ j, (s.cancelMark id).team j = s.team j := team_of_teams hte
  have hgroup : ∀ j, (s.cancelMark id).group j = s.group j := fun j => by
    unfold State.group
    rw [hgr]
  refine LanesGone.of_same (killTeams_lanes c _ _ tk (List.mem_filter.2 ⟨?_, ?_⟩) gk ?_ ?_) (hgroup gk)
  · unfold State.allTeams at *
    rwa [hte]
  · simp [hteam, hid]
  · rwa [hteam]
  · rwa [hgroup]

theorem abortGrid_dead (s : State) (grid : BitVec 32) (h : (s.grid grid).present = false) : exec (.abortGrid grid) s = .next s := by
  show execAbortGrid grid s = _
  simp [execAbortGrid, State.abortGrid, h]

/-- ABORT_GRID of a live grid (R400). -/
theorem abortGrid_live (s : State) (grid : BitVec 32) (h : (s.grid grid).present = true) :
    ∃ u, exec (.abortGrid grid) s = .next u ∧ (u.grid grid).cancelled = true ∧ (u.grid grid).fault = true ∧ RingTold s u ∧
      ∀ tk ∈ s.allTeams, (s.team tk).grid = grid → ∀ gk ∈ (s.team tk).gks, (s.group gk).live = true → LanesGone s gk u := by
  obtain ⟨h1, h2, h3, h4⟩ := cancelOne_told 0x146 s grid
  have he : Ends (State.cancelOne 0x146 s grid) (s.cancelGrids 0x146 [grid]).raisePicks := by
    refine Ends.trans ?_ (ends_raisePicks _)
    unfold State.cancelGrids State.cancelAll
    dsimp only [List.foldl_cons, List.foldl_nil]
    refine Ends.trans ?_ (ends_foldl _ ends_cancelBelow _ _)
    exact ends_foldl (fun (s : State) (x : Nat × Saved) => s.killSaved 0x146 x.1 x.2) (fun u x => ends_killSaved u 0x146 x.1 x.2) _ _
  refine ⟨_, ?_, he.cancelled grid h2, he.fault grid h3, h1.later he, fun tk htk hid gk hgk hl => (h4 tk htk hid gk hgk hl).later he⟩
  show execAbortGrid grid s = _
  simp [execAbortGrid, State.abortGrid, h]

/-! ## The watchdog -/

section
variable (s : State) (tk : Nat)

/-- A team that is silent for LIMIT ms (R376). -/
def SilentTeam : Prop :=
  (s.team tk).present = true ∧ (s.reg (s.grid (s.team tk).grid).fn 0x60).toNat % 65536 ≠ 0 ∧
    (s.reg (s.grid (s.team tk).grid).fn 0x60).toNat % 65536 * 1000000 ≤ (s.team tk).silent ∧ s.silenceCounts tk = true

theorem watchdogExpiry_eq [Decidable (SilentTeam s tk)] : exec (.watchdogExpiry tk) s = if SilentTeam s tk then
    .next ((s.killTeam tk 0x144 false).setTeam tk { (s.killTeam tk 0x144 false).team tk with silent := 0 }).dispEvent else .next s := by
  show execWatchdogExpiry tk s = _
  unfold execWatchdogExpiry
  dsimp only
  split
  · rename_i hn
    refine (if_neg ?_).symm
    rintro ⟨h1, h2, h3, h4⟩
    simp [h1, h2, h4] at hn
    omega
  · rename_i hn
    refine (if_pos ?_).symm
    simp only [Bool.or_eq_true, not_or, decide_eq_true_eq, beq_iff_eq, Bool.not_eq_true', Bool.not_eq_false] at hn
    obtain ⟨⟨⟨h1, h2⟩, h3⟩, h4⟩ := hn
    exact ⟨h1, h2, by omega, h4⟩

theorem watchdogExpiry_silent (h : SilentTeam s tk) : ∃ u, exec (.watchdogExpiry tk) s = .next u ∧ EndedBy s 0x144 tk u ∧ RingTold s u ∧
    u.team tk = { s.team tk with silent := 0 } := by
  classical
  obtain ⟨h1, h2, h3, h4⟩ := killTeam_endedBy s tk 0x144
  have hk := killTeam_killed s tk 0x144
  obtain ⟨gr, rc, hrest⟩ := hk.rest
  obtain ⟨hw, hd⟩ := dispEvent_rest ((s.killTeam tk 0x144 false).setTeam tk { (s.killTeam tk 0x144 false).team tk with silent := 0 })
  have hring := dispEvent_room ((s.killTeam tk 0x144 false).setTeam tk { (s.killTeam tk 0x144 false).team tk with silent := 0 })
  refine ⟨_, (watchdogExpiry_eq s tk).trans (if_pos h), ⟨?_, ?_, ?_, ?_⟩, fun hl => ?_, ?_⟩
  · intro gk hgk hl l hb
    rw [hd]
    exact h1 gk hgk hl l hb
  · rw [hd]
    exact h2
  · rw [hd]
    exact h3
  · rw [hd]
    exact h4
  · have hsame : ((s.killTeam tk 0x144 false).setTeam tk { (s.killTeam tk 0x144 false).team tk with silent := 0 }).hwRings = s.hwRings := by
      rw [hrest]
      rfl
    rw [hsame] at hring
    obtain ⟨e, he⟩ := hring hl
    exact ⟨e, [], he⟩
  · rw [hd]
    refine (State.setTeam_team_same _ _ _).trans ?_
    rw [team_of_teams hk.teams]

end

end Sys2Proof.Machine
end

section
/-! Teams that leave their core, and the end of a team (R27, R28, R133, R380, R381). -/

namespace Sys2Proof.Machine

/-! ## Power -/

/-- A machine in which only power control and its event rings have changed. -/
def Powered (s t : State) : Prop := ∃ cl ra po hw, t = { s with clusters := cl, rails := ra, power := po, hwRings := hw }

theorem Powered.refl (s : State) : Powered s s := ⟨_, _, _, _, rfl⟩

theorem Powered.trans {s t u : State} (h : Powered s t) (h' : Powered t u) : Powered s u := by
  obtain ⟨_, _, _, _, rfl⟩ := h
  obtain ⟨_, _, _, _, rfl⟩ := h'
  exact ⟨_, _, _, _, rfl⟩

theorem powered_setCluster (s : State) (c : Nat) (x : Cluster) : Powered s (s.setCluster c x) := ⟨_, _, _, _, rfl⟩

theorem powered_hwPush (s : State) (ring : Nat) (x : BitVec 512) : Powered s (s.hwPush ring x) := by
  unfold State.hwPush
  dsimp only
  split <;> exact ⟨_, _, _, _, rfl⟩

theorem powered_clusterEvent (s : State) (c type src dst : Nat) : Powered s (s.clusterEvent c type src dst) := powered_hwPush s _ _

theorem powered_putCluster (s : State) (c : Nat) (x : Cluster) : Powered s (s.putCluster c x) := ⟨_, _, _, _, rfl⟩

/-- A move that is denied, or not. -/
theorem powered_denied (s : State) (deny : Bool) (c : Nat) (x : Cluster) (src dst : Nat) :
    Powered s (if deny then (s.setCluster c x).clusterEvent c 4 src dst else s) := by
  split
  · exact (powered_setCluster s c x).trans (powered_clusterEvent _ _ _ _ _)
  · exact Powered.refl s

theorem powered_movePoint (s : State) (c p : Nat) : Powered s (s.movePoint c p) := by
  unfold State.movePoint
  lift_lets
  intro x trim deny q s1 x1
  have h : Powered s s1 := powered_denied s deny c _ _ _
  split
  · exact h.trans (powered_putCluster s1 _ _)
  · split <;> exact h.trans (powered_putCluster s1 _ _)

theorem powered_closeState (s : State) (c : Nat) : Powered s (s.closeState c) := by
  unfold State.closeState
  dsimp only
  split
  · split
    · exact Powered.refl s
    · exact (powered_denied s _ _ _ _ _).trans ⟨_, _, _, _, rfl⟩
  · exact Powered.refl s

theorem powered_phaseChange (s : State) (c : Nat) : Powered s (s.phaseChange c) := by
  unfold State.phaseChange
  lift_lets
  intro new s1 _ s2 _ _
  have h : Powered s s2 := (powered_closeState s c).trans (powered_setCluster s1 c _)
  split
  · exact Powered.refl s
  · clear_value s2 new
    cases new with
    | idle => exact h.trans (powered_putCluster s2 _ _)
    | mixed => exact h.trans (powered_movePoint s2 _ _)
    | one kid ph =>
      dsimp only
      split
      · exact h.trans (Powered.trans ⟨_, _, _, _, rfl⟩ (powered_movePoint _ _ _))
      · exact h.trans (powered_movePoint s2 _ _)

/-! ## A team leaves its core -/

/-- What a team that leaves its core leaves alone, and what goes with it (R133, R392). -/
structure LeftCore (s : State) (tk : Nat) (t : State) : Prop where
  /-- The team is resident no longer. -/
  teams : t.teams = ndel s.teams tk
  /-- Its tile sequencer is reset. -/
  tile : (s.tile (tk / 64)).owned = true → (s.tile (tk / 64)).tk = tk → t.tile (tk / 64) = Tile.reset
  /-- Grids, records and saved teams stand. -/
  rest : t.grids = s.grids ∧ t.recs = s.recs ∧ t.saved = s.saved ∧ t.free = s.free

/-- A core without the cached lines of a team's cloister, if it has one (R133). -/
def State.withoutCloister (s : State) (core : Nat) (cid : Option (BitVec 16)) : State :=
  match cid with
  | some c => s.dropCloister core c
  | none => s

theorem withoutCloister_caches (s : State) (core : Nat) (cid : Option (BitVec 16)) :
    ∃ ca, s.withoutCloister core cid = { s with caches := ca } := by
  cases cid <;> exact ⟨_, rfl⟩

/-- The sequencer of a team that owns it is reset. -/
theorem resetTile_tile (s : State) (tk : Nat) (u : State)
    (hu : u = if (s.tile (tk / 64)).owned && (s.tile (tk / 64)).tk == tk then
      (s.setTile (tk / 64) Tile.reset).setSeqBank (tk / 64) (leaveSaving (s.seqBank (tk / 64))) else s) :
    (∃ ti sb, u = { s with tiles := ti, seqBanks := sb }) ∧
      ((s.tile (tk / 64)).owned = true → (s.tile (tk / 64)).tk = tk → u.tile (tk / 64) = Tile.reset) := by
  subst hu
  split
  · exact ⟨⟨_, _, rfl⟩, fun _ _ => nget_nput_same _ _ _ _⟩
  · rename_i h
    exact ⟨⟨_, _, rfl⟩, fun h1 h2 => absurd (by simp [h1, h2]) h⟩

theorem leaveCore_left (s : State) (tk : Nat) : LeftCore s tk (s.leaveCore tk) := by
  unfold State.leaveCore
  lift_lets
  intro t core s1 tile s2 s3
  obtain ⟨ca, h1⟩ : ∃ ca, s1 = { s with caches := ca } := withoutCloister_caches s core t.cid
  obtain ⟨⟨ti, sb, h2⟩, htile⟩ := resetTile_tile s1 tk s2 rfl
  have h3 : s3 = { s with caches := ca, tiles := ti, seqBanks := sb, groups := t.gks.foldl (fun m gk => ndel m gk) s.groups,
                          teams := ndel s.teams tk } := by
    dsimp only [s3]
    rw [h2, h1]
  obtain ⟨cl, ra, po, hw, h4⟩ := powered_phaseChange s3 (clusterOf core)
  rw [h4]
  refine ⟨congrArg State.teams h3, fun ho ht => ?_, (congrArg State.grids h3 :), (congrArg State.recs h3 :),
    (congrArg State.saved h3 :), (congrArg State.free h3 :)⟩
  rw [h1] at htile
  exact htile ho ht

/-! ## TEAM_END -/

/-- A live child of a grid is among the grids that are cancelled with it. -/
theorem mem_childrenOf {s : State} {id g : BitVec 32} {p : BitVec 32 × Nat} (h : (s.grid id).present = true)
    (hp : (s.grid id).parent = some p) (hg : p.1 = g) : id ∈ s.childrenOf [g] := by
  have hm : (id.toNat, s.grid id) ∈ s.grids := by
    rcases nget_mem Grid.reset s.grids id.toNat with hr | hm
    · have : s.grid id = Grid.reset := hr
      rw [this] at h
      cases h
    · exact hm
  refine List.mem_map.2 ⟨_, List.mem_filter.2 ⟨hm, ?_⟩, by simp⟩
  simp [h, hp, hg]

theorem cancelOnes_cancelled (c : Nat) (ids : List (BitVec 32)) (s : State) {id : BitVec 32} (h : id ∈ ids) :
    ((ids.foldl (State.cancelOne c) s).grid id).cancelled = true := by
  induction ids generalizing s with
  | nil => exact absurd h List.not_mem_nil
  | cons a ids ih =>
    rw [List.foldl_cons]
    by_cases ha : id = a
    · rw [ha]
      exact (ends_foldl _ (ends_cancelOne c) _ _).cancelled a (cancelOne_told c s a).2.1
    · exact ih _ ((List.mem_cons.1 h).resolve_left ha)

/-- The live children of a grid whose team ended through a fault are cancelled (R28). -/
theorem cancelBelow_child {s : State} {id g : BitVec 32} {p : BitVec 32 × Nat} (h : (s.grid id).present = true)
    (hp : (s.grid id).parent = some p) (hg : p.1 = g) : ((s.cancelBelow g).grid id).cancelled = true := by
  cases hc : (s.grid id).cancelled with
  | true => exact (ends_cancelBelow s g).cancelled id hc
  | false =>
    have hm := mem_childrenOf h hp hg
    have hd : id ∈ s.descendants 11 [g] := by
      unfold State.descendants
      dsimp only
      rw [if_neg (by simpa using List.ne_nil_of_mem hm)]
      exact List.mem_append_left _ hm
    unfold State.cancelBelow State.cancelAll
    dsimp only
    refine (ends_foldl (fun (s : State) (x : Nat × Saved) => s.killSaved 0x143 x.1 x.2) (fun u x => ends_killSaved u 0x143 x.1 x.2)
      _ _).cancelled id (cancelOnes_cancelled _ _ _ (List.mem_filter.2 ⟨hd, ?_⟩))
    simp [hc]

section
variable {s : State} {tk : Nat}

theorem teamEnd_running (h : s.teamOver tk = false) : exec (.teamEnd tk) s = .next s := by
  show execTeamEnd tk s = _
  simp [execTeamEnd, h]

theorem teamEnd_waits (h : s.teamOver tk = true) {s1 : State}
    (hw : (s.withoutCloister (tk / 64) (s.team tk).cid).exitAtHome (s.team tk) = .wait s1) : exec (.teamEnd tk) s = .next s1 := by
  show execTeamEnd tk s = _
  unfold execTeamEnd
  dsimp only
  rw [if_neg (by simp [h])]
  split
  · rename_i he
    cases he.symm.trans hw
    rfl
  · rename_i he
    cases he.symm.trans hw

/-- A team that is over, at the homes of its exit step (R27, R135). -/
theorem teamEnd_over (h : s.teamOver tk = true) {s1 : State}
    (hw : (s.withoutCloister (tk / 64) (s.team tk).cid).exitAtHome (s.team tk) = .ok s1) :
    exec (.teamEnd tk) s = .next (if endedByFault (s.team tk) ((s.team tk).gks.map s.group) then
      ((s1.finishTeam (s.team tk) ((s.team tk).gks.map s.group)).leaveCore tk).cancelBelow (s.team tk).grid
      else (s1.finishTeam (s.team tk) ((s.team tk).gks.map s.group)).leaveCore tk).raisePicks := by
  show execTeamEnd tk s = _
  unfold execTeamEnd
  dsimp only
  rw [if_neg (by simp [h])]
  split
  · rename_i he
    cases he.symm.trans hw
  · rename_i he
    cases he.symm.trans hw
    rfl

/-- Before its exit step a team's end has changed no team, tile, grid or record. -/
theorem exitAtHome_ok {t : Team} {core : Nat} {s1 : State} (hw : (s.withoutCloister core t.cid).exitAtHome t = .ok s1) :
    s1.teams = s.teams ∧ s1.tiles = s.tiles ∧ s1.grids = s.grids ∧ s1.recs = s.recs := by
  have h := exitAtHome_sent (s.withoutCloister core t.cid) t
  rw [hw] at h
  obtain ⟨_, _, _, h⟩ := h
  obtain ⟨ca, hca⟩ := withoutCloister_caches s core t.cid
  rw [h, hca]
  exact ⟨rfl, rfl, rfl, rfl⟩

/-- A team that is over: its reports, its core, its grid and its grid's children (R27, R28, R380, R381). -/
theorem teamEnd_done (h : s.teamOver tk = true) {s1 : State}
    (hw : (s.withoutCloister (tk / 64) (s.team tk).cid).exitAtHome (s.team tk) = .ok s1) :
    let t := s.team tk
    let g := s.grid t.grid
    let gs := t.gks.map s.group
    ∃ u rs, exec (.teamEnd tk) s = .next u ∧ u.teams = ndel s.teams tk ∧ u.recs = s.recs ++ rs ∧
      (∀ x ∈ gs, x.faultmask ≠ 0 → ∃ r ∈ rs, r.tmv = true ∧ r.lanes = x.faultmask ∧ r.group = x.gid ∧ r.grid = t.grid) ∧
      ((s.tile (tk / 64)).owned = true → (s.tile (tk / 64)).tk = tk → u.tile (tk / 64) = Tile.reset) ∧
      (endedByFault t gs = false → (u.grid t.grid).ended = g.ended + 1 ∧ (u.grid t.grid).fault = g.fault ∧
        ∀ id, id ≠ t.grid → u.grid id = s.grid id) ∧
      (endedByFault t gs = true → (u.grid t.grid).fault = true ∧
        ∀ id p, (s.grid id).present = true → (s.grid id).parent = some p → p.1 = t.grid → (u.grid id).cancelled = true) := by
  intro t g gs
  obtain ⟨e1, e2, e3, e4⟩ := exitAtHome_ok hw
  obtain ⟨rs, w, ⟨⟨_, _, _, _, _, hsw⟩, -⟩, hf, htmv⟩ := finishTeam_eq s1 t gs
  have hg1 : s1.grid t.grid = g := congrArg (nget Grid.reset · t.grid.toNat) e3
  rw [hg1] at hf
  have hwg : ∀ id, w.grid id = s.grid id := fun id => by
    rw [hsw]
    exact congrArg (nget Grid.reset · id.toNat) e3
  obtain ⟨v, hv⟩ : ∃ v, v = (s1.finishTeam t gs).leaveCore tk := ⟨_, rfl⟩
  have hleft : LeftCore (s1.finishTeam t gs) tk v := hv ▸ leaveCore_left _ tk
  obtain ⟨hvg, hvr, -, -⟩ := hleft.rest
  rw [hf] at hleft hvg hvr
  have hteams : v.teams = ndel s.teams tk := by
    rw [hleft.teams, State.setGrid_teams, hsw]
    exact congrArg (ndel · tk) e1
  have hrecs : v.recs = s.recs ++ rs := by
    rw [hvr, State.setGrid_recs, hsw]
    exact congrArg (· ++ rs) e4
  have htile : (s.tile (tk / 64)).owned = true → (s.tile (tk / 64)).tk = tk → v.tile (tk / 64) = Tile.reset := by
    have hsame : (w.setGrid t.grid { g with ended := g.ended + 1, fault := g.fault || endedByFault t gs }).tile (tk / 64) =
        s.tile (tk / 64) := by
      rw [hsw]
      exact congrArg (nget Tile.reset · (tk / 64)) e2
    have ht := hleft.tile
    rwa [hsame] at ht
  have hself : v.grid t.grid = { g with ended := g.ended + 1, fault := g.fault || endedByFault t gs } :=
    (congrArg (nget Grid.reset · t.grid.toNat) hvg).trans (nget_nput_same _ _ _ _)
  have hother : ∀ id, id ≠ t.grid → v.grid id = s.grid id := fun id hid =>
    ((congrArg (nget Grid.reset · id.toNat) hvg).trans (State.setGrid_grid_ne w t.grid _ hid)).trans (hwg id)
  have hexec := teamEnd_over h hw
  cases hfault : endedByFault t gs with
  | false =>
    rw [show endedByFault (s.team tk) ((s.team tk).gks.map s.group) = false from hfault, if_neg Bool.false_ne_true,
      show State.leaveCore _ tk = v from hv.symm] at hexec
    rw [hfault] at hself
    obtain ⟨en, hp⟩ := raisePicks_engines v
    rw [hp] at hexec
    refine ⟨_, rs, hexec, hteams, hrecs, htmv, htile, fun _ => ⟨?_, ?_, hother⟩, fun hc => absurd hc (by simp)⟩
    · exact (congrArg Grid.ended hself :)
    · exact (congrArg Grid.fault hself :).trans (Bool.or_false _)
  | true =>
    rw [show endedByFault (s.team tk) ((s.team tk).gks.map s.group) = true from hfault, if_pos rfl,
      show State.leaveCore _ tk = v from hv.symm] at hexec
    rw [hfault, Bool.or_true] at hself
    have he : Ends v (v.cancelBelow t.grid).raisePicks := (ends_cancelBelow _ _).trans (ends_raisePicks _)
    obtain ⟨rs', hr'⟩ := he.recs
    refine ⟨_, rs ++ rs', hexec, he.teams.trans hteams, by rw [hr', hrecs, List.append_assoc], fun x hx hne => ?_, fun h1 h2 => ?_,
      fun hc => absurd hc (by simp), fun _ => ⟨he.fault t.grid (by rw [hself]), fun id p h1 h2 h3 => ?_⟩⟩
    · obtain ⟨r, hm, hr⟩ := htmv x hx hne
      exact ⟨r, List.mem_append_left _ hm, hr⟩
    · exact (congrArg (nget Tile.reset · (tk / 64)) he.tiles).trans (htile h1 h2)
    · refine (ends_raisePicks _).cancelled id (cancelBelow_child (p := p) ?_ ?_ h3)
      · by_cases hid : id = t.grid
        · rw [hid, hself]
          rw [hid] at h1
          exact h1
        · rw [hother id hid]
          exact h1
      · by_cases hid : id = t.grid
        · rw [hid, hself]
          rw [hid] at h2
          exact h2
        · rw [hother id hid]
          exact h2

end

end Sys2Proof.Machine
end

section
/-! Teams that are saved (R390, R392). -/

namespace Sys2Proof.Machine

/-! ## A slot is written -/

/-- The homes of a slot: nothing but places and snoops. -/
theorem slotAtHome_ok {s : State} {slot : Nat} {v : State} (h : s.slotAtHome slot = .ok v) : Sent s v := by
  -- The kernel compares two matches of heavy scrutinees only as they stand: the definition is rewritten as a function, and its
  -- scrutinee generalized before anything else reduces.
  have e : State.slotAtHome = State.slotAtHome := rfl
  conv at e => rhs; delta State.slotAtHome
  rw [e] at h
  beta_reduce at h
  extract_lets base ag at h
  have hk : ag.who = .sender (.image slot) := rfl
  have hp := places_sent s hk ((slotFrames base).map (· * 65536))
  generalize s.places ag ((slotFrames base).map (· * 65536)) = r at h hp
  cases r with
  | wait u => cases h
  | ok u =>
    have hu : u = s := hp
    subst hu
    dsimp only at h
    generalize (u.slotSnooped base).filter u.unsnooped = ls at h
    split at h
    · cases h
    · split at h
      · cases h
        exact sent_leave u hk
      · cases h

/-- A machine with the same resident and saved teams. -/
def SameTeams (s t : State) : Prop := t.teams = s.teams ∧ t.saved = s.saved

theorem SameTeams.trans {s t u : State} (h : SameTeams s t) (h' : SameTeams t u) : SameTeams s u :=
  ⟨h'.1.trans h.1, h'.2.trans h.2⟩

theorem sameTeams_slotFrame (s : State) (pa : Nat) : SameTeams s (s.slotFrame pa) := by
  obtain ⟨m, tg, fr, hu, -⟩ := undiscard_bytes s pa
  unfold State.slotFrame
  rw [hu]
  dsimp only
  split <;> exact ⟨rfl, rfl⟩

theorem sameTeams_slotFrames (s : State) (base : Nat) (l : List Nat) :
    SameTeams s (l.foldl (fun (s : State) i => s.slotFrame (base + 65536 * i)) s) :=
  List.foldlRecOn (motive := SameTeams s) l _ ⟨rfl, rfl⟩ fun t ht _ _ => ht.trans (sameTeams_slotFrame t _)

theorem sameTeams_writeSlot (s : State) (base : Nat) (fs : Fields) : SameTeams s (s.writeSlot base fs) := by
  have h := sameTeams_slotFrames s base (List.range 32)
  unfold State.writeSlot
  dsimp only
  generalize (List.range 32).foldl _ s = t at h ⊢
  exact ⟨h.1, h.2⟩

theorem sameTeams_pendAgain (s : State) (id : BitVec 32) : SameTeams s (s.pendAgain id) := by
  unfold State.pendAgain
  split <;> exact ⟨rfl, rfl⟩

/-! ## The saved team -/

/-- The image of a team whose save is complete (R392 steps 4 and 5). -/
def State.savedImage (s : State) (tk : Nat) (dormant : Bool) : Saved :=
  { Saved.reset with
    team := { s.team tk with draining := none, silent := 0, waited := 0 }
    groups := (s.team tk).gks.map fun gk => saveGroup (s.group gk)
    tile := if (s.tile (tk / 64)).owned && (s.tile (tk / 64)).tk == tk then some (s.tile (tk / 64)) else none
    dormant := dormant, wake := (s.wakeSet tk).1, wakeChild := (s.wakeSet tk).2.1, immediate := (s.wakeSet tk).2.2
    cluster := clusterOf (tk / 64), since := s.time }

/-- The team has left its core, and its slot holds the image. -/
theorem saveTeam_teams (s : State) (tk slot : Nat) (dormant : Bool) : (s.saveTeam tk slot dormant).teams = ndel s.teams tk ∧
    (s.saveTeam tk slot dormant).saved = nput s.saved slot (s.savedImage tk dormant) := by
  have hleft := leaveCore_left s tk
  obtain ⟨-, -, hsaved, -⟩ := hleft.rest
  unfold State.saveTeam
  lift_lets
  intro t g tile own w _ x s1 s2 s3 s4
  have h2 : SameTeams s1 s2 := sameTeams_writeSlot s1 _ _
  clear_value s2
  have h4 : SameTeams s2 s4 := by
    dsimp only [s4]
    split
    · exact ⟨rfl, rfl⟩
    · exact SameTeams.trans (t := s3) ⟨rfl, rfl⟩ (sameTeams_pendAgain s3 _)
  obtain ⟨hteams, hslots⟩ := h2.trans h4
  exact ⟨hteams.trans hleft.teams, congrArg (nput · slot x) (hslots.trans hsaved)⟩

/-- An entry that has lanes leaves a frontier that is not empty. -/
theorem insertEntry_ne_nil {e : Entry} {f : List Entry} (h : e.mask ≠ 0 ∨ f ≠ []) : insertEntry e f ≠ [] := by
  cases f with
  | nil =>
    have hm : e.mask ≠ 0 := h.resolve_right (fun h => h rfl)
    show (if e.mask = 0 then [] else [e]) ≠ []
    rw [if_neg hm]
    exact List.cons_ne_nil _ _
  | cons a r =>
    unfold insertEntry
    split
    · exact List.cons_ne_nil _ _
    · split <;> exact List.cons_ne_nil _ _

theorem foldl_insertEntry_ne_nil {es f : List Entry} (h : f ≠ [] ∨ ∃ e ∈ es, e.mask ≠ 0) :
    es.foldl (fun acc e => insertEntry e acc) f ≠ [] := by
  induction es generalizing f with
  | nil => exact h.resolve_right fun ⟨_, hm, _⟩ => absurd hm List.not_mem_nil
  | cons a es ih =>
    refine ih ?_
    rcases h with h | ⟨e, hm, he⟩
    · exact Or.inl (insertEntry_ne_nil (Or.inr h))
    · rcases List.mem_cons.1 hm with rfl | hm
      · exact Or.inl (insertEntry_ne_nil (Or.inl he))
      · exact Or.inr ⟨e, hm, he⟩

theorem abandonEntry_masks (x : Regs × List Entry) (e : Entry) :
    (abandonEntry x e).2.map (·.mask) = x.2.map (·.mask) ++ [e.mask] := by
  unfold abandonEntry
  split <;> simp

/-- Abandoned bundles keep the lanes of their entries. -/
theorem abandonEntries_masks (es : List Entry) (x : Regs × List Entry) :
    (es.foldl abandonEntry x).2.map (·.mask) = x.2.map (·.mask) ++ es.map (·.mask) := by
  induction es generalizing x with
  | nil => simp
  | cons e es ih => rw [List.foldl_cons, ih, abandonEntry_masks, List.append_assoc]; rfl

/-- A group with lanes in its frontier is saved with a frontier. -/
theorem saveGroup_frontier {g : Group} (h : ∃ e ∈ g.frontier, e.mask ≠ 0) : (saveGroup g).frontier ≠ [] := by
  obtain ⟨e, hm, he⟩ := h
  have hmask : e.mask ∈ (g.frontier.foldl abandonEntry ({ g.regs with latch := [] }, [])).2.map (·.mask) := by
    rw [abandonEntries_masks]
    exact List.mem_map.2 ⟨e, hm, rfl⟩
  obtain ⟨e', hm', he'⟩ := List.mem_map.1 hmask
  exact foldl_insertEntry_ne_nil (Or.inr ⟨e', hm', by rwa [he']⟩)

section
variable {s : State} {tk : Nat}

theorem savedImage_live {dormant : Bool} (h : ∃ x ∈ (s.team tk).gks.map s.group, ∃ e ∈ x.frontier, e.mask ≠ 0) :
    (s.savedImage tk dormant).dead = false := by
  obtain ⟨x, hx, he⟩ := h
  obtain ⟨gk, hgk, rfl⟩ := List.mem_map.1 hx
  have hne := saveGroup_frontier he
  refine List.all_eq_false.2 ⟨saveGroup (s.group gk), List.mem_map.2 ⟨gk, hgk, rfl⟩, ?_⟩
  simp [hne]

/-! ## CONTEXT_SAVE_COMPLETE -/

/-- The save of a team is due (R392 steps 1 to 3). -/
def SaveDue (s : State) (tk slot : Nat) (dormant : Bool) : Prop :=
  (s.team tk).draining = some (slot, dormant) ∧ (s.team tk).present = true ∧ s.liveGroups tk ≠ [] ∧ s.drained tk = true

theorem contextSaveComplete_none (h : ¬∃ slot dormant, SaveDue s tk slot dormant) : exec (.contextSaveComplete tk) s = .next s := by
  have e : execContextSaveComplete = execContextSaveComplete := rfl
  conv at e => rhs; delta execContextSaveComplete
  show execContextSaveComplete tk s = _
  rw [e]
  beta_reduce
  extract_lets +onlyGivenNames t
  generalize hd : t.draining = d
  cases d with
  | none => rfl
  | some d =>
    obtain ⟨slot, dormant⟩ := d
    refine if_pos ?_
    by_contra hc
    simp only [Bool.or_eq_true, Bool.not_eq_true', List.isEmpty_iff, not_or, Bool.not_eq_false] at hc
    exact h ⟨slot, dormant, hd, hc.1.1, hc.1.2, hc.2⟩

/-- A machine after the event: the decision that the immediate member of its wake set raises. -/
def State.wakeSaved (s : State) (t : Team) (x : Saved) : State :=
  if x.dormant && x.immediate then s.raiseOn x.cluster { Raised.reset with
    point := .wake, tenant := (s.grid t.grid).tenant, cluster := x.cluster, grid := t.grid, team := t.id } else s

theorem sameTeams_wakeSaved (s : State) (t : Team) (x : Saved) : SameTeams s (s.wakeSaved t x).raisePicks := by
  obtain ⟨e, he⟩ := raisePicks_engines (s.wakeSaved t x)
  have h : SameTeams (s.wakeSaved t x) (s.wakeSaved t x).raisePicks := by
    rw [he]
    exact ⟨rfl, rfl⟩
  refine SameTeams.trans ?_ h
  unfold State.wakeSaved
  split
  · obtain ⟨e, he⟩ := raiseOn_engines s x.cluster { Raised.reset with
      point := .wake, tenant := (s.grid t.grid).tenant, cluster := x.cluster, grid := t.grid, team := t.id }
    rw [he]
    exact ⟨rfl, rfl⟩
  · exact ⟨rfl, rfl⟩

theorem contextSaveComplete_due {slot : Nat} {dormant : Bool} (h : SaveDue s tk slot dormant) (P : Out → Prop)
    (hwait : ∀ s1, s.slotAtHome slot = .wait s1 → P (.next s1))
    (hok : ∀ s1, s.slotAtHome slot = .ok s1 →
      P (.next (if (nget Saved.reset (s1.saveTeam tk slot dormant).saved slot).dead then (s1.saveTeam tk slot dormant).endIfDead slot
        else (s1.saveTeam tk slot dormant).wakeSaved (s.team tk) (nget Saved.reset (s1.saveTeam tk slot dormant).saved slot)).raisePicks)) :
    P (exec (.contextSaveComplete tk) s) := by
  obtain ⟨hd, hp, hl, hr⟩ := h
  have e : execContextSaveComplete = execContextSaveComplete := rfl
  conv at e => rhs; delta execContextSaveComplete
  show P (execContextSaveComplete tk s)
  rw [e]
  beta_reduce
  extract_lets +onlyGivenNames t
  rw [show t.draining = some (slot, dormant) from hd]
  show P (if _ then _ else _)
  rw [if_neg (by simp [t, hp, hl, hr])]
  generalize hs : s.slotAtHome slot = r
  cases r with
  | wait s1 => exact hwait s1 hs
  | ok s1 => exact hok s1 hs

theorem contextSaveComplete_waits {slot : Nat} {dormant : Bool} (h : SaveDue s tk slot dormant) {s1 : State}
    (hw : s.slotAtHome slot = .wait s1) : exec (.contextSaveComplete tk) s = .next s1 := by
  refine contextSaveComplete_due h (· = .next s1) (fun s2 h2 => ?_) (fun s2 h2 => ?_) <;> cases h2.symm.trans hw
  rfl

/-- A saved team with lanes is in its slot, and no other slot has changed (R392). -/
theorem contextSaveComplete_saved {slot : Nat} {dormant : Bool} (h : SaveDue s tk slot dormant) {s1 : State}
    (hw : s.slotAtHome slot = .ok s1) (hlive : ∃ x ∈ (s.team tk).gks.map s.group, ∃ e ∈ x.frontier, e.mask ≠ 0) :
    ∃ u, exec (.contextSaveComplete tk) s = .next u ∧ u.teams = ndel s.teams tk ∧
      u.saved = nput s.saved slot (s1.savedImage tk dormant) := by
  obtain ⟨hteams, hslots⟩ : SameTeams s s1 := by
    obtain ⟨_, _, _, rfl⟩ := slotAtHome_ok hw
    exact ⟨rfl, rfl⟩
  obtain ⟨ht, hsv⟩ := saveTeam_teams s1 tk slot dormant
  have hnd : (s1.savedImage tk dormant).dead = false := by
    obtain ⟨_, _, _, rfl⟩ := slotAtHome_ok hw
    exact savedImage_live hlive
  refine contextSaveComplete_due h (fun o => ∃ u, o = .next u ∧ u.teams = ndel s.teams tk ∧
    u.saved = nput s.saved slot (s1.savedImage tk dormant)) (fun s2 h2 => by cases h2.symm.trans hw) fun s2 h2 => ?_
  cases h2.symm.trans hw
  generalize s1.saveTeam tk slot dormant = z at ht hsv ⊢
  rw [hsv, nget_nput_same, hnd, if_neg Bool.false_ne_true]
  obtain ⟨h3, h4⟩ := sameTeams_wakeSaved z (s.team tk) (s1.savedImage tk dormant)
  exact ⟨_, rfl, h3.trans (ht.trans (hteams ▸ rfl)), h4.trans (hsv.trans (hslots ▸ rfl))⟩

/-- What the slot of a saved team holds, and what the others do. -/
theorem contextSaveComplete_slot {slot : Nat} {dormant : Bool} (h : SaveDue s tk slot dormant) {s1 : State}
    (hw : s.slotAtHome slot = .ok s1) (hlive : ∃ x ∈ (s.team tk).gks.map s.group, ∃ e ∈ x.frontier, e.mask ≠ 0) :
    let t := s.team tk
    let gs := t.gks.map s.group
    ∃ u, exec (.contextSaveComplete tk) s = .next u ∧ u.teams = ndel s.teams tk ∧
      let x := nget Saved.reset u.saved slot
      x.team = { t with draining := none, silent := 0, waited := 0 } ∧ x.dormant = dormant ∧ x.cluster = tk / 64 / 8 ∧
      x.since = s.time ∧ x.groups.map (·.gid) = gs.map (·.gid) ∧ x.groups.map (·.parked) = gs.map (·.parked) ∧
      (∀ k, k ≠ slot → nget Saved.reset u.saved k = nget Saved.reset s.saved k) := by
  intro t gs
  obtain ⟨u, he, hteams, hsaved⟩ := contextSaveComplete_saved h hw hlive
  obtain ⟨_, _, _, rfl⟩ := slotAtHome_ok hw
  refine ⟨u, he, hteams, ?_⟩
  rw [hsaved, nget_nput_same]
  refine ⟨rfl, rfl, rfl, rfl, ?_, ?_, fun k hk => nget_nput_ne _ _ _ hk⟩ <;>
  · simp only [State.savedImage, gs, List.map_map]
    rfl

end

end Sys2Proof.Machine
end

section
/-! Grids that retire (R27, R29, R334). -/

namespace Sys2Proof.Machine

/-! ## An object reached from the I/O die -/

/-- What reaching an object has changed: places, snoops and cached translations. -/
def IoObject.reachedFrom (s : State) : IoObject → Prop
  | .ok _ t => Visited s t
  | .bad _ _ => True
  | .wait t => Sent s t

theorem ioObject_reached (s : State) {ag : Agent} {k : Sender} (hk : ag.who = .sender k) (va : Dword) :
    (s.ioObject ag va 5).reachedFrom s := by
  unfold State.ioObject
  split
  · trivial
  · rename_i x _
    have hp := writeAtHome_sent s hk (s.withNodes ag [va] [x.pa]) x.pa 16
    extract_lets +onlyGivenNames q
    split
    · trivial
    · split
      · trivial
      · extract_lets +onlyGivenNames pas
        rw [if_pos (show (5 == 5) = true from rfl)]
        generalize s.writeAtHome ag pas x.pa 16 = r at hp
        cases r with
        | wait s1 => exact hp
        | ok s1 => exact Visited.trans (Sent.visited hp) (leafed_fillTlb s1 ag.fn ag.pasid va).visited

/-! ## A grid is dropped -/

/-- A machine without a grid, whose packet completes with the records that it counts (R29, R334). -/
def State.dropGrid (s : State) (grid : BitVec 32) (g : Grid) (more : List FaultRec) : State :=
  let s := { s with grids := ndel s.grids grid.toNat }
  let s := match g.job with
    | some n => s.completeJob n (if g.fault then 0x01 else 0x00) (g.firstCause.or (more.map FaultRec.cause).head?) g.evtag.toNat
        (g.nflt + more.length) 0
    | none => s
  s.wakeParent g.parent

/-- A grid is gone, and its packet has completed with the count and the first cause of its records. -/
def GridGone (s : State) (grid : BitVec 32) (more : List FaultRec) (u : State) : Prop :=
  let g := s.grid grid
  (u.grid grid).present = false ∧ (∀ id, id ≠ grid → u.grid id = s.grid id) ∧
    ∀ n, g.job = some n → u.jobs = ndel s.jobs n ∧
      let j := nget Job.reset s.jobs n
      let k := j.entry.fn * 16 + j.entry.er
      (rawField j.raw 1 1 % 2 = 1 ∨ g.fault = true → ∃ r, nget [] u.ringWait k = nget [] s.ringWait k ++ [r] ∧
        r.status = (if g.fault then 1 else 0) ∧ r.evtag = g.evtag.toNat ∧ r.aqi = j.aqi ∧
        r.nflt = min (g.nflt + more.length) 0xFFFF ∧
        r.cause = (match g.firstCause.or (more.map (·.cause)).head? with | some c => 0x8000 + c % 512 | none => 0)) ∧
      (rawField j.raw 1 1 % 2 = 0 → g.fault = false → u.ringWait = s.ringWait)

/-- Raised decisions change engines alone. -/
theorem wakeParent_engines (s : State) (p : Option (BitVec 32 × Nat)) : ∃ e, s.wakeParent p = { s with engines := e } := by
  unfold State.wakeParent
  refine List.foldlRecOn (motive := fun t : State => ∃ e, t = { s with engines := e }) _ _ ⟨_, rfl⟩ ?_
  rintro _ ⟨e, rfl⟩ x -
  dsimp only
  split
  · obtain ⟨e', he⟩ := raiseOn_engines { s with engines := e } x.2.cluster { Raised.reset with
      point := .wake, tenant := (({ s with engines := e } : State).grid x.2.team.grid).tenant, cluster := x.2.cluster,
      grid := x.2.team.grid, team := x.2.team.id }
    exact ⟨e', he⟩
  · exact ⟨e, rfl⟩

/-- A completed packet has left its jobs, and changes nothing else but its ring. -/
theorem completeJob_rest (s : State) (n status : Nat) (cause : Option Nat) (evtag nflt detail : Nat) :
    ∃ rw, s.completeJob n status cause evtag nflt detail = { s with jobs := ndel s.jobs n, ringWait := rw } := by
  unfold State.completeJob State.complete
  dsimp only
  split <;> exact ⟨_, rfl⟩

/-- A packet that asks for no record and has no status leaves its ring. -/
theorem completeJob_silent (s : State) {n : Nat} {cause : Option Nat} {evtag nflt detail : Nat}
    (h : rawField (nget Job.reset s.jobs n).raw 1 1 % 2 = 0) : (s.completeJob n 0 cause evtag nflt detail).ringWait = s.ringWait := by
  unfold State.completeJob State.complete
  dsimp only
  rw [if_pos ⟨h, rfl⟩]

/-- Any other packet adds one record to its ring (R334). -/
theorem completeJob_record (s : State) {n status : Nat} {cause : Option Nat} {evtag nflt detail : Nat}
    (h : rawField (nget Job.reset s.jobs n).raw 1 1 % 2 = 1 ∨ status ≠ 0) :
    let j := nget Job.reset s.jobs n
    let k := j.entry.fn * 16 + j.entry.er
    ∃ r, nget [] (s.completeJob n status cause evtag nflt detail).ringWait k = nget [] s.ringWait k ++ [r] ∧ r.status = status ∧
      r.evtag = evtag ∧ r.aqi = j.aqi ∧ r.nflt = min nflt 0xFFFF ∧
      r.cause = (match cause with | some c => 0x8000 + c % 512 | none => 0) := by
  intro j k
  unfold State.completeJob State.complete
  dsimp only
  rw [if_neg (fun hc : pkFlags j.raw % 2 = 0 ∧ status = 0 => h.elim (fun h1 => absurd (hc.1.symm.trans h1) (by decide)) (· hc.2))]
  exact ⟨_, nget_nput_same _ _ _ _, rfl, rfl, rfl, rfl, rfl⟩

/-- A grid is dropped from a machine that has only raised records and written its object since. -/
theorem dropGrid_gone {s t : State} (grid : BitVec 32) (more : List FaultRec) (hg : t.grids = s.grids) (hj : t.jobs = s.jobs)
    (hw : t.ringWait = s.ringWait) : GridGone s grid more (t.dropGrid grid (s.grid grid) more) ∧
      (t.dropGrid grid (s.grid grid) more).recs = t.recs ∧ ∀ b, (t.dropGrid grid (s.grid grid) more).byteAt b = t.byteAt b := by
  have hgone : ∀ id : BitVec 32, nget Grid.reset (ndel t.grids grid.toNat) id.toNat = if id.toNat = grid.toNat then Grid.reset else s.grid id := by
    intro id
    rw [nget_ndel, hg]
    rfl
  have hself : nget Grid.reset (ndel t.grids grid.toNat) grid.toNat = Grid.reset := (hgone grid).trans (if_pos rfl)
  have hother : ∀ id, id ≠ grid → nget Grid.reset (ndel t.grids grid.toNat) id.toNat = s.grid id := fun id h =>
    (hgone id).trans (if_neg fun e => h (BitVec.eq_of_toNat_eq e))
  unfold State.dropGrid
  lift_lets
  intro t1 t2
  obtain ⟨e, he⟩ := wakeParent_engines t2 (s.grid grid).parent
  rw [he]
  cases hjob : (s.grid grid).job with
  | none =>
    have h2 : t2 = t1 := by
      dsimp only [t2]
      rw [hjob]
    rw [h2]
    exact ⟨⟨congrArg Grid.present hself, hother, fun n hn => by rw [hjob] at hn; cases hn⟩, rfl, fun b => rfl⟩
  | some n =>
    have h2 : t2 = t1.completeJob n (if (s.grid grid).fault then 0x01 else 0x00)
        ((s.grid grid).firstCause.or (more.map FaultRec.cause).head?) (s.grid grid).evtag.toNat ((s.grid grid).nflt + more.length) 0 := by
      dsimp only [t2]
      rw [hjob]
    have hjobs : nget Job.reset t1.jobs n = nget Job.reset s.jobs n := congrArg (nget Job.reset · n) hj
    obtain ⟨w, hrest⟩ := completeJob_rest t1 n (if (s.grid grid).fault then 0x01 else 0x00)
      ((s.grid grid).firstCause.or (more.map FaultRec.cause).head?) (s.grid grid).evtag.toNat ((s.grid grid).nflt + more.length) 0
    rw [h2, hrest]
    refine ⟨⟨congrArg Grid.present hself, hother, fun n' hn' => ?_⟩, rfl, fun b => rfl⟩
    cases hjob.symm.trans hn'
    refine ⟨congrArg (ndel · n) hj, fun hr => ?_, fun hr hf => ?_⟩
    · obtain ⟨r, hring, hst, hev, hq, hn, hc⟩ := completeJob_record t1 (n := n) (status := if (s.grid grid).fault then 0x01 else 0x00)
        (cause := (s.grid grid).firstCause.or (more.map FaultRec.cause).head?) (evtag := (s.grid grid).evtag.toNat)
        (nflt := (s.grid grid).nflt + more.length) (detail := 0) (by
          rw [hjobs]
          exact hr.imp_right fun h => by simp [h])
      rw [hrest, hjobs] at hring
      rw [hjobs] at hq
      exact ⟨r, hring.trans (congrArg (nget [] · _ ++ [r]) hw), hst, hev, hq, hn, hc⟩
    · have hsilent := completeJob_silent t1 (n := n) (cause := (s.grid grid).firstCause.or (more.map FaultRec.cause).head?)
        (evtag := (s.grid grid).evtag.toNat) (nflt := (s.grid grid).nflt + more.length) (detail := 0) (by rw [hjobs]; exact hr)
      rw [hf, if_neg Bool.false_ne_true] at hrest
      rw [hrest] at hsilent
      exact hsilent.trans hw

/-! ## GRID_RETIRE -/

/-- A grid has nothing left to wait for (R27, R381). -/
def RetireDue (s : State) (grid : BitVec 32) : Prop :=
  (s.grid grid).present = true ∧ s.teamsOver grid = true ∧ s.childrenOf [grid] = [] ∧ ∀ r ∈ s.recs, r.grid ≠ grid

section
variable {s : State} {grid : BitVec 32}

/-- The condition of the event. -/
theorem retireDue_iff : (!(s.grid grid).present || !s.teamsOver grid || !(s.childrenOf [grid]).isEmpty ||
    s.recs.any (fun r => r.grid == grid)) = true ↔ ¬RetireDue s grid := by
  rw [← Bool.not_eq_false, not_iff_not]
  simp [RetireDue, and_assoc]

theorem gridRetire_early (h : ¬RetireDue s grid) : exec (.gridRetire grid) s = .next s := by
  show execGridRetire grid s = _
  unfold execGridRetire
  exact if_pos (retireDue_iff.2 h)

theorem gridRetire_waits (h : RetireDue s grid) {s1 : State} (hd : s.doneUpdate grid = .error s1) :
    exec (.gridRetire grid) s = .next s1 := by
  show execGridRetire grid s = _
  unfold execGridRetire
  extract_lets +onlyGivenNames g
  rw [if_neg (fun hc => retireDue_iff.1 hc h), hd]

/-- What a grid that is due comes to, once its completion object is settled. -/
theorem gridRetire_drops (h : RetireDue s grid) {t : State} {rs : List FaultRec} (hd : s.doneUpdate grid = .ok (t, rs)) :
    exec (.gridRetire grid) s = .next ((t.raiseAll (if (s.grid grid).mute then [] else rs)).1.dropGrid grid (s.grid grid)
      (t.raiseAll (if (s.grid grid).mute then [] else rs)).2) := by
  show execGridRetire grid s = _
  unfold execGridRetire
  extract_lets +onlyGivenNames g
  rw [if_neg (fun hc => retireDue_iff.1 hc h), hd]
  rfl

/-- Without records the grid goes from the machine that its object's update left. -/
theorem gridRetire_quiet (h : RetireDue s grid) {t : State} {rs : List FaultRec} (hd : s.doneUpdate grid = .ok (t, rs))
    (hrs : (if (s.grid grid).mute then [] else rs) = []) (hg : t.grids = s.grids) (hj : t.jobs = s.jobs) (hw : t.ringWait = s.ringWait) :
    ∃ u, exec (.gridRetire grid) s = .next u ∧ GridGone s grid [] u ∧ u.recs = t.recs ∧ ∀ b, u.byteAt b = t.byteAt b := by
  have he := gridRetire_drops h hd
  rw [hrs, raiseAll_nil] at he
  exact ⟨_, he, dropGrid_gone grid [] hg hj hw⟩

/-! ## The completion object -/

theorem doneUpdate_none (h : (s.grid grid).doneva = 0) : s.doneUpdate grid = .ok (s, []) := if_pos h

theorem doneUpdate_wait (h : (s.grid grid).doneva ≠ 0) {s1 : State}
    (hi : s.ioObject (s.gridAgent grid) (s.grid grid).doneva 5 = .wait s1) : s.doneUpdate grid = .error s1 := by
  unfold State.doneUpdate
  extract_lets +onlyGivenNames g
  rw [if_neg h, hi]

theorem doneUpdate_ok (h : (s.grid grid).doneva ≠ 0) {pa : Nat} {s1 : State}
    (hi : s.ioObject (s.gridAgent grid) (s.grid grid).doneva 5 = .ok pa s1) :
    s.doneUpdate grid = .ok (s1.objectUpdate pa 1 0 (s.grid grid).fault none, []) := by
  unfold State.doneUpdate
  extract_lets +onlyGivenNames g
  rw [if_neg h, hi]

/-- An object that cannot be reached, and the record that says so. -/
theorem doneUpdate_bad (h : (s.grid grid).doneva ≠ 0) {c : Nat} {b : Bool}
    (hi : s.ioObject (s.gridAgent grid) (s.grid grid).doneva 5 = .bad c b) : ∃ r : FaultRec,
    s.doneUpdate grid = .ok (s, [r]) ∧ r.cause = 0x111 ∧ r.va = (s.grid grid).doneva ∧ r.grid = grid ∧ r.s2 = b := by
  unfold State.doneUpdate
  extract_lets +onlyGivenNames g
  rw [if_neg h, hi]
  exact ⟨_, rfl, rfl, rfl, rfl, rfl⟩

/-- A grid whose object is updated. -/
theorem gridRetire_updates (h : RetireDue s grid) (hv : (s.grid grid).doneva ≠ 0) {pa : Nat} {s1 : State}
    (hi : s.ioObject (s.gridAgent grid) (s.grid grid).doneva 5 = .ok pa s1) :
    ∃ u, exec (.gridRetire grid) s = .next u ∧ GridGone s grid [] u ∧ u.recs = s.recs ∧
      ∀ b, u.byteAt b = (s1.objectUpdate pa 1 0 (s.grid grid).fault none).byteAt b := by
  have hr := ioObject_reached s (ag := s.gridAgent grid) (k := .grid grid.toNat) rfl (s.grid grid).doneva
  rw [hi] at hr
  obtain ⟨_, _, _, _, _, _, hs1, -⟩ := hr
  obtain ⟨⟨_, _, _, _, _, _, _, ho⟩, -⟩ := objectUpdate_only s1 pa 1 0 (s.grid grid).fault none
  have hd := doneUpdate_ok hv hi
  obtain ⟨u, he, hgone, hrecs, hb⟩ := gridRetire_quiet h hd (ite_self []) (by rw [ho, hs1]) (by rw [ho, hs1]) (by rw [ho, hs1])
  exact ⟨u, he, hgone, hrecs.trans (by rw [ho, hs1]), hb⟩

/-- A grid whose object cannot be reached. -/
theorem gridRetire_raises (h : RetireDue s grid) (hv : (s.grid grid).doneva ≠ 0) (hm : (s.grid grid).mute = false) {c : Nat} {b : Bool}
    (hi : s.ioObject (s.gridAgent grid) (s.grid grid).doneva 5 = .bad c b) :
    ∃ u r, exec (.gridRetire grid) s = .next u ∧ GridGone s grid (if s.written r then [r] else []) u ∧ u.recs = s.recs ++ [r] ∧
      r.cause = 0x111 ∧ r.va = (s.grid grid).doneva ∧ r.grid = grid ∧ r.s2 = b := by
  obtain ⟨r, hd, hr⟩ := doneUpdate_bad hv hi
  have he := gridRetire_drops h hd
  rw [hm, if_neg Bool.false_ne_true, raiseAll_one] at he
  obtain ⟨hgone, hrecs, -⟩ := dropGrid_gone (s := s) (t := s.raise r) grid (if s.written r then [r] else []) rfl rfl rfl
  exact ⟨_, r, he, hgone, hrecs, hr⟩

end

end Sys2Proof.Machine
end

section
/-! The statement on teams and grids (O49), from the clauses about its events. -/

namespace Sys2Proof.Machine

/-- Settles O49: the clauses about aborts, the watchdog, the end and the save of a team, and the end of a grid, each from its event. -/
theorem teamsAndGrids : Obligations.TeamsAndGrids := by
  classical
  unfold Obligations.TeamsAndGrids
  intro s told ended ring3
  refine ⟨fun grid team => ⟨abortTeam_none s grid team, fun tk h => ⟨abortTeam_ended s grid team h, abortTeam_resident s grid team h⟩,
    fun slot h => abortTeam_saved s grid team h⟩, fun grid => ⟨abortGrid_dead s grid, abortGrid_live s grid⟩, fun tk => ?_, fun grid => ?_⟩
  · intro t g gs limit silent
    refine ⟨fun h => (watchdogExpiry_eq s tk).trans (if_neg h), watchdogExpiry_silent s tk, teamEnd_running,
      fun h => ⟨fun s1 hw => teamEnd_waits h hw, fun s1 hw => teamEnd_done h hw⟩, fun slot dormant => ?_⟩
    exact ⟨fun s1 h hw => contextSaveComplete_waits h hw, contextSaveComplete_none, fun s1 h hw hlive => contextSaveComplete_slot h hw hlive⟩
  · intro g due gone
    have hgone : ∀ more u, GridGone s grid more u → gone more u := fun _ _ h => h
    refine ⟨gridRetire_early, fun h hv => ?_, fun h hv => ⟨fun s1 hi => ?_, fun pa s1 hi => ?_, fun c b hi => ⟨fun hm => ?_, fun hm => ?_⟩⟩⟩
    · obtain ⟨u, he, hd, hr, hb⟩ := gridRetire_quiet h (doneUpdate_none hv) (ite_self []) rfl rfl rfl
      exact ⟨u, he, hgone _ _ hd, hr, hb⟩
    · have hsent := ioObject_reached s (ag := s.gridAgent grid) (k := .grid grid.toNat) rfl g.doneva
      rw [hi] at hsent
      exact ⟨gridRetire_waits h (doneUpdate_wait hv hi), hsent.same⟩
    · obtain ⟨u, he, hd, hr, hb⟩ := gridRetire_updates h hv hi
      exact ⟨u, he, hgone _ _ hd, hr, hb⟩
    · obtain ⟨r, hd, -⟩ := doneUpdate_bad hv hi
      obtain ⟨u, he, hd, hr, -⟩ := gridRetire_quiet h hd (if_pos hm) rfl rfl rfl
      exact ⟨u, he, hgone _ _ hd, hr⟩
    · obtain ⟨u, r, he, hd, hr⟩ := gridRetire_raises h hv hm hi
      exact ⟨u, r, he, hgone _ _ hd, hr⟩

end Sys2Proof.Machine
end
